-- ==== Sys2Proof/Word.lean ====
section
/-! DEFINITION. The word types of the FW48: the 32-bit word of the exchange memory and of the time tag, the byte of the two
serial links, and the 16-bit generation. -/

namespace Sys2Proof

/-- A word of the exchange memory, and the width of a time tag (Terms; R199). -/
abbrev Word := BitVec 32

/-- A byte of a serial link or of the settings store. -/
abbrev Byte := BitVec 8

/-- A dose generation: 16 bits, wrapping from 65,535 to 0 (Conventions; R136). -/
abbrev Gen := BitVec 16

end Sys2Proof
end

