-- ==== Sys2Proof/Syntax.lean ====
section
/-! DEFINITION. The commands of the FW48: one constructor for each row of spec/opcode_table.json, in the table's order, with the
data the event brings from outside the part. -/

namespace Sys2Proof

/-- A character of the filler link as its receiver has sampled it (R75): the eight data bits, the parity bit, whether the stop bit
was at the idle level, and whether the line was held at the start level for longer than the character (a break). -/
structure LineChar where
  data : Byte
  parity : Bool
  stopIdle : Bool
  held : Bool
deriving DecidableEq, Repr

/-- The two serial links. -/
inductive Link where
  | filler
  | reader
deriving DecidableEq, Repr

/-- The commands the part takes. Each docstring names the row's rule and its operands. -/
inductive Instr where
  /-- R169: the power-on detector or RESET_N acts, and holds the reset. -/
  | fullReset
  /-- R169: the last word of the exchange memory has been written to zero. -/
  | clearingComplete
  /-- R35: the LOADING read of the settings store has ended with these 32 bytes. -/
  | storeReadEnd (bytes : List Byte)
  /-- R176, R194: a host write to CONTROL with bit 0 set. The other bits are ignored. -/
  | restart (value : Word)
  /-- R195: a host write to NOTICE. -/
  | noticeClear (value : Word)
  /-- R195: a host write to NOTICE_MASK. -/
  | noticeMaskWrite (value : Word)
  /-- R194: a host write to IDENT, or to CONTROL with bit 0 clear. -/
  | registerWriteIgnored (addr value : Word)
  /-- R192: a host word write at a word address that is not one of the four registers. -/
  | hostMemoryWrite (addr value : Word)
  /-- R193: the 1 ms refusal holdoff runs out. -/
  | refusalHoldoffExpiry
  /-- R199: the time tag passes from 4,294,967,295 to 0. -/
  | timeWrap
  /-- R1: the converter delivers a sample, a signed 24-bit count. -/
  | sampleArrival (count : BitVec 24)
  /-- R32: the store has reported the write finished and these 32 bytes were read back. -/
  | storeWriteCompared (readBack : List Byte)
  /-- R32: the 20 ms store timer runs out. -/
  | storeTimerExpiry
  /-- R2: the 5 ms converter watch runs out. -/
  | converterWatchExpiry
  /-- R5: PLATFORM_IN becomes active. -/
  | platformInArrival
  /-- R6: PLATFORM_OUT becomes active. -/
  | platformOutArrival
  /-- R172: LINE_RUN goes from low to high. -/
  | lineRunRise
  /-- R172: LINE_RUN goes from high to low. -/
  | lineRunFall
  /-- R8: the jam timer runs out. -/
  | jamTimerExpiry
  /-- R27: CAL_SWITCH goes from high to low. -/
  | calSwitchOff
  /-- R43: READER_EYE becomes active. -/
  | readerEyeArrival
  /-- R45: the deadline of a pending read reaches 0. -/
  | readDeadlineExpiry
  /-- R65, R71: a good CR on the reader link. -/
  | readerMessage
  /-- R67: a character with a framing error on the reader link; `brk` when it is a break (R63). -/
  | readerFramingError (brk : Bool)
  /-- R66: the character that comes when the assembly buffer already holds 40. -/
  | readerOverlong (c : Byte)
  /-- R81, R83: the check byte that completes a good DISCHARGE frame. -/
  | dischargeFrame (check : Byte)
  /-- R81, R85: the check byte that completes a good DOSE_ACK frame. -/
  | doseAckFrame (check : Byte)
  /-- R75, R76: a character with a parity or framing error on the filler link. -/
  | fillerErroredCharacter (c : LineChar)
  /-- R79: the payload byte that comes when the assembly buffer already holds 72. -/
  | fillerBufferOverrun (b : Byte)
  /-- R80: the 1 ms gap timer runs out. -/
  | gapTimerExpiry
  /-- R87: the stop bit of the last byte of the transmit frame ends. -/
  | transmitFrameEnd
  /-- R137: FILLER_INDEX becomes active. -/
  | fillerIndexArrival
  /-- R142: the 40 ms ack timer runs out. -/
  | ackTimerExpiry
  /-- R96: REJECT_EYE becomes active. -/
  | rejectEyeArrival
  /-- R101: the reject pulse timer runs out. -/
  | pulseTimerExpiry
  /-- R103: CONFIRM_EYE becomes active. -/
  | confirmEyeArrival
  /-- R105: the deadline of a PAST_REJECT entry reaches 0. -/
  | pastRejectDeadlineExpiry
  /-- R164, R165: the lot timer's fine count reaches 0. -/
  | lotMinuteStep
  /-- R181: the 5 ms scan timer runs out. `switchOn` says that CAL_SWITCH has been turned on since the last scan. -/
  | orderScan (switchOn : Bool)
  /-- R64: a good character other than CR on the reader link. -/
  | readerCharacter (c : Byte)
  /-- R78, R79: a good character on the filler link. -/
  | fillerCharacter (b : Byte)
  /-- R81: the check byte that completes a frame which fails a test. -/
  | badFrameCompleted (check : Byte)
  /-- R63, R75: after a break the RX line of a link has stood at the idle level for one bit time. -/
  | breakEnd (link : Link)
deriving DecidableEq, Repr

end Sys2Proof
end

