-- ==== Sys2Proof/Machine/Types.lean ====
section
/-! DEFINITION. The data the blocks of the FW48 keep, block by block, as the state table at the head of each chapter gives them. -/

namespace Sys2Proof.Machine

/-- An order slot, 0..7 (R179). -/
abbrev Slot := Fin 8

/-! ## Part Control (10_part_states_and_line_stop) -/

/-- The part states. -/
inductive PartState where
  | clearing
  | loading
  | config
  | stopped
  | run
  | faultStop
deriving DecidableEq, Repr

/-- The fault causes (R173, R178). The cause NONE is an absent cause. -/
inductive Cause where
  | rejectFailed
  | platformJam
  | converterFault
deriving DecidableEq, Repr

/-- The reasons of a part state change (R178). -/
inductive ChangeReason where
  | cleared
  | loaded
  | ready
  | lineRise
  | lineFall
  | rejectFailed
  | platformJam
  | converterFault
  | faultClear
  | restart
deriving DecidableEq, Repr

/-- The state Part Control keeps. -/
structure PartControl where
  state : PartState
  cause : Option Cause
  /-- STOP_REQ is active (R175). -/
  stopReq : Bool
deriving DecidableEq, Repr

/-- The levels of the inputs that rules read as levels: LINE_RUN (R172), CAL_SWITCH (R27, R183), and whether the power-on detector
or RESET_N holds the reset (R169). -/
structure Pins where
  lineRun : Bool
  calSwitch : Bool
  resetHeld : Bool
deriving DecidableEq, Repr

/-! ## The Weigh Channel (01_the_weigh_channel) -/

/-- A sample record (R1). -/
structure Sample where
  count : Int
  tag : Word
  overload : Bool
deriving DecidableEq, Repr

/-- The converter state (R2). -/
inductive Converter where
  | live
  | silent
deriving DecidableEq, Repr

/-- An open weighing of the platform list (R5, R7). -/
structure Weighing where
  inTag : Word
  double : Bool
  interrupted : Bool
deriving DecidableEq, Repr

/-- The jam timer (R8): RUNNING holds the time left, in units of 100 µs, and the max_dwell that was loaded, in ms. -/
inductive JamTimer where
  | stopped
  | running (left loaded : Nat)
  | expired
deriving DecidableEq, Repr

/-- The zero accumulator with its quiet start (R14, R15). -/
structure ZeroAcc where
  sum : Int
  n : Nat
  overload : Bool
  quietStart : Word
deriving DecidableEq, Repr

/-- What an averaging has gathered (R19, R25, R26). The extremes are absent until the first sample. -/
structure Averaging where
  sum : Int
  n : Nat
  low : Option Int
  high : Option Int
  overload : Bool
deriving DecidableEq, Repr

/-- The zero-set averaging with the slot of its order (R19, R184). -/
structure ZeroSet where
  slot : Slot
  avg : Averaging
deriving DecidableEq, Repr

/-- The state the Weigh Channel keeps. `watch` is the time left of the converter watch, absent when it has stopped. -/
structure Weigh where
  samples : List Sample
  converter : Converter
  watch : Option Nat
  platform : List Weighing
  jam : JamTimer
  z : Int
  acc : ZeroAcc
  /-- Zero tracking runs: all conditions of R14 hold and the quiet start has been set for this spell. -/
  tracking : Bool
  refusals : Nat
  zeroSet : Option ZeroSet
deriving DecidableEq, Repr

/-! ## The Calibration Unit (02_calibration_and_the_settings_store) -/

/-- The calibration states (R23). -/
inductive CalState where
  | none
  | zeroOnly
  | valid
deriving DecidableEq, Repr

/-- The two calibration orders (R25). -/
inductive CalKind where
  | zero
  | span
deriving DecidableEq, Repr

/-- The calibration averaging with its kind and argument (R25). -/
structure CalAveraging where
  kind : CalKind
  arg : Nat
  avg : Averaging
deriving DecidableEq, Repr

/-- The store state (R32): WRITING holds the time left of the store timer, in units of 100 µs, and the record sent. -/
inductive StoreState where
  | idle
  | writing (left : Nat) (record : List Byte)
deriving DecidableEq, Repr

/-- The outcome of the last store write (R24). -/
inductive LastWrite where
  | noneYet
  | saved
  | failed
deriving DecidableEq, Repr

/-- The state the Calibration Unit keeps. -/
structure Calibration where
  zc : Int
  f : Nat
  zeroLimit : Nat
  changeCount : Nat
  state : CalState
  store : StoreState
  averaging : Option CalAveraging
  held : Option Slot
  lastWrite : LastWrite
deriving DecidableEq, Repr

/-! ## Reads and recipes (03, 04, 09) -/

/-- The print grades (Parsing a message; R73). -/
inductive Grade where
  | a
  | b
  | c
  | d
  | f
deriving DecidableEq, Repr, Inhabited

/-- The read result the Reader Port hands on (R69, R71). -/
inductive ReadMessage where
  | code (text : List Byte) (mark : Nat) (grade : Grade)
  | noRead
deriving DecidableEq, Repr

/-- The read result an entry holds (R36, R49). -/
inductive ReadResult where
  | code (lotMatch : Bool) (mark : Nat) (grade : Grade)
  | noRead
deriving DecidableEq, Repr

/-- A recipe: the 31 fields of the recipe table and the 94 words of the area that hold no field and are copied with it
(The recipe; Recipe areas). -/
structure Recipe where
  lotText : List Byte
  nominal : Nat
  target : Nat
  containerTare : Nat
  hardDev : Nat
  softDev : Nat
  overDev : Nat
  rejectOver : Bool
  softAllowance : Nat
  lotCanLimit : Nat
  lotMinutes : Nat
  valveCount : Nat
  smoothing : Nat
  sampleMin : Nat
  deadband : Nat
  gain : Nat
  stepLimit : Nat
  trimLimit : Nat
  clearTrims : Bool
  settle : Nat
  guard : Nat
  minSamples : Nat
  stability : Nat
  maxDwell : Nat
  readTimeout : Nat
  codeRequired : Bool
  minGrade : Grade
  rejectPulse : Nat
  confirmWindow : Nat
  missingWindow : Nat
  zeroBand : Nat
  rest : List Word
deriving DecidableEq, Repr, Inhabited

/-! ## The Tracking Unit (03_the_can_track) -/

/-- How an entry came to exist (R36). -/
inductive Origin where
  | filler
  | unmatched
  | untracked
deriving DecidableEq, Repr

/-- The recipe slot an entry carries (R36). -/
inductive RecipeRef where
  | active
  | retiring
deriving DecidableEq, Repr

/-- Where an entry is on the line (R36, R37). -/
inductive Stage where
  | transit
  | read
  | onPlatform
  | weighed
  | pastReject
deriving DecidableEq, Repr

/-- How firmly an entry's valve is known (R36). -/
inductive Attribution where
  | exact
  | positional
  | mismatch
deriving DecidableEq, Repr

/-- The weigh faults (R11). -/
inductive WeighFault where
  | double
  | short
  | unstable
  | range
  | interrupted
deriving DecidableEq, Repr

/-- A weighing result: a gross mass in mg, or a weigh fault (R6, R12). -/
inductive WeighResult where
  | gross (mg : Nat)
  | fault (w : WeighFault)
deriving DecidableEq, Repr

/-- The class of a can's net mass against the recipe (R13). -/
inductive Zone where
  | hardLow
  | softLow
  | good
  | over
deriving DecidableEq, Repr

/-- The decision of an entry (R93). -/
inductive Decision where
  | accept
  | reject
deriving DecidableEq, Repr

/-- The ten reasons, in the order of R91. -/
inductive Reason where
  | hardLow
  | over
  | softLimit
  | weighFault
  | noCode
  | wrongCode
  | poorCode
  | untracked
  | undecided
  | faultStop
deriving DecidableEq, Repr

/-- The final dispositions (R59). -/
inductive Disposition where
  | passed
  | rejected
  | rejectFailed
  | missing
  | lostInTransit
  | dropped
  | flushed
deriving DecidableEq, Repr

/-- An entry of the Can Track (R36). A field the entry does not hold is absent. `reasons` is the set of R91 as the can log
writes it: bit 0 HARD_LOW to bit 9 FAULT_STOP. `deadline` is the remaining time in units of 100 µs. -/
structure Entry where
  serial : Nat
  origin : Origin
  valve : Option Nat
  generation : Option Gen
  genKnown : Option Bool
  recipe : RecipeRef
  stage : Stage
  attribution : Option Attribution
  read : Option ReadResult
  readOpen : Bool
  weighing : Option WeighResult
  net : Option Int
  zone : Option Zone
  decision : Option Decision
  reasons : BitVec 10
  countedLot : Option Nat
  dischargeTag : Option Word
  outTag : Option Word
  deadline : Option Nat
deriving DecidableEq, Repr

/-- A pending read: the reader-eye time tag, the remaining time of its deadline in units of 100 µs, and, once its bound flag
is set, the serial of its bound entry (The pending read list). -/
structure PendingRead where
  eyeTag : Word
  left : Nat
  bound : Option Nat
deriving DecidableEq, Repr

/-- The state the Tracking Unit keeps. Its deadline clocks stand in the entries and the pending reads (R57). -/
structure Track where
  entries : List Entry
  reads : List PendingRead
  nextSerial : Nat
deriving DecidableEq, Repr

/-! ## The serial links (04, 05) -/

/-- A link's receiver (R63, R75). -/
inductive Receiver where
  | waiting
  | inCharacter
  | heldLow
deriving DecidableEq, Repr

/-- The damage kind of a skipped reader message (R66, R67). -/
inductive Damage where
  | overlong
  | charError
deriving DecidableEq, Repr

/-- The reader link's assembler with what it holds in each state: the buffer in COLLECTING, the damage kind and error reported
in SKIPPING (R64 to R67). -/
inductive ReaderAsm where
  | idle
  | collecting (buffer : List Byte)
  | skipping (damage : Damage) (reported : Bool)
deriving DecidableEq, Repr

/-- The level of a serial line (R63). -/
inductive LineLevel where
  | idle
  | start
deriving DecidableEq, Repr

/-- The state the Reader Port keeps, and the level of its TX line (R63). -/
structure ReaderPort where
  receiver : Receiver
  asm : ReaderAsm
  tx : LineLevel
deriving DecidableEq, Repr

/-- What the receiver of the filler link finds wrong with a character (R75). A break is a framing error after which the line stays
at the start level. -/
inductive CharFault where
  | parity
  | framing
  | lineBreak
deriving DecidableEq, Repr

/-- The filler link's assembler states (R78, R79). -/
inductive FillerAsm where
  | hunt
  | kind
  | length
  | payload
  | check
deriving DecidableEq, Repr

/-- The transmitter (R87): SENDING holds the transmit frame and the line time spent on it, in hundredths of a bit time. -/
inductive Transmitter where
  | idle
  | sending (frame : List Byte) (spent : Nat)
deriving DecidableEq, Repr

/-- The state the Filler Port keeps. `gap` is the time left of the gap timer, absent when STOPPED. -/
structure FillerPort where
  receiver : Receiver
  asm : FillerAsm
  kind : Byte
  len : Byte
  payload : List Byte
  sum : Byte
  gap : Option Nat
  tx : Transmitter
  waiting : Option (List Byte)
deriving DecidableEq, Repr

/-- The results of a DOSE_ACK (R77). -/
inductive AckResult where
  | applied
  | duplicate
  | refused
deriving DecidableEq, Repr

/-! ## The Reject Driver (06_disposition_and_the_reject_station) -/

/-- The actuator with the time left of the pulse timer, in units of 100 µs (R101). -/
inductive Actuator where
  | idle
  | firing (left : Nat)
deriving DecidableEq, Repr

/-- The state the Disposition Unit and its Reject Driver keep. -/
structure RejectDriver where
  actuator : Actuator
  /-- REJECT_DRIVE is active. -/
  drive : Bool
deriving DecidableEq, Repr

/-! ## Valve Control (07_valve_control) -/

/-- The states of a valve (R110). -/
inductive ValveState where
  | idle
  | averaging
  | waitEffect
  | locked
  | faulty
deriving DecidableEq, Repr

/-- An entry of the Valve Table (R110). -/
structure Valve where
  state : ValveState
  avg : Int
  n : Nat
  effectGen : Option Gen
  awaitedGen : Option Gen
  hardLowRun : Nat
  lastNet : Int
  cansSeen : Word
deriving DecidableEq, Repr

/-- The state Valve Control keeps. `table` holds valves 1..128 in order. -/
structure Valves where
  table : List Valve
  loop : Bool
  snapshots : Word
deriving DecidableEq, Repr

/-! ## The Dose Unit (08_the_dose_table_and_update_cycle) -/

/-- A valve's wanted and served trims, in mg (R134). Its in-flight trim stands in the in-flight message. -/
structure Trim where
  wanted : Int
  served : Int
deriving DecidableEq, Repr

/-- A message to the filler (R141). -/
structure Message where
  generation : Gen
  base : Option Nat
  limit : Option Nat
  clear : Bool
  list : List (Nat × Int)
  changeover : Bool
deriving DecidableEq, Repr

/-- The changeover pending (R149). -/
structure PendingChangeover where
  base : Nat
  limit : Nat
  clear : Bool
  valveCount : Nat
deriving DecidableEq, Repr

/-- The link states (R142). -/
inductive LinkState where
  | up
  | retry
  | down
deriving DecidableEq, Repr

/-- The state the Dose Unit keeps. `served` is the served generation, present while SYNCED (R135). `trims` holds valves
1..128 in order. `ack` is the time left of the ack timer in units of 100 µs, absent when STOPPED. -/
structure Dose where
  base : Nat
  limit : Nat
  served : Option Gen
  trims : List Trim
  inflight : Option Message
  changeover : Option PendingChangeover
  link : LinkState
  ack : Option Nat
  probe : Nat
  rr : Nat
deriving DecidableEq, Repr

/-! ## The Recipe and Lot Unit (09_recipes_lots_and_changeover) -/

/-- The close causes of a lot (R160). -/
inductive LotCause where
  | order
  | timer
  | limit
  | drained
  | reset
  | flush
deriving DecidableEq, Repr

/-- An open lot record (R160). The counts are kept modulo 4,294,967,296 and the net sum in signed 64 bits. `reasons` holds the
ten reason counts in the order of R91. -/
structure Lot where
  index : Nat
  text : List Byte
  start : Word
  decided : Word
  accepted : Word
  rejected : Word
  reasons : List Word
  softUsed : Nat
  allowance : Nat
  netSum : BitVec 64
deriving DecidableEq, Repr

/-- The state the Recipe and Lot Unit keeps. The closed lot list stands in the exchange memory. -/
structure Recipes where
  active : Option Recipe
  retiring : Option Recipe
  next : Option Recipe
  held : Option Slot
  boundary : Gen
  activeLot : Option Lot
  retiringLot : Option Lot
  nextLot : Nat
  closedPos : Fin 8
  fine : Nat
  /-- Units of 100 µs run of the present tenth of a second: the model's own field (log 4). -/
  finePhase : Nat
deriving DecidableEq, Repr

/-! ## The Order Unit (11_orders) -/

/-- The unit that owns a taken order (R184, R186). -/
inductive Owner where
  | recipeAndLot
  | weigh
  | calibration
deriving DecidableEq, Repr

/-- The order outcomes (R185). -/
inductive Outcome where
  | done
  | doneUnsaved
  | badKind
  | badArg
  | wrongState
  | busy
  | switchOff
  | unstable
  | disturbed
  | range
  | fillerRefused
  | aborted
  | calInvalid
  | badRecipe
deriving DecidableEq, Repr

/-- The state the Order Unit keeps. `taken` lists the taken slots with their owning units. -/
structure Orders where
  scan : Option Nat
  taken : List (Slot × Owner)
deriving DecidableEq, Repr

/-! ## The Exchange Memory Unit (12_the_exchange_memory) -/

/-- The notice classes, in the order of their bits (Registers and notices). -/
inductive Notice where
  | order
  | event
  | logHalf
  | lot
  | fault
deriving DecidableEq, Repr

/-- The event kinds (Event entry and headers). -/
inductive EventKind where
  | converterFault
  | zeroDrift
  | zeroClamped
  | platformJam
  | eyeSequence
  | calChanged
  | storeFail
  | storeBlank
  | lostInTransit
  | trackFull
  | markUnmatched
  | codeUnsolicited
  | untrackedCan
  | readListFull
  | codeGarbled
  | readerCharError
  | fillerCharError
  | fillerFrameBad
  | dischargeBad
  | ackStray
  | linkDown
  | linkUp
  | doseRefused
  | rejectFailed
  | canMissing
  | valveFaulty
  | trimAtLimit
  | lotClosed
  | lotMeanLow
  | changeoverSwap
  | retiringDrained
  | stateChange
  | hostWriteRefused
  | timeWrap
deriving DecidableEq, Repr

/-- The exchange memory's words: address and word, addresses strictly rising, no zero word. An unlisted word reads 0. -/
abbrev Mem := List (Nat × Word)

/-- The state the Exchange Memory Unit keeps. `notice` and `mask` hold the five classes in bits 0 to 4. `holdoff` is the time
left of the refusal holdoff in units of 100 µs, absent when IDLE. -/
structure Exchange where
  mem : Mem
  notice : BitVec 5
  mask : BitVec 5
  /-- ATTN is active (R195). -/
  attn : Bool
  evWrite : Fin 64
  dropCount : Word
  holdoff : Option Nat
  suppressed : Word
  logIndex : Fin 1024
  wrapCount : Word
  timeTag : Word
deriving DecidableEq, Repr

end Sys2Proof.Machine
end

