-- ==== Sys2Proof/Config.lean ====
section
/-! DEFINITION. The free values: constants without a body, of which nothing can be proved. A statement that holds, holds whatever
they are. The part has no other configuration: the manual describes one part. -/

namespace Sys2Proof

/-- The recipe read where none is present. R152 and R171 keep ACTIVE present in STOPPED, RUN and FAULT_STOP, and a RETIRING
entry stands in the track only while RETIRING is present, so no run reaches such a read (log 11). -/
opaque Config.absentRecipe : Machine.Recipe

/-- The 64-bit net sum when the exact sum leaves signed 64 bits: R160 gives the width and states no result there (log 12). -/
opaque Config.netSumOutOfRange : BitVec 64 → Int → BitVec 64

/-- The 32-bit mean word when the mean of a lot leaves signed 32 bits: R162 states no result there (log 13). -/
opaque Config.meanOutOfRange : Int → Word

end Sys2Proof
end

