-- ==== Sys2Proof/Machine/Arith.lean ====
section
/-! DEFINITION. The arithmetic the rules name: the four roundings, clamping, time tag and generation comparisons, and the tables
numbered from 1. -/

namespace Sys2Proof.Machine

/-- Quotient rounded to nearest, ties away from zero (Conventions, Rounding). -/
def roundAway (num : Int) (den : Nat) : Int :=
  let q : Nat := (2 * num.natAbs + den) / (2 * den)
  if num < 0 then -(q : Int) else q

/-- Quotient rounded to nearest, ties toward zero (Conventions, Rounding). -/
def roundToward (num : Int) (den : Nat) : Int :=
  let q : Nat := (2 * num.natAbs + den - 1) / (2 * den)
  if num < 0 then -(q : Int) else q

/-- A value clamped to lo..hi. -/
def clampTo (lo hi x : Int) : Int := if x < lo then lo else if hi < x then hi else x

/-- A value clamped to ±m (Conventions, Rounding). -/
def clampAbs (m : Nat) (x : Int) : Int := clampTo (-(m : Int)) m x

/-- The span from time tag b to time tag a, in units of 100 µs (R3). -/
def tagSpan (a b : Word) : Nat := (a - b).toNat

/-- Time tag a is later than time tag b (R3). -/
def tagLater (a b : Word) : Bool := 1 ≤ tagSpan a b && tagSpan a b ≤ 2147483647

/-- Generation a is not older than generation b (Conventions, Generations; R136). -/
def notOlder (a b : Gen) : Bool := (a - b).toNat < 32768

/-- How far generation a stands behind generation `served` (R125). -/
def genLag (served a : Gen) : Nat := (served - a).toNat

/-- The number after n in 1..4,294,967,295, from the last back to 1 (R38, R161). -/
def nextNumber (n : Nat) : Nat := if 4294967295 ≤ n then 1 else n + 1

/-- A count that stays at its last value once it gets there (R17, R31). -/
def saturate (last n : Nat) : Nat := if last ≤ n then last else n + 1

/-- A signed value as a 32-bit two's complement word. -/
def wordOfInt (x : Int) : Word := BitVec.ofInt 32 x

/-- An unsigned value as a word. -/
def wordOfNat (n : Nat) : Word := BitVec.ofNat 32 n

/-- The entry numbered n of a table numbered from 1. -/
def numbered {α : Type} (l : List α) (d : α) (n : Nat) : α := if n = 0 then d else l.getD (n - 1) d

/-- A table numbered from 1 with the entry numbered n replaced. -/
def setNumbered {α : Type} (l : List α) (n : Nat) (x : α) : List α := if n = 0 then l else l.set (n - 1) x

/-- A table with every entry replaced by a function of its number and itself, the first number given. -/
def mapFrom {α β : Type} (f : Nat → α → β) : Nat → List α → List β
  | _, [] => []
  | n, x :: t => f n x :: mapFrom f (n + 1) t

/-- A running timer with one unit less. -/
def countDown (t : Option Nat) : Option Nat := t.map (· - 1)

end Sys2Proof.Machine
end

