-- ==== Sys2Proof/Machine/State.lean ====
section
/-! DEFINITION. The state of the FW48, block by block, the ways a step can stop, and the state after full reset. -/

namespace Sys2Proof.Machine

/-- The faults a command can end in: none. The part has no exception that ends a run: its fault stop is a part state (R173),
and every event of the table has its effect in every state. So the type has no constructor, and no step faults (safe). -/
inductive Fault where
deriving DecidableEq, Repr

/-- The refusals. -/
inductive Refusal where
  /-- A command that has no meaning in this model yet, raised by its arm of `exec`. Every arm has its meaning, so none raises
  it. Safe: the model stops where the part goes on. -/
  | notModelled (mnemonic : String)
deriving DecidableEq, Repr

/-- The whole state of the part, and the queue of commands that wait, first in first out. -/
structure State where
  pins : Pins
  part : PartControl
  weigh : Weigh
  cal : Calibration
  track : Track
  reader : ReaderPort
  filler : FillerPort
  reject : RejectDriver
  valves : Valves
  dose : Dose
  recipes : Recipes
  orders : Orders
  exch : Exchange
  pending : List Instr
deriving DecidableEq, Repr

/-- A valve after full reset: IDLE with its statistics and counts zeroed (R110). -/
def Valve.afterReset : Valve :=
  { state := .idle, avg := 0, n := 0, effectGen := none, awaitedGen := none, hardLowRun := 0, lastNet := 0, cansSeen := 0 }

/-- The part right after the release of a full reset, in CLEARING with the memory cleared (R169 and the reset tables of the chapters). The
levels of LINE_RUN and CAL_SWITCH come from outside: DESIGN CHOICE low (log 8). -/
def State.reset : State where
  pins := { lineRun := false, calSwitch := false, resetHeld := false }
  part := { state := .clearing, cause := .none, stopReq := false }
  weigh :=
    { samples := [], converter := .live, watch := some 50, platform := [], jam := .stopped, z := 0
      acc := { sum := 0, n := 0, overload := false, quietStart := 0 }, tracking := false, refusals := 0, zeroSet := none }
  cal :=
    { zc := 0, f := 0, zeroLimit := 0, changeCount := 0, state := .none, store := .idle, averaging := none, held := none
      lastWrite := .noneYet }
  track := { entries := [], reads := [], nextSerial := 1 }
  reader := { receiver := .waiting, asm := .idle, tx := .idle }
  filler :=
    { receiver := .waiting, asm := .hunt, kind := 0, len := 0, payload := [], sum := 0, gap := none, tx := .idle
      waiting := none }
  reject := { actuator := .idle, drive := false }
  valves := { table := List.replicate 128 Valve.afterReset, loop := true, snapshots := 0 }
  dose :=
    { base := 0, limit := 0, served := none, trims := List.replicate 128 { wanted := 0, served := 0 }, inflight := none
      changeover := none, link := .up, ack := none, probe := 0, rr := 0 }
  recipes :=
    { active := none, retiring := none, next := none, held := none, boundary := 0, activeLot := none, retiringLot := none
      nextLot := 1, closedPos := 0, fine := 600, finePhase := 0 }
  orders := { scan := none, taken := [] }
  exch :=
    { mem := [], notice := 0, mask := 0, attn := false, evWrite := 0, dropCount := 0, holdoff := none, suppressed := 0
      logIndex := 0, wrapCount := 0, timeTag := 0 }
  pending := []

end Sys2Proof.Machine
end

