-- ==== Sys2Proof/Machine/Flags.lean ====
section
/-! DEFINITION. The codes, bits and flags by which the part shows its states: the status codes, the notice bits, the reason bits,
the outcome and event codes (Layouts; R91, R178, R179, R183, R185). -/

namespace Sys2Proof.Machine

/-- The part state codes (10, state table; Status block). -/
def PartState.code : PartState → Nat
  | .clearing => 0
  | .loading => 1
  | .config => 2
  | .stopped => 3
  | .run => 4
  | .faultStop => 5

/-- The fault cause codes; NONE is 0 (R178). -/
def causeCode : Option Cause → Nat
  | none => 0
  | some .rejectFailed => 1
  | some .platformJam => 2
  | some .converterFault => 3

/-- The reason codes of STATE_CHANGE (R178). -/
def ChangeReason.code : ChangeReason → Nat
  | .cleared => 1
  | .loaded => 2
  | .ready => 3
  | .lineRise => 4
  | .lineFall => 5
  | .rejectFailed => 6
  | .platformJam => 7
  | .converterFault => 8
  | .faultClear => 9
  | .restart => 10

/-- The reason of a change to FAULT_STOP by a cause (R173, R178). -/
def Cause.reason : Cause → ChangeReason
  | .rejectFailed => .rejectFailed
  | .platformJam => .platformJam
  | .converterFault => .converterFault

/-- The calibration state codes (Status block). -/
def CalState.code : CalState → Nat
  | .none => 0
  | .zeroOnly => 1
  | .valid => 2

/-- The order kind code of a calibration order (R183). -/
def CalKind.code : CalKind → Nat
  | .zero => 4
  | .span => 5

/-- The store state codes (Status block). -/
def StoreState.code : StoreState → Nat
  | .idle => 0
  | .writing _ _ => 1

/-- The codes of the last store write outcome (Calibration block). -/
def LastWrite.code : LastWrite → Nat
  | .noneYet => 0
  | .saved => 1
  | .failed => 2

/-- The link state codes (Status block). -/
def LinkState.code : LinkState → Nat
  | .up => 0
  | .retry => 1
  | .down => 2

/-- The valve state codes (Valve snapshot). -/
def ValveState.code : ValveState → Nat
  | .idle => 0
  | .averaging => 1
  | .waitEffect => 2
  | .locked => 3
  | .faulty => 4

/-- The DOSE_ACK result codes (R77). -/
def AckResult.code : AckResult → Nat
  | .applied => 1
  | .duplicate => 2
  | .refused => 3

/-- The lot close cause codes (R160). -/
def LotCause.code : LotCause → Nat
  | .order => 1
  | .timer => 2
  | .limit => 3
  | .drained => 4
  | .reset => 5
  | .flush => 6

/-- The outcome codes (R185). -/
def Outcome.code : Outcome → Nat
  | .done => 0
  | .doneUnsaved => 1
  | .badKind => 16
  | .badArg => 17
  | .wrongState => 18
  | .busy => 19
  | .switchOff => 20
  | .unstable => 21
  | .disturbed => 22
  | .range => 23
  | .fillerRefused => 24
  | .aborted => 25
  | .calInvalid => 26
  | .badRecipe => 27

/-- The slot state a finished order shows: DONE 3 for DONE and DONE_UNSAVED, REFUSED 4 for a refusal reason (R179, R185). -/
def Outcome.slotState : Outcome → Nat
  | .done | .doneUnsaved => 3
  | _ => 4

/-- The bit of a notice class (Registers and notices). -/
def Notice.bit : Notice → BitVec 5
  | .order => 1#5
  | .event => 2#5
  | .logHalf => 4#5
  | .lot => 8#5
  | .fault => 16#5

/-- The bit of a reason in the reasons set, bit 0 HARD_LOW to bit 9 FAULT_STOP (R91; Can log record). -/
def Reason.bit : Reason → BitVec 10
  | .hardLow => 0x001#10
  | .over => 0x002#10
  | .softLimit => 0x004#10
  | .weighFault => 0x008#10
  | .noCode => 0x010#10
  | .wrongCode => 0x020#10
  | .poorCode => 0x040#10
  | .untracked => 0x080#10
  | .undecided => 0x100#10
  | .faultStop => 0x200#10

/-- The event kind codes (Event entry and headers). -/
def EventKind.code : EventKind → Nat
  | .converterFault => 1
  | .zeroDrift => 2
  | .zeroClamped => 3
  | .platformJam => 4
  | .eyeSequence => 5
  | .calChanged => 16
  | .storeFail => 17
  | .storeBlank => 18
  | .lostInTransit => 32
  | .trackFull => 33
  | .markUnmatched => 34
  | .codeUnsolicited => 35
  | .untrackedCan => 36
  | .readListFull => 37
  | .codeGarbled => 48
  | .readerCharError => 49
  | .fillerCharError => 64
  | .fillerFrameBad => 65
  | .dischargeBad => 66
  | .ackStray => 67
  | .linkDown => 68
  | .linkUp => 69
  | .doseRefused => 70
  | .rejectFailed => 80
  | .canMissing => 81
  | .valveFaulty => 96
  | .trimAtLimit => 97
  | .lotClosed => 112
  | .lotMeanLow => 113
  | .changeoverSwap => 114
  | .retiringDrained => 115
  | .stateChange => 128
  | .hostWriteRefused => 129
  | .timeWrap => 130

/-- The recipe codes of the can log record. -/
def RecipeRef.code : RecipeRef → Nat
  | .active => 0
  | .retiring => 1

/-- The origin codes of the can log record. -/
def Origin.code : Origin → Nat
  | .filler => 1
  | .unmatched => 2
  | .untracked => 3

/-- The attribution codes of the can log record; NONE is 0. -/
def attributionCode : Option Attribution → Nat
  | none => 0
  | some .exact => 1
  | some .positional => 2
  | some .mismatch => 3

/-- The zone codes of the can log record; NONE is 0. -/
def zoneCode : Option Zone → Nat
  | none => 0
  | some .hardLow => 1
  | some .softLow => 2
  | some .good => 3
  | some .over => 4

/-- The decision codes of the can log record; NONE is 0. -/
def decisionCode : Option Decision → Nat
  | none => 0
  | some .accept => 1
  | some .reject => 2

/-- The final disposition codes of the can log record. -/
def Disposition.code : Disposition → Nat
  | .passed => 1
  | .rejected => 2
  | .rejectFailed => 3
  | .missing => 4
  | .lostInTransit => 5
  | .dropped => 6
  | .flushed => 7

/-- The weigh fault codes of the can log record; NONE is 0. -/
def WeighFault.code : WeighFault → Nat
  | .double => 1
  | .short => 2
  | .unstable => 3
  | .range => 4
  | .interrupted => 5

/-- The grade codes of the can log record: A 1 to D 4, F 5; the recipe areas code min_grade the same way. -/
def Grade.code : Grade → Nat
  | .a => 1
  | .b => 2
  | .c => 3
  | .d => 4
  | .f => 5

/-- Grade g is worse than grade h: it stands after h in the ranking A, B, C, D, F (R73). -/
def Grade.worse (g h : Grade) : Bool := h.code < g.code

/-- A stage's place in the list order, the oldest stage first (R37). -/
def Stage.rank : Stage → Nat
  | .pastReject => 0
  | .weighed => 1
  | .onPlatform => 2
  | .read => 3
  | .transit => 4

/-- The part takes cans: STOPPED, RUN and FAULT_STOP (R4, R39, R71, R82, R96). -/
def State.takesCans (s : State) : Bool :=
  s.part.state = .stopped || s.part.state = .run || s.part.state = .faultStop

/-- The part has left CLEARING (R63, R75, R192). -/
def State.awake (s : State) : Bool := s.part.state ≠ .clearing

end Sys2Proof.Machine
end

