-- ==== Sys2Proof/Machine/Ops.lean ====
section
/-! DEFINITION. The operations that the rules of several blocks share: the exchange memory, notices and ATTN, the event queue,
the can log's ring, the finish of an order, the recipe in force, zero tracking's conditions, the change of the part state, the
entry to FAULT_STOP and the readiness test. -/

namespace Sys2Proof.Machine

/-! ## The exchange memory (R192) -/

/-- The word at an address; an unlisted word reads 0. -/
def memRead : Mem → Nat → Word
  | [], _ => 0
  | (b, w) :: t, a => if a = b then w else memRead t a

/-- The cells of consecutive words from an address on; zero words are not listed. -/
def memCells : Nat → List Word → Mem
  | _, [] => []
  | a, w :: t => if w = 0 then memCells (a + 1) t else (a, w) :: memCells (a + 1) t

/-- The memory with consecutive words written from an address on. -/
def memWrite (m : Mem) (base : Nat) (ws : List Word) : Mem :=
  m.filter (fun c => decide (c.1 < base)) ++ memCells base ws
    ++ m.filter (fun c => decide (base + ws.length ≤ c.1))

/-- The canonical form from an address on: addresses strictly rising and below 0x4000, no zero word. -/
def memWfFrom : Nat → Mem → Bool
  | _, [] => true
  | a, (b, w) :: t => decide (a ≤ b) && decide (b < 0x4000) && decide (w ≠ 0) && memWfFrom (b + 1) t

/-- The memory is in its canonical form. -/
def Mem.wf (m : Mem) : Bool := memWfFrom 0 m

/-- The event read index word in the host marks. -/
def readIndexAddr : Nat := 0x00C0

/-- The lot minutes word in the host marks. -/
def lotMinutesAddr : Nat := 0x00C1

/-- The event overflow flag in the host marks. -/
def overflowAddr : Nat := 0x00C2

/-- The first word of the staged recipe area. -/
def stagedBase : Nat := 0x0100

/-- The first word of a slot (R179). -/
def slotBase (slot : Slot) : Nat := 0x0040 + 16 * slot.val

/-- The exchange memory with words written. -/
def Exchange.write (e : Exchange) (base : Nat) (ws : List Word) : Exchange := { e with mem := memWrite e.mem base ws }

/-- The word of the exchange memory at an address. -/
def Exchange.read (e : Exchange) (a : Nat) : Word := memRead e.mem a

/-! ## Notices and ATTN (R195) -/

/-- NOTICE and NOTICE_MASK set, and ATTN as they give: active while a class is both pending and unmasked. -/
def Exchange.setNotices (e : Exchange) (notice mask : BitVec 5) : Exchange :=
  { e with notice := notice, mask := mask, attn := decide (notice &&& mask ≠ 0) }

/-- A notice class raised: pending, whether it was pending or not and whatever the mask holds. -/
def Exchange.raiseNotice (e : Exchange) (n : Notice) : Exchange := e.setNotices (e.notice ||| n.bit) e.mask

/-- A notice class raised. -/
def raiseNotice (n : Notice) (s : State) : State := { s with exch := s.exch.raiseNotice n }

/-! ## The event queue (R196) -/

/-- Word 0 of an event entry: the kind in bits 15:0 and arg0 modulo 65,536 in bits 31:16. -/
def eventHead (k : EventKind) (arg0 : Nat) : Word := wordOfNat (k.code + 65536 * (arg0 % 65536))

/-- The queue is full: the write index is one behind the read index word taken modulo 64. -/
def Exchange.queueFull (e : Exchange) : Bool := (e.evWrite + 1).val == (e.read readIndexAddr).toNat % 64

/-- An event written with the present time tag, or dropped when the queue is full. -/
def Exchange.event (e : Exchange) (k : EventKind) (arg0 : Nat) (arg1 arg2 : Word) : Exchange :=
  if e.queueFull then { e.write overflowAddr [1] with dropCount := e.dropCount + 1 }
  else { e.write (0x0480 + 4 * e.evWrite.val) [eventHead k arg0, e.timeTag, arg1, arg2] with
         evWrite := e.evWrite + 1 }.raiseNotice .event

/-- An event raised by any block. -/
def raiseEvent (k : EventKind) (arg0 : Nat) (arg1 arg2 : Word) (s : State) : State :=
  { s with exch := s.exch.event k arg0 arg1 arg2 }

/-- An event raised in the part states that take cans, and not raised in the others (R71, R82). -/
def raiseLineEvent (k : EventKind) (arg0 : Nat) (arg1 arg2 : Word) (s : State) : State :=
  { s with exch := if s.takesCans then s.exch.event k arg0 arg1 arg2 else s.exch }

/-! ## The can log (R198) -/

/-- A record placed at the next record index. The index advances, the wrap count rises when it passes to 0, and LOG_HALF is
raised when it becomes 512 or 0. -/
def Exchange.logRecord (e : Exchange) (ws : List Word) : Exchange :=
  let next := e.logIndex + 1
  let e1 := { e.write (0x1000 + 8 * e.logIndex.val) ws with
              logIndex := next, wrapCount := if next.val = 0 then e.wrapCount + 1 else e.wrapCount }
  if next.val = 512 || next.val = 0 then e1.raiseNotice .logHalf else e1

/-! ## The finish of an order (R185) -/

/-- A slot with its outcome, detail and time tag, then its state word, then the notice ORDER. -/
def Exchange.finishSlot (e : Exchange) (slot : Slot) (o : Outcome) (detail : Word) : Exchange :=
  ((e.write (slotBase slot + 8) [wordOfNat o.code, detail, e.timeTag]).write (slotBase slot)
    [wordOfNat o.slotState]).raiseNotice .order

/-- An order finished: its slot is written, no longer taken, and its line returns to the host. -/
def finishOrder (slot : Slot) (o : Outcome) (detail : Word) (s : State) : State :=
  { s with
    orders := { s.orders with taken := s.orders.taken.filter (fun t => decide (t.1 ≠ slot)) }
    exch := s.exch.finishSlot slot o detail }

/-- An order left in progress: TAKEN in word 0, and the owning unit noted (R182). -/
def holdOrder (slot : Slot) (owner : Owner) (s : State) : State :=
  { s with
    orders := { s.orders with taken := s.orders.taken ++ [(slot, owner)] }
    exch := s.exch.write (slotBase slot) [2] }

/-- The slot is taken (R180). -/
def slotTaken (s : State) (slot : Slot) : Bool := s.orders.taken.any (fun t => decide (t.1 = slot))

/-! ## The recipe in force (R152) -/

/-- The ACTIVE recipe, read where the rules have one present. -/
def activeRecipe (s : State) : Recipe := s.recipes.active.getD Config.absentRecipe

/-- The recipe an entry carries, ACTIVE or RETIRING (R36). -/
def recipeOf (s : State) : RecipeRef → Recipe
  | .active => activeRecipe s
  | .retiring => s.recipes.retiring.getD Config.absentRecipe

/-- A valve number is within V: in 1..V of the ACTIVE recipe, and never without one (R111). -/
def withinV (s : State) (v : Nat) : Bool :=
  match s.recipes.active with
  | none => false
  | some r => decide (1 ≤ v) && decide (v ≤ r.valveCount)

/-! ## Zero tracking's conditions (R14) -/

/-- The zero accumulator cleared: sum 0, number 0, OVERLOAD seen no. -/
def ZeroAcc.cleared (a : ZeroAcc) : ZeroAcc := { a with sum := 0, n := 0, overload := false }

/-- All conditions of R14 hold. -/
def zeroConditions (s : State) : Bool :=
  s.weigh.platform.isEmpty && decide (s.cal.state = .valid)
    && (decide (s.part.state = .stopped) || decide (s.part.state = .run))
    && s.weigh.zeroSet.isNone && s.cal.averaging.isNone

/-- Zero tracking after a change of what its conditions read: the accumulator is cleared when they stop holding; the quiet
start is set to the present time tag when they hold again. -/
def refreshZero (s : State) : State :=
  { s with weigh := { s.weigh with
    tracking := zeroConditions s
    acc :=
      if zeroConditions s then
        if s.weigh.tracking then s.weigh.acc else { s.weigh.acc.cleared with quietStart := s.exch.timeTag }
      else s.weigh.acc.cleared } }

/-! ## The change of the part state (R178, R8) -/

/-- The jam timer loaded with max_dwell of ACTIVE (R8). -/
def loadedJam (s : State) : JamTimer := .running ((activeRecipe s).maxDwell * 10) (activeRecipe s).maxDwell

/-- The jam timer after a change of the part state: loaded at an entry to RUN with the platform occupied, else stopped. -/
def jamAfter (new : PartState) (s : State) : JamTimer :=
  if new = .run && !s.weigh.platform.isEmpty then loadedJam s else .stopped

/-- The part state changes: STATE_CHANGE is raised with the new state, the old state and the reason, the jam timer and zero
tracking follow. -/
def changePart (new : PartState) (why : ChangeReason) (s : State) : State :=
  refreshZero <| raiseEvent .stateChange new.code (wordOfNat s.part.state.code) (wordOfNat why.code)
    { s with part := { s.part with state := new }, weigh := { s.weigh with jam := jamAfter new s } }

/-- The state LINE_RUN gives: RUN if high, STOPPED if low. -/
def lineState (s : State) : PartState := if s.pins.lineRun then .run else .stopped

/-! ## Orders of the calibration class that end early (R20, R27, R33) -/

/-- The zero-set averaging ended without completion, its order finished. -/
def endZeroSet (o : Outcome) (detail : Word) (s : State) : State :=
  match s.weigh.zeroSet with
  | none => s
  | some z => refreshZero (finishOrder z.slot o detail { s with weigh := { s.weigh with zeroSet := none } })

/-- The calibration order held finished, if one is held. -/
def finishHeldCal (o : Outcome) (detail : Word) (s : State) : State :=
  match s.cal.held with
  | none => s
  | some slot => finishOrder slot o detail { s with cal := { s.cal with held := none } }

/-- The calibration averaging discarded and its order finished. -/
def endCalAveraging (o : Outcome) (detail : Word) (s : State) : State :=
  match s.cal.averaging with
  | none => s
  | some _ => refreshZero (finishHeldCal o detail { s with cal := { s.cal with averaging := none } })

/-- A calibration order whose store write is in flight finished ABORTED with detail 1; the write runs on (R33). -/
def abortStoreOrder (s : State) : State :=
  match s.cal.store with
  | .idle => s
  | .writing _ _ => finishHeldCal .aborted 1 s

/-! ## Full reset (R169) -/

/-- The source of a full reset lets go: the part is in CLEARING from here on (R169, log 28). -/
def releaseReset (s : State) : State := { s with pins := { s.pins with resetHeld := false } }

/-! ## Fault stop (R173, R174) -/

/-- The entry to FAULT_STOP: the cause, STOP_REQ, the part state with its event, the notice FAULT, and the orders it ends. -/
def enterFaultStop (c : Cause) (s : State) : State :=
  abortStoreOrder <| endCalAveraging .aborted 0 <| endZeroSet .aborted 0 <| raiseNotice .fault <|
    changePart .faultStop c.reason { s with part := { s.part with cause := some c, stopReq := true } }

/-- A cause handed to Part Control: it enters FAULT_STOP from STOPPED or RUN and changes nothing in another state. -/
def handCause (c : Cause) (s : State) : State :=
  match s.part.state with
  | .stopped | .run => enterFaultStop c s
  | _ => s

/-- At an entry to STOPPED or RUN from CONFIG, from RESTART or by FAULT_CLEAR, a silent converter hands its cause with no
event (R2, R175). -/
def silentCheck (s : State) : State :=
  match s.weigh.converter with
  | .live => s
  | .silent => handCause .converterFault s

/-! ## Readiness (R171) -/

/-- The part is ready: calibration VALID and ACTIVE present. -/
def ready (s : State) : Bool := decide (s.cal.state = .valid) && s.recipes.active.isSome

/-- The test of readiness in CONFIG: a ready part leaves for the state LINE_RUN gives. An entry to RUN ends a calibration
averaging in flight (R27). -/
def readinessTest (s : State) : State :=
  if s.part.state = .config && ready s then
    let s1 := changePart (lineState s) .ready s
    silentCheck (if s.pins.lineRun then endCalAveraging .wrongState 0 s1 else s1)
  else s

end Sys2Proof.Machine
end

