-- ==== Sys2Proof/Machine/Operands.lean ====
section
/-! DEFINITION. The forms in which data comes to the part and leaves it: words and bytes, the recipe areas and their validation,
the stored calibration record, the reader's messages, the frames of the filler link, the can log and lot records. -/

namespace Sys2Proof.Machine

/-! ## Words and bytes -/

/-- The four bytes of a word, most significant first. -/
def wordBytes (w : Word) : List Byte :=
  [w.extractLsb' 24 8, w.extractLsb' 16 8, w.extractLsb' 8 8, w.extractLsb' 0 8]

/-- The number that bytes spell, most significant first. -/
def bytesNat (l : List Byte) : Nat := l.foldl (fun n b => 256 * n + b.toNat) 0

/-- The bytes of a number, most significant first, `k` of them. -/
def natBytes : Nat → Nat → List Byte
  | 0, _ => []
  | k + 1, n => BitVec.ofNat 8 (n / 256 ^ k) :: natBytes k n

/-- The word of four bytes, most significant first. -/
def bytesWord (l : List Byte) : Word := wordOfNat (bytesNat l)

/-! ## Lot text (R72, Recipe areas) -/

/-- A printable character, 0x20..0x7E. -/
def printable (c : Byte) : Bool := 0x20 ≤ c.toNat && c.toNat ≤ 0x7E

/-- The characters of a lot_text field up to its first zero byte (R72). -/
def textChars (field : List Byte) : List Byte := field.takeWhile (fun c => decide (c ≠ 0))

/-- A lot_text field is accepted: 1 to 12 printable characters, then zero bytes to the end (The recipe). -/
def textAccepted (field : List Byte) : Bool :=
  let chars := textChars field
  decide (1 ≤ chars.length) && chars.all printable && (field.drop chars.length).all (fun c => decide (c = 0))

/-- The three words of a lot_text, its first character in bits 31:24 of the first. -/
def textWords (chars : List Byte) : List Word :=
  let p := chars ++ List.replicate (12 - chars.length) 0
  [bytesWord (p.take 4), bytesWord ((p.drop 4).take 4), bytesWord ((p.drop 8).take 4)]

/-! ## Recipes (R153, Recipe areas) -/

/-- The grade a min_grade word codes: A 1, B 2, C 3, D 4. -/
def gradeOfCode : Nat → Grade
  | 1 => .a
  | 2 => .b
  | 3 => .c
  | _ => .d

/-- The 12 bytes of the lot_text field of an area, given the area's words by offset. -/
def areaText (w : Nat → Word) : List Byte := wordBytes (w 1) ++ wordBytes (w 2) ++ wordBytes (w 3)

/-- Field n of an area, 2..31, at offset n + 2. -/
def areaField (w : Nat → Word) (n : Nat) : Nat := (w (n + 2)).toNat

/-- A number lies in lo..hi. -/
def inRange (lo hi n : Nat) : Bool := decide (lo ≤ n) && decide (n ≤ hi)

/-- The checks of the recipe table, each with the number of the field it is reported against, in the order of the numbers
(R153). -/
def recipeChecks (w : Nat → Word) : List (Nat × Bool) :=
  let f := areaField w
  [ (1, textAccepted (areaText w)),
    (2, inRange 1000 1500000 (f 2)),
    (3, inRange (f 2) (f 2 + 100000) (f 3)),
    (4, inRange 0 200000 (f 4)),
    (5, inRange 1 500000 (f 5) && decide (f 5 < f 2)),
    (6, decide (f 6 < f 5)),
    (7, inRange 1 500000 (f 7)),
    (8, inRange 0 1 (f 8)),
    (9, inRange 0 65535 (f 9)),
    (10, inRange 0 4000000000 (f 10)),
    (11, inRange 0 10080 (f 11)),
    (12, inRange 8 128 (f 12)),
    (13, inRange 1 6 (f 13)),
    (14, inRange 1 64 (f 14)),
    (15, inRange 0 10000 (f 15)),
    (16, inRange 1 100 (f 16)),
    (17, inRange 1 5000 (f 17)),
    (18, inRange 0 20000 (f 18)),
    (19, inRange 0 1 (f 19)),
    (20, inRange 0 500 (f 20)),
    (21, inRange 0 500 (f 21)),
    (22, inRange 2 64 (f 22)),
    (23, inRange 1 1000000 (f 23)),
    (24, inRange 20 2000 (f 24) && decide (f 20 + f 21 < f 24 * 10)),
    (25, inRange 5 500 (f 25)),
    (26, inRange 0 1 (f 26)),
    (27, inRange 1 4 (f 27)),
    (28, inRange 5 50 (f 28)),
    (29, inRange 10 1000 (f 29)),
    (30, inRange 50 5000 (f 30)),
    (31, inRange 1 20000 (f 31)) ]

/-- The number of the first field that fails, if one does (R153). -/
def recipeFailure (w : Nat → Word) : Option Nat :=
  ((recipeChecks w).find? (fun c => !c.2)).map (·.1)

/-- The copy of the recipe in an area (R153). -/
def recipeCopy (w : Nat → Word) : Recipe :=
  let f := areaField w
  { lotText := textChars (areaText w)
    nominal := f 2, target := f 3, containerTare := f 4, hardDev := f 5, softDev := f 6, overDev := f 7
    rejectOver := decide (f 8 = 1)
    softAllowance := f 9, lotCanLimit := f 10, lotMinutes := f 11, valveCount := f 12, smoothing := f 13
    sampleMin := f 14, deadband := f 15, gain := f 16, stepLimit := f 17, trimLimit := f 18
    clearTrims := decide (f 19 = 1)
    settle := f 20, guard := f 21, minSamples := f 22, stability := f 23, maxDwell := f 24, readTimeout := f 25
    codeRequired := decide (f 26 = 1)
    minGrade := gradeOfCode (f 27)
    rejectPulse := f 28, confirmWindow := f 29, missingWindow := f 30, zeroBand := f 31
    rest := (List.range 94).map (fun k => w (34 + k)) }

/-- A flag as a field value. -/
def flagNat (b : Bool) : Nat := if b then 1 else 0

/-- The 128 words of the area that shows a recipe: the present flag, the 31 fields, the words copied with it (R152, Recipe
areas). -/
def recipeWords (r : Recipe) : List Word :=
  [1] ++ textWords r.lotText ++
  [ r.nominal, r.target, r.containerTare, r.hardDev, r.softDev, r.overDev, flagNat r.rejectOver, r.softAllowance,
    r.lotCanLimit, r.lotMinutes, r.valveCount, r.smoothing, r.sampleMin, r.deadband, r.gain, r.stepLimit, r.trimLimit,
    flagNat r.clearTrims, r.settle, r.guard, r.minSamples, r.stability, r.maxDwell, r.readTimeout,
    flagNat r.codeRequired, r.minGrade.code, r.rejectPulse, r.confirmWindow, r.missingWindow, r.zeroBand ].map wordOfNat
  ++ r.rest

/-! ## The stored calibration record (R34) -/

/-- The signature of the record. -/
def storeSignature : Word := 0x5A3C0148#32

/-- The level of a calibration state in the record: 1 ZERO_ONLY, 2 VALID. -/
def CalState.level : CalState → Nat
  | .valid => 2
  | _ => 1

/-- The sum of the halfwords that bytes form, most significant byte first. -/
def halfwordSum : List Byte → Nat
  | hi :: lo :: t => 256 * hi.toNat + lo.toNat + halfwordSum t
  | [hi] => 256 * hi.toNat
  | [] => 0

/-- Bytes 0 to 29 of the record of a calibration in force. -/
def storeBody (c : Calibration) : List Byte :=
  wordBytes storeSignature ++ wordBytes (wordOfInt c.zc) ++ wordBytes (wordOfNat c.f) ++ wordBytes (wordOfNat c.zeroLimit)
    ++ wordBytes (wordOfNat c.changeCount) ++ natBytes 2 c.state.level ++ List.replicate 8 0

/-- The 32 bytes of the record: the body and the check halfword that makes the sum of all halfwords 0 modulo 65,536. -/
def storeRecord (c : Calibration) : List Byte :=
  storeBody c ++ natBytes 2 ((65536 - halfwordSum (storeBody c) % 65536) % 65536)

/-- The number in bytes a..a+k−1 of a record. -/
def recordField (bytes : List Byte) (a k : Nat) : Nat := bytesNat ((bytes.drop a).take k)

/-- The first test a record fails: 1 signature, 2 sum, 3 a field out of range; none for a good record (R34, R35). -/
def recordFailure (bytes : List Byte) : Option Nat :=
  let level := recordField bytes 20 2
  let f := recordField bytes 8 4
  if recordField bytes 0 4 ≠ storeSignature.toNat then some 1
  else if halfwordSum bytes % 65536 ≠ 0 then some 2
  else if inRange 1 2 level && ((bytes.drop 22).take 8).all (fun b => decide (b = 0))
      && decide (recordField bytes 12 4 ≤ 200000)
      && (if level = 2 then inRange 1 4194303 f else decide (f = 0)) then none
  else some 3

/-! ## Reader messages (R68 to R70) -/

/-- A decimal digit. -/
def isDigit (c : Byte) : Bool := 0x30 ≤ c.toNat && c.toNat ≤ 0x39

/-- The separator ";". -/
def charSep : Byte := 0x3B#8

/-- The character "#" of the no-code message. -/
def charHash : Byte := 0x23#8

/-- The grade a character names. -/
def gradeOfChar (c : Byte) : Option Grade :=
  if c = 0x41#8 then some .a else if c = 0x42#8 then some .b else if c = 0x43#8 then some .c
  else if c = 0x44#8 then some .d else if c = 0x46#8 then some .f else none

/-- The value of three digits. -/
def markOf (a b c : Byte) : Nat := 100 * (a.toNat - 48) + 10 * (b.toNat - 48) + (c.toNat - 48)

/-- The form check of R70 from the characters after the mark's second separator. -/
def parseGrade (text : List Byte) (mark : Nat) : List Byte → Except Nat ReadMessage
  | [] => .error 5
  | g :: t =>
    match gradeOfChar g with
    | none => .error 5
    | some grade => if t.isEmpty then .ok (.code text mark grade) else .error 6

/-- The form check of R70 from the characters after the first separator. -/
def parseMark (text : List Byte) : List Byte → Except Nat ReadMessage
  | a :: b :: c :: t =>
    if isDigit a && isDigit b && isDigit c then
      match t with
      | [] => .error 4
      | s :: u => if s = charSep then parseGrade text (markOf a b c) u else .error 4
    else .error 3
  | _ => .error 3

/-- The form check of R70: the code, or the number of the step that fails. -/
def parseCode (m : List Byte) : Except Nat ReadMessage :=
  if m.all (fun c => decide (c ≠ charSep)) then .error 1
  else
    let text := m.takeWhile (fun c => decide (c ≠ charSep))
    if text.isEmpty || decide (12 < text.length) || !text.all printable then .error 2
    else parseMark text (m.drop (text.length + 1))

/-! ## Frames of the filler link (R77, R86) -/

/-- The lead byte of a frame. -/
def leadByte : Byte := 0xC3#8

/-- The kind byte of a DISCHARGE. -/
def kindDischarge : Byte := 0x11#8

/-- The kind byte of a DOSE_ACK. -/
def kindDoseAck : Byte := 0x12#8

/-- The kind byte of a DOSE_UPDATE. -/
def kindDoseUpdate : Byte := 0x21#8

/-- The 8-bit sum of bytes. -/
def byteSum (l : List Byte) : Byte := l.foldl (· + ·) 0

/-- A trim as a 16-bit two's complement value, most significant byte first. -/
def trimBytes (t : Int) : List Byte := natBytes 2 (BitVec.ofInt 16 t).toNat

/-- The payload of the DOSE_UPDATE that carries a message (R86). -/
def updatePayload (m : Message) : List Byte :=
  natBytes 2 m.generation.toNat
    ++ [BitVec.ofNat 8 (flagNat m.base.isSome + 2 * flagNat m.limit.isSome + 4 * flagNat m.clear)]
    ++ (match m.base with | some b => natBytes 3 b | none => [])
    ++ (match m.limit with | some l => natBytes 2 l | none => [])
    ++ [BitVec.ofNat 8 m.list.length]
    ++ m.list.flatMap (fun p => BitVec.ofNat 8 p.1 :: trimBytes p.2)

/-- The frame that carries a message: lead byte, kind, L, payload, and the check byte that makes the sum 0 (R77, R86). -/
def updateFrame (m : Message) : List Byte :=
  let p := updatePayload m
  let body := kindDoseUpdate :: BitVec.ofNat 8 p.length :: p
  leadByte :: body ++ [-(byteSum body)]

/-- The result a DOSE_ACK byte names. -/
def ackResultOf (b : Byte) : Option AckResult :=
  if b = 1 then some .applied else if b = 2 then some .duplicate else if b = 3 then some .refused else none

/-! ## Can log records (R107, Can log record) -/

/-- The gross mass of a weighing result, 0 for a weigh fault or none. -/
def grossOf : Option WeighResult → Nat
  | some (.gross mg) => mg
  | _ => 0

/-- The weigh fault code of a weighing result, 0 for none. -/
def weighFaultCode : Option WeighResult → Nat
  | some (.fault w) => w.code
  | _ => 0

/-- The read kind code: 0 NONE, 1 NO_READ, 2 CODE, 3 CODE_WRONG_LOT. -/
def readKindCode : Option ReadResult → Nat
  | none => 0
  | some .noRead => 1
  | some (.code true _ _) => 2
  | some (.code false _ _) => 3

/-- The mark of a read result, 0 when it holds none. -/
def markCode : Option ReadResult → Nat
  | some (.code _ mark _) => mark
  | _ => 0

/-- The grade code of a read result, 0 when it holds none. -/
def gradeCode : Option ReadResult → Nat
  | some (.code _ _ g) => g.code
  | _ => 0

/-- The eight words of an entry's can log record, with its final disposition. -/
def logWords (e : Entry) (d : Disposition) : List Word :=
  [ wordOfNat e.serial,
    wordOfNat (e.valve.getD 0 + 256 * e.origin.code + 1024 * attributionCode e.attribution + 4096 * e.recipe.code
      + 8192 * zoneCode e.zone + 65536 * decisionCode e.decision + 262144 * d.code),
    wordOfNat ((e.generation.getD 0).toNat + 65536 * flagNat (e.genKnown.getD false) + 131072 * readKindCode e.read
      + 524288 * markCode e.read + 536870912 * gradeCode e.read),
    wordOfNat (grossOf e.weighing),
    wordOfInt (e.net.getD 0),
    wordOfNat (e.reasons.toNat + 1024 * weighFaultCode e.weighing),
    e.dischargeTag.getD 0,
    e.outTag.getD 0 ]

/-! ## Lot records (R160, R162, Lot record) -/

/-- The mean of a lot: absent with 0 accepted, else the net sum ÷ accepted, truncated toward zero (R162). -/
def lotMean (l : Lot) : Option Int :=
  if l.accepted = 0 then none else some (Int.tdiv l.netSum.toInt l.accepted.toNat)

/-- mean_low: the mean is present and less than nominal (R162). -/
def lotMeanLow (l : Lot) (nominal : Nat) : Bool :=
  match lotMean l with
  | none => false
  | some m => decide (m < nominal)

/-- A mean as a signed word; a free value where it leaves 32 bits. -/
def meanWord (m : Int) : Word :=
  if -2147483648 ≤ m ∧ m ≤ 2147483647 then wordOfInt m else Config.meanOutOfRange m

/-- The ten reason counts in the order of R91. -/
def reasonWords (l : Lot) : List Word := (List.range 10).map (fun k => l.reasons.getD k 0)

/-- The first 24 words of a lot record, with the end time tag and the close cause code. -/
def lotHeadWords (l : Lot) (endTag : Word) (cause : Nat) : List Word :=
  [wordOfNat l.index] ++ textWords l.text ++ [l.start, endTag, wordOfNat cause, l.decided, l.accepted, l.rejected]
    ++ reasonWords l ++ [wordOfNat l.softUsed, wordOfNat l.allowance, l.netSum.extractLsb' 32 32, l.netSum.extractLsb' 0 32]

/-- The words of an open lot's area: end time tag, close cause and mean read 0 (R160). -/
def openLotWords (l : Lot) : List Word := lotHeadWords l 0 0 ++ [0, 0]

/-- The words of a closed lot record. -/
def closedLotWords (l : Lot) (endTag : Word) (cause : LotCause) (nominal : Nat) : List Word :=
  lotHeadWords l endTag cause.code
    ++ [ match lotMean l with | none => 0 | some m => meanWord m,
         wordOfNat (flagNat (lotMean l).isSome + 2 * flagNat (lotMeanLow l nominal)) ]
    ++ List.replicate 6 0

end Sys2Proof.Machine
end

