-- ==== Sys2Proof/Machine/WeighUnit.lean ====
section
/-! DEFINITION. The Weigh Channel's and the Calibration Unit's operations: samples, the weighing window and its result, zero
tracking, the averagings and their completion, the store write (R1 to R35). -/

namespace Sys2Proof.Machine

/-! ## Samples (R1) -/

/-- A sample record: the mark is set at the two extremes of the converter's range (R1). -/
def sampleOf (count : BitVec 24) (tag : Word) : Sample :=
  { count := count.toInt, tag := tag, overload := count.toInt = -8388608 || count.toInt = 8388607 }

/-- A sample appended to the sample list, which holds the 64 most recent (R1). -/
def appendSample (x : Sample) (l : List Sample) : List Sample := l.drop (l.length - 63) ++ [x]

/-! ## The weighing (R10 to R13) -/

/-- The samples of the window of a weighing that closes at a time tag (R10). -/
def windowOf (r : Recipe) (inTag outTag : Word) (l : List Sample) : List Sample :=
  let d := tagSpan outTag inTag
  if d < r.settle + r.guard then []
  else l.filter (fun x => decide (r.settle ≤ tagSpan x.tag inTag) && decide (tagSpan x.tag inTag ≤ d - r.guard))

/-- The sum of the counts of samples. -/
def sumCounts (l : List Sample) : Int := l.foldl (fun n x => n + x.count) 0

/-- Maximum − minimum of the counts of samples, 0 for none. -/
def countSpread : List Sample → Int
  | [] => 0
  | x :: t => (t.foldl (fun m y => max m y.count) x.count) - (t.foldl (fun m y => min m y.count) x.count)

/-- The gross mass of a mean count against zero and span factor, before its range test (R12, steps 2 and 3). -/
def grossMass (z : Int) (f : Nat) (mean : Int) : Int := roundAway ((mean - z) * f) 65536

/-- The weighing result of a weighing and its window (R11, R12). -/
def weighResult (r : Recipe) (z : Int) (f : Nat) (w : Weighing) (window : List Sample) : WeighResult :=
  if w.double then .fault .double
  else if window.length < r.minSamples then .fault .short
  else if window.any (·.overload) then .fault .range
  else if (r.stability : Int) < countSpread window then .fault .unstable
  else if w.interrupted then .fault .interrupted
  else
    let gross := grossMass z f (roundAway (sumCounts window) window.length)
    if gross < 0 || 2000000 < gross then .fault .range else .gross gross.toNat

/-- The zone of a net mass against a recipe (R13). -/
def zoneOf (r : Recipe) (net : Int) : Zone :=
  let hard : Int := r.nominal - r.hardDev
  let soft : Int := r.nominal - r.softDev
  let upper : Int := r.nominal + r.overDev
  if net < hard then .hardLow
  else if r.softDev > 0 && net < soft then .softLow
  else if net < upper then .good
  else .over

/-- The net mass of a weighing result against a recipe; absent for a weigh fault (R13). -/
def netOf (r : Recipe) : WeighResult → Option Int
  | .gross mg => some (mg - r.containerTare)
  | .fault _ => none

/-! ## Zero tracking (R15 to R17) -/

/-- A candidate within the band: an eighth of the difference, clamped to Zc ± zero_limit (R16). -/
def zeroStep (cand : Int) (s : State) : State :=
  let before := s.weigh.z + Int.tdiv (cand - s.weigh.z) 8
  let after := clampTo (s.cal.zc - s.cal.zeroLimit) (s.cal.zc + s.cal.zeroLimit) before
  let s1 := { s with weigh := { s.weigh with z := after, refusals := 0 } }
  if after = before then s1
  else raiseEvent .zeroClamped (if after < before then 1 else 2) (wordOfInt before) (wordOfInt after) s1

/-- A candidate outside the band: the refusal run rises, and ZERO_DRIFT is raised when it goes from 15 to 16 (R17). -/
def zeroRefuse (cand : Int) (s : State) : State :=
  let s1 := { s with weigh := { s.weigh with refusals := saturate 65535 s.weigh.refusals } }
  if s.weigh.refusals = 15 then raiseEvent .zeroDrift 16 (wordOfInt cand) (wordOfInt s.weigh.z) s1 else s1

/-- A candidate taken by the band test (R15 to R17). -/
def takeCandidate (cand : Int) (s : State) : State :=
  if (cand - s.weigh.z).natAbs ≤ (activeRecipe s).zeroBand then zeroStep cand s else zeroRefuse cand s

/-- The accumulator with a sample added. -/
def ZeroAcc.add (x : Sample) (a : ZeroAcc) : ZeroAcc :=
  { a with sum := a.sum + x.count, n := a.n + 1, overload := a.overload || x.overload }

/-- The sample is later than the quiet start by more than settle (R15). -/
def pastSettle (s : State) (x : Sample) : Bool :=
  tagLater x.tag s.weigh.acc.quietStart && decide ((activeRecipe s).settle < tagSpan x.tag s.weigh.acc.quietStart)

/-- A sample while zero tracking runs: accumulated past the settle time, and at the 64th the candidate (R15). -/
def zeroTrackSample (x : Sample) (s : State) : State :=
  if s.weigh.tracking && pastSettle s x then
    let a := s.weigh.acc.add x
    if a.n < 64 then { s with weigh := { s.weigh with acc := a } }
    else
      let s1 := { s with weigh := { s.weigh with acc := a.cleared } }
      if a.overload then s1 else takeCandidate (roundAway a.sum 64) s1
  else s

/-! ## Averagings (R19, R21, R26, R28) -/

/-- An averaging that has gathered nothing (R19, R25). -/
def Averaging.fresh : Averaging := { sum := 0, n := 0, low := none, high := none, overload := false }

/-- An averaging with a sample added (R19, R26). -/
def Averaging.add (x : Sample) (a : Averaging) : Averaging :=
  { sum := a.sum + x.count, n := a.n + 1
    low := some (match a.low with | none => x.count | some m => min m x.count)
    high := some (match a.high with | none => x.count | some m => max m x.count)
    overload := a.overload || x.overload }

/-- Maximum − minimum of what an averaging has gathered. -/
def Averaging.spread (a : Averaging) : Int := a.high.getD 0 - a.low.getD 0

/-- The zero-set averaging removed and its order finished (R21). -/
def finishZeroSet (slot : Slot) (o : Outcome) (detail : Int) (s : State) : State :=
  refreshZero (finishOrder slot o (wordOfInt detail) { s with weigh := { s.weigh with zeroSet := none } })

/-- The completion of a zero-set averaging at its 64th sample (R21). -/
def completeZeroSet (z : ZeroSet) (s : State) : State :=
  let cand := roundAway z.avg.sum 64
  if z.avg.overload then finishZeroSet z.slot .range 0 s
  else if ((activeRecipe s).stability : Int) < z.avg.spread then finishZeroSet z.slot .unstable z.avg.spread s
  else if s.cal.zeroLimit < (cand - s.cal.zc).natAbs then
    finishZeroSet z.slot .range ((cand - s.cal.zc).natAbs : Nat) s
  else finishZeroSet z.slot .done cand { s with weigh := { s.weigh with z := cand, refusals := 0 } }

/-- A sample while a zero-set averaging is in flight (R1, R19, R21). -/
def zeroSetSample (x : Sample) (s : State) : State :=
  match s.weigh.zeroSet with
  | none => s
  | some z =>
    let z' := { z with avg := z.avg.add x }
    if z'.avg.n < 64 then { s with weigh := { s.weigh with zeroSet := some z' } } else completeZeroSet z' s

/-! ## The store write (R31 to R33) -/

/-- The change count raised, CAL_CHANGED, and the store write begun with the record of the calibration in force (R31, R32). -/
def beginStoreWrite (kind : CalKind) (s : State) : State :=
  let s1 := { s with cal := { s.cal with changeCount := saturate 4294967295 s.cal.changeCount } }
  let s2 := raiseEvent .calChanged kind.code (wordOfNat s1.cal.changeCount) 0 s1
  { s2 with cal := { s2.cal with store := .writing 200 (storeRecord s2.cal) } }

/-- A store write that has succeeded (R32). -/
def storeSaved (s : State) : State :=
  finishHeldCal .done (wordOfNat s.cal.changeCount) { s with cal := { s.cal with store := .idle, lastWrite := .saved } }

/-- A store write that has failed: 1 for a mismatch, 2 for a timeout (R32). -/
def storeFailed (how : Nat) (s : State) : State :=
  finishHeldCal .doneUnsaved (wordOfNat s.cal.changeCount)
    (raiseEvent .storeFail how (wordOfNat s.cal.changeCount) 0
      { s with cal := { s.cal with store := .idle, lastWrite := .failed } })

/-! ## The calibration averaging (R25 to R30) -/

/-- The calibration state changed, and handed to Part Control (R23, R171). -/
def setCalState (c : CalState) (s : State) : State :=
  readinessTest (refreshZero { s with cal := { s.cal with state := c } })

/-- CAL_ZERO sets its values (R29). -/
def setCalZero (mean : Int) (limit : Nat) (s : State) : State :=
  let s1 := { s with
    cal := { s.cal with zc := mean, zeroLimit := limit }
    weigh := { s.weigh with z := mean, refusals := 0 } }
  match s.cal.state with
  | .none => setCalState .zeroOnly s1
  | _ => s1

/-- CAL_SPAN sets its value (R30). -/
def setCalSpan (f : Nat) (s : State) : State :=
  let s1 := { s with cal := { s.cal with f := f } }
  match s.cal.state with
  | .valid => s1
  | _ => setCalState .valid s1

/-- The limit on the spread of a calibration averaging: stability of ACTIVE, or 2,000 counts without an ACTIVE recipe
(R28). -/
def calStability (s : State) : Nat :=
  match s.recipes.active with
  | none => 2000
  | some r => r.stability

/-- The completion of a calibration averaging at its 256th sample (R28 to R30). The averaging is removed first, so that an
entry to RUN that its own effect causes does not end it (R27, R171). -/
def completeCal (c : CalAveraging) (s0 : State) : State :=
  let s := refreshZero { s0 with cal := { s0.cal with averaging := none } }
  let mean := roundAway c.avg.sum 256
  if c.avg.overload then finishHeldCal .range 0 s
  else if (calStability s : Int) < c.avg.spread then finishHeldCal .unstable (wordOfInt c.avg.spread) s
  else
    match c.kind with
    | .zero => beginStoreWrite .zero (setCalZero mean c.arg s)
    | .span =>
      let d := mean - s.weigh.z
      if d < 1000 then finishHeldCal .range (wordOfInt d) s
      else
        let f := roundAway (c.arg * 65536) d.toNat
        if f < 1 || 4194303 < f then finishHeldCal .range (wordOfInt f) s
        else beginStoreWrite .span (setCalSpan f.toNat s)

/-- A sample while a calibration averaging is in flight (R26). -/
def calSample (x : Sample) (s : State) : State :=
  match s.cal.averaging with
  | none => s
  | some c =>
    let c' := { c with avg := c.avg.add x }
    if c'.avg.n < 256 then { s with cal := { s.cal with averaging := some c' } } else completeCal c' s

/-! ## The platform list (R5, R9) -/

/-- The platform list after an accepted PLATFORM_IN: a weighing appended, and DOUBLE on all when one was open (R5). -/
def openWeighing (tag : Word) (l : List Weighing) : List Weighing :=
  if l.isEmpty then [{ inTag := tag, double := false, interrupted := false }]
  else l.map (fun w => { w with double := true }) ++ [{ inTag := tag, double := true, interrupted := false }]

/-- The platform list emptied: the jam timer stopped, and the quiet start set to the present time tag (R9). -/
def emptyPlatform (s : State) : State :=
  refreshZero { s with weigh := { s.weigh with
    platform := [], jam := .stopped, acc := { s.weigh.acc with quietStart := s.exch.timeTag } } }

end Sys2Proof.Machine
end

