-- ==== Sys2Proof/Machine/CalCommands.lean ====
section
/-! DEFINITION. The commands of the Calibration Unit and its store port (R27, R32, R35). -/

namespace Sys2Proof.Machine

/-- The calibration that a good record gives (R34, R35). -/
def recordCal (bytes : List Byte) (c : Calibration) : Calibration :=
  { c with
    zc := (bytesWord ((bytes.drop 4).take 4)).toInt, f := recordField bytes 8 4, zeroLimit := recordField bytes 12 4
    changeCount := recordField bytes 16 4, state := if recordField bytes 20 2 = 2 then .valid else .zeroOnly }

/-- A good record taken, with Z set to Zc (R35, R18). -/
def takeRecord (bytes : List Byte) (s : State) : State :=
  { s with
    cal := recordCal bytes s.cal
    weigh := { s.weigh with z := (recordCal bytes s.cal).zc } }

/-- The scan timer loaded with 5 ms (R181). -/
def startScan (s : State) : State := { s with orders := { s.orders with scan := some 50 } }

/-- STORE_READ_END: the record, good or bad, then CONFIG, and the scan timer starts (R35, R170, R181). In another state than
LOADING no read is under way. -/
def execStoreReadEnd (bytes : List Byte) (s : State) : Host.Outcome State Fault Refusal :=
  .next (if s.part.state = .loading then
      startScan (changePart .config .loaded
        (match recordFailure bytes with
         | none => takeRecord bytes s
         | some test => raiseEvent .storeBlank test 0 0 s))
    else s)

/-- STORE_WRITE_COMPARED: the write in flight ends by the comparison of the bytes read back; with none in flight the comparison is
dropped (R32). -/
def execStoreWriteCompared (readBack : List Byte) (s : State) : Host.Outcome State Fault Refusal :=
  .next (match s.cal.store with
    | .idle => s
    | .writing _ record => if readBack = record then storeSaved s else storeFailed 1 s)

/-- STORE_TIMER_EXPIRY: the store timer at its end fails the write in flight (R32). -/
def execStoreTimerExpiry (s : State) : Host.Outcome State Fault Refusal :=
  .next (match s.cal.store with
    | .writing 0 _ => storeFailed 2 s
    | _ => s)

/-- CAL_SWITCH_OFF: the level, and a calibration averaging in flight ends SWITCH_OFF (R27). -/
def execCalSwitchOff (s : State) : Host.Outcome State Fault Refusal :=
  .next (endCalAveraging .switchOff 0 { s with pins := { s.pins with calSwitch := false } })

end Sys2Proof.Machine
end

