-- ==== Sys2Proof/Machine/LotUnit.lean ====
section
/-! DEFINITION. The Recipe and Lot Unit's operations on lots and on the end of a changeover: opening and closing a lot, counting
a decision, the drain (R158 to R167). -/

namespace Sys2Proof.Machine

/-- The open lot of the recipe an entry carries: the active lot or the retiring lot (R90). -/
def lotOf (s : State) : RecipeRef → Option Lot
  | .active => s.recipes.activeLot
  | .retiring => s.recipes.retiringLot

/-- The open lot of a recipe slot replaced. -/
def setLot (ref : RecipeRef) (l : Option Lot) (s : State) : State :=
  match ref with
  | .active => { s with recipes := { s.recipes with activeLot := l } }
  | .retiring => { s with recipes := { s.recipes with retiringLot := l } }

/-- A lot at its opening under a recipe (R161). -/
def freshLot (index : Nat) (r : Recipe) (start : Word) : Lot :=
  { index := index, text := r.lotText, start := start, decided := 0, accepted := 0, rejected := 0
    reasons := List.replicate 10 0, softUsed := 0, allowance := r.softAllowance, netSum := 0 }

/-- A new active lot opens under ACTIVE; the lot minutes word is written and the fine count set to 600 (R161). That the tenth of a
second under way starts afresh as well, `finePhase` 0, is DESIGN CHOICE (log 4). -/
def openLot (s : State) : State :=
  { s with
    recipes := { s.recipes with
      activeLot := some (freshLot s.recipes.nextLot (activeRecipe s) s.exch.timeTag)
      nextLot := nextNumber s.recipes.nextLot
      fine := 600
      finePhase := 0 }
    exch := s.exch.write lotMinutesAddr [wordOfNat (activeRecipe s).lotMinutes] }

/-- LOT_CLOSED, and LOT_MEAN_LOW where the mean is below nominal (R162). -/
def lotCloseEvents (l : Lot) (nominal : Nat) (c : LotCause) (e : Exchange) : Exchange :=
  let e1 := e.event .lotClosed c.code (wordOfNat l.index) l.accepted
  match lotMean l with
  | none => e1
  | some m => if m < nominal then e1.event .lotMeanLow l.index (meanWord m) (wordOfNat nominal) else e1

/-- A lot filed in the closed lot list at the write position, with its events and the notice LOT (R162). -/
def fileLot (l : Lot) (r : Recipe) (c : LotCause) (s : State) : State :=
  { s with
    recipes := { s.recipes with closedPos := s.recipes.closedPos + 1 }
    exch :=
      (lotCloseEvents l r.nominal c
        (s.exch.write (0x0300 + 32 * s.recipes.closedPos.val) (closedLotWords l s.exch.timeTag c r.nominal))).raiseNotice .lot }

/-- The active lot closed, if one is open. -/
def closeActiveLot (c : LotCause) (s : State) : State :=
  match s.recipes.activeLot with
  | none => s
  | some l => fileLot l (recipeOf s .active) c (setLot .active none s)

/-- The retiring lot closed, if one is open (R166). -/
def closeRetiringLot (c : LotCause) (s : State) : State :=
  match s.recipes.retiringLot with
  | none => s
  | some l => fileLot l (recipeOf s .retiring) c (setLot .retiring none s)

/-- The active lot closed and its successor opened in the same action (R163). -/
def reopenActiveLot (c : LotCause) (s : State) : State := openLot (closeActiveLot c s)

/-- The CHANGEOVER order held finished, if one is held. -/
def finishHeldChangeover (o : Outcome) (detail : Word) (s : State) : State :=
  match s.recipes.held with
  | none => s
  | some slot => finishOrder slot o detail { s with recipes := { s.recipes with held := none } }

/-- The boundary generation as a word. -/
def boundaryWord (s : State) : Word := wordOfNat s.recipes.boundary.toNat

/-- The index of the retiring lot, 0 when none is open. -/
def retiringLotIndex (s : State) : Nat :=
  match s.recipes.retiringLot with
  | none => 0
  | some l => l.index

/-- The drain ends: the retiring lot closes, RETIRING is cleared, the order finishes DONE with the boundary generation, and
RETIRING_DRAINED is raised, arg0 1 for a drain and 2 for a flush (R158, R159). -/
def endDrain (c : LotCause) (how : Nat) (s : State) : State :=
  let s1 := closeRetiringLot c s
  let s2 := finishHeldChangeover .done (boundaryWord s) { s1 with recipes := { s1.recipes with retiring := none } }
  raiseEvent .retiringDrained how (boundaryWord s) (wordOfNat (retiringLotIndex s)) s2

/-- The drain check (R158). -/
def drainCheck (s : State) : State :=
  if s.recipes.retiring.isSome && s.track.entries.all (fun e => decide (e.recipe ≠ .retiring)) then endDrain .drained 1 s
  else s

/-! ## Counting a decision (R94, R98, R160) -/

/-- The counts of the reasons in a set raised by one each. -/
def countReasons (set : BitVec 10) (counts : List Word) : List Word :=
  mapFrom (fun i c => if set.getLsbD i then c + 1 else c) 0 counts

/-- A net sum with a net added; a free value where the exact sum leaves signed 64 bits. -/
def addNet (sum : BitVec 64) (net : Int) : BitVec 64 :=
  let y := sum.toInt + net
  if -9223372036854775808 ≤ y ∧ y ≤ 9223372036854775807 then BitVec.ofInt 64 y else Config.netSumOutOfRange sum net

/-- A lot with a decision counted (R94). `soft` says that the decision used a unit of the allowance (R92). -/
def countDecision (d : Decision) (reasons : BitVec 10) (net : Int) (soft : Bool) (l : Lot) : Lot :=
  match d with
  | .accept =>
    { l with
      decided := l.decided + 1, accepted := l.accepted + 1, netSum := addNet l.netSum net
      softUsed := if soft then l.softUsed + 1 else l.softUsed }
  | .reject =>
    { l with decided := l.decided + 1, rejected := l.rejected + 1, reasons := countReasons reasons l.reasons }

/-- A lot with the recount of a FAULT_STOP forcing (R98). -/
def recountForced (before : Option Decision) (net : Int) (l : Lot) : Lot :=
  let l1 := { l with reasons := countReasons Reason.faultStop.bit l.reasons }
  match before with
  | some .accept =>
    { l1 with accepted := l.accepted - 1, rejected := l.rejected + 1, netSum := addNet l.netSum (-net) }
  | _ => l1

end Sys2Proof.Machine
end

