-- ==== Sys2Proof/Machine/TrackUnit.lean ====
section
/-! DEFINITION. The Tracking Unit's operations on the Can Track: the order of the list, creation, removal with its can log
record, and making room (R36 to R42, R59). -/

namespace Sys2Proof.Machine

/-- An entry placed at the end of its stage (R37). -/
def insertByStage (e : Entry) : List Entry → List Entry
  | [] => [e]
  | x :: t => if e.stage.rank < x.stage.rank then e :: x :: t else x :: insertByStage e t

/-- The oldest entry of a stage. -/
def oldestOf (st : Stage) (s : State) : Option Entry := s.track.entries.find? (fun e => decide (e.stage = st))

/-- The entry that a serial names. -/
def entryOf (serial : Nat) (s : State) : Option Entry := s.track.entries.find? (fun e => decide (e.serial = serial))

/-- The entries with the one of the same serial replaced. -/
def setEntry (e : Entry) (s : State) : State :=
  { s with track := { s.track with entries := s.track.entries.map (fun x => if x.serial = e.serial then e else x) } }

/-- A new entry of an origin in a stage, with the next serial and every other field absent, read_open no, carrying ACTIVE
(R36, R38). -/
def blankEntry (origin : Origin) (stage : Stage) (s : State) : Entry :=
  { serial := s.track.nextSerial, origin := origin, valve := none, generation := none, genKnown := none, recipe := .active
    stage := stage, attribution := none, read := none, readOpen := false, weighing := none, net := none, zone := none
    decision := none, reasons := 0, countedLot := none, dischargeTag := none, outTag := none, deadline := none }

/-- An entry created: placed at the end of its stage, and the next serial advances (R37, R38). The next serial is given without a
look at the track, even where an entry that has stayed for a whole wrap still bears it (log 35). -/
def createEntry (e : Entry) (s : State) : State :=
  { s with track := { s.track with
    entries := insertByStage e s.track.entries, nextSerial := nextNumber s.track.nextSerial } }

/-- An entry taken out of the list and its can log record written (R59, steps 1 and 2). -/
def removeEntry (e : Entry) (d : Disposition) (s : State) : State :=
  { s with
    track := { s.track with entries := s.track.entries.eraseP (fun x => decide (x.serial = e.serial)) }
    exch := s.exch.logRecord (logWords e d) }

/-- A removal with its drain check (R59). -/
def removeWithDrain (e : Entry) (d : Disposition) (s : State) : State := drainCheck (removeEntry e d s)

/-- Every entry removed as FLUSHED, oldest first, without drain checks (R60, R61). -/
def flushEntries (s : State) : State := s.track.entries.foldl (fun t e => removeEntry e .flushed t) s

/-- The track holds no more entries than it may (R41). -/
def trackFull (s : State) : Bool := decide (256 ≤ s.track.entries.length)

/-- The entry that makes room for a created entry: the oldest TRANSIT entry, or else the oldest that is not ON_PLATFORM
(R42). -/
def roomVictim (s : State) : Option Entry :=
  match oldestOf .transit s with
  | some e => some e
  | none => s.track.entries.find? (fun e => decide (e.stage ≠ .onPlatform))

/-- Room made for an UNMATCHED or UNTRACKED entry in a full track (R42). -/
def makeRoom (s : State) : State :=
  if trackFull s then
    match roomVictim s with
    | none => s
    | some v =>
      raiseEvent .trackFull 3 (wordOfNat v.serial) (wordOfNat s.track.nextSerial) (removeWithDrain v .dropped s)
  else s

end Sys2Proof.Machine
end

