-- ==== Sys2Proof/Machine/ValveUnit.lean ====
section
/-! DEFINITION. Valve Control's operations: the Valve Table, the taking of a decided can, the average and the correction, dead
time, and what a changeover and RESTART do to the valves (R110 to R128). -/

namespace Sys2Proof.Machine

/-- A valve of the Valve Table. -/
def valveAt (s : State) (v : Nat) : Valve := numbered s.valves.table Valve.afterReset v

/-- A valve's wanted and served trims. -/
def trimAt (s : State) (v : Nat) : Trim := numbered s.dose.trims { wanted := 0, served := 0 } v

/-- A valve of the Valve Table replaced. -/
def setValve (v : Nat) (x : Valve) (s : State) : State :=
  { s with valves := { s.valves with table := setNumbered s.valves.table v x } }

/-- A valve's wanted trim written; its served trim is untouched (R121, R134). -/
def setWanted (v : Nat) (w : Int) (s : State) : State :=
  { s with dose := { s.dose with trims := setNumbered s.dose.trims v { trimAt s v with wanted := w } } }

/-- Every valve replaced by a function of its number, itself and its trims. -/
def mapValves (f : Nat → Valve → Valve) (s : State) : State :=
  { s with valves := { s.valves with table := mapFrom f 1 s.valves.table } }

/-- Every valve's trims replaced by a function of its number and themselves. -/
def mapTrims (f : Nat → Trim → Trim) (s : State) : State :=
  { s with dose := { s.dose with trims := mapFrom f 1 s.dose.trims } }

/-- A valve with its statistics zeroed (R110). -/
def Valve.zeroed (x : Valve) : Valve :=
  { x with avg := 0, n := 0, hardLowRun := 0, effectGen := none, awaitedGen := none }

/-- The valve has left the loop by the host or by its hard-low run. -/
def Valve.heldOut (x : Valve) : Bool := x.state = .locked || x.state = .faulty

/-! ## Taking a decided can (R113 to R121) -/

/-- awaited_gen at once for a valve that a write puts in WAIT_EFFECT: the served generation, when the wanted trim equals the
served trim, the table is SYNCED and no update is in flight (R121). -/
def immediateAwaited (s : State) (wanted served : Int) : Option Gen :=
  if wanted = served && s.dose.inflight.isNone then s.dose.served else none

/-- A valve put in WAIT_EFFECT by a write of its wanted trim (R120, R121, R131). -/
def waitAfterWrite (v : Nat) (wanted : Int) (s : State) : State :=
  let s1 := setWanted v wanted s
  setValve v { valveAt s v with
    state := .waitEffect, n := 0, awaitedGen := immediateAwaited s wanted (trimAt s v).served } s1

/-- The correction of a block end: −avg × gain ÷ 1,600, rounded to nearest with ties toward zero, clamped to ±step_limit
(R119). -/
def correction (r : Recipe) (avg : Int) : Int := clampAbs r.stepLimit (roundToward (-avg * r.gain) 1600)

/-- The correction added to the wanted trim: a write and WAIT_EFFECT, or TRIM_AT_LIMIT when nothing changes (R120). -/
def applyCorrection (v : Nat) (s : State) : State :=
  let r := activeRecipe s
  let c := correction r (valveAt s v).avg
  let w := (trimAt s v).wanted
  let w' := clampAbs r.trimLimit (w + c)
  if w' = w then raiseEvent .trimAtLimit v (wordOfInt c) (wordOfInt w) s
  else waitAfterWrite v w' s

/-- The tests of a block end: loop ON, link not DOWN, |avg| above 16 × deadband (R118). -/
def correctionDue (s : State) (avg : Int) : Bool :=
  s.valves.loop && decide (s.dose.link ≠ .down) && decide (16 * (activeRecipe s).deadband < avg.natAbs)

/-- The largest average, in sixteenths of a mg (R110). -/
def avgLimit : Nat := 16000000

/-- The average with the error of a net taken in (R117). -/
def averaged (r : Recipe) (avg : Int) (net : Int) : Int :=
  clampAbs avgLimit (avg + Int.fdiv (16 * (net - r.target) - avg) (2 ^ r.smoothing))

/-- A qualifying can in AVERAGING: the average, and at a block end the correction (R117, R118). n reaches sample_min when it is no
longer below it, so that with sample_min 1 the can after a seed, which makes n 2, ends the block (R124; log 36). -/
def averageCan (v : Nat) (net : Int) (s : State) : State :=
  let r := activeRecipe s
  let x := valveAt s v
  let avg' := averaged r x.avg net
  if r.sampleMin ≤ x.n + 1 then
    let s1 := setValve v { x with avg := avg', n := 0 } s
    if correctionDue s avg' then applyCorrection v s1 else s1
  else setValve v { x with avg := avg', n := x.n + 1 } s

/-- The seed of a valve in WAIT_EFFECT (R124). -/
def seedValve (r : Recipe) (g : Gen) (net : Int) (x : Valve) : Valve :=
  { x with
    state := .averaging, effectGen := some g, awaitedGen := none
    avg := clampAbs avgLimit (16 * (net - r.target)), n := 1 }

/-- What a qualifying can does, by the valve's state (R116). -/
def takeQualifying (v : Nat) (gen : Gen) (net : Int) (s : State) : State :=
  let x := valveAt s v
  match x.state, x.awaitedGen with
  | .averaging, _ => averageCan v net s
  | .waitEffect, some g => if notOlder gen g then setValve v (seedValve (activeRecipe s) g net x) s else s
  | _, _ => s

/-- The weighing result is a gross mass, not a weigh fault (R114). -/
def isGross : Option WeighResult → Bool
  | some (.gross _) => true
  | _ => false

/-- Every condition of R114 but the zone's holds for a counted can. -/
def otherwiseQualifies (s : State) (e : Entry) (x : Valve) : Bool :=
  decide (e.genKnown = some true) && decide (e.recipe = .active) && isGross e.weighing
    && (match x.effectGen, e.generation with
        | none, _ => true
        | some g, some h => notOlder h g
        | some _, none => false)
    && (decide (x.state = .averaging) || decide (x.state = .waitEffect)) && decide (s.part.state = .run)

/-- A HARD_LOW can that otherwise qualifies: the run rises, and at three the valve becomes FAULTY (R115). -/
def hardLowCan (v : Nat) (e : Entry) (net : Int) (s : State) : State :=
  let x := valveAt s v
  if x.hardLowRun + 1 < 3 then setValve v { x with hardLowRun := x.hardLowRun + 1 } s
  else
    raiseEvent .valveFaulty v (wordOfNat e.serial) (wordOfInt net)
      (setValve v { x with hardLowRun := x.hardLowRun + 1, state := .faulty, awaitedGen := none } s)

/-- The counts of a counted can: cans_seen, and last_net when it has a net (R113). -/
def countCan (v : Nat) (e : Entry) (s : State) : State :=
  let x := valveAt s v
  setValve v { x with cansSeen := x.cansSeen + 1, lastNet := e.net.getD x.lastNet } s

/-- The valve that an offer counts against: a FILLER entry of attribution EXACT with a valve (R113). -/
def countedValve (e : Entry) : Option Nat :=
  if e.origin = .filler && e.attribution = some .exact then e.valve else none

/-- An offer taken: the counts, the qualifying test, the hard-low run, the effect on the average (R113 to R116). -/
def offerCan (e : Entry) (s : State) : State :=
  match countedValve e with
  | none => s
  | some v =>
    let s1 := countCan v e s
    if otherwiseQualifies s1 e (valveAt s1 v) then
      match e.zone, e.net, e.generation with
      | some .hardLow, some net, _ => hardLowCan v e net s1
      | some .softLow, some net, some gen | some .good, some net, some gen =>
        takeQualifying v gen net (setValve v { valveAt s1 v with hardLowRun := 0 } s1)
      | _, _, _ => s1
    else s1

/-! ## Dead time (R122 to R126) -/

/-- A first send: each listed valve in WAIT_EFFECT takes the update's generation (R122). -/
def firstSend (g : Gen) (list : List (Nat × Int)) (s : State) : State :=
  mapValves (fun v x =>
    if x.state = .waitEffect && list.any (fun p => p.1 == v) then { x with awaitedGen := some g } else x) s

/-- The waiting valves without awaited_gen whose wanted trim equals their served trim take the served generation (R123,
R126). -/
def awaitServed (g : Gen) (s : State) : State :=
  mapValves (fun v x =>
    if x.state = .waitEffect && x.awaitedGen.isNone && (trimAt s v).wanted = (trimAt s v).served then
      { x with awaitedGen := some g }
    else x) s

/-- A valve aged against the served generation (R125). -/
def ageValve (g : Gen) (x : Valve) : Valve :=
  let effect := x.effectGen.bind (fun h => if 16384 ≤ genLag g h then none else some h)
  let awaited :=
    if x.state = .waitEffect then x.awaitedGen.map (fun h => if 16384 ≤ genLag g h then g else h) else x.awaitedGen
  { x with effectGen := effect, awaitedGen := awaited }

/-- Every valve aged against the served generation (R125). -/
def ageValves (g : Gen) (s : State) : State := mapValves (fun _ x => ageValve g x) s

/-- A refused update: each listed valve in WAIT_EFFECT returns to AVERAGING; then, when SYNCED, the waiting valves whose
wanted trim equals their served trim take the served generation (R126). -/
def refusedUpdate (list : List (Nat × Int)) (s : State) : State :=
  let s1 := mapValves (fun v x =>
    if x.state = .waitEffect && list.any (fun p => p.1 == v) then
      { x with state := .averaging, n := 0, awaitedGen := none }
    else x) s
  match s.dose.served with
  | none => s1
  | some g => awaitServed g s1

/-! ## Recipes and resets (R111, R127, R128) -/

/-- The wanted trims against a new ACTIVE recipe: 0 above its V, within it 0 by clear_trims or clamped to ±trim_limit (R111,
R157). -/
def rewantTrims (r : Recipe) (s : State) : State :=
  mapTrims (fun v t =>
    { t with wanted := if r.valveCount < v || r.clearTrims then 0 else clampAbs r.trimLimit t.wanted }) s

/-- The valves at a CHANGEOVER taken in CONFIG (R111). -/
def valvesAtConfigChangeover (r : Recipe) (s : State) : State :=
  mapValves (fun v x =>
    if r.valveCount < v then { x.zeroed with state := .idle }
    else if x.heldOut then x
    else { x.zeroed with state := .averaging }) s

/-- The valves at a changeover swap with boundary generation B (R127). -/
def valvesAtSwap (r : Recipe) (b : Gen) (s : State) : State :=
  mapValves (fun v x =>
    if r.valveCount < v then { x.zeroed with state := .idle }
    else if x.heldOut then x
    else if (trimAt s v).wanted = (trimAt s v).served then { x.zeroed with state := .averaging, effectGen := some b }
    else { x.zeroed with state := .waitEffect, effectGen := some b }) s

/-- The valves at RESTART: AVERAGING within V, IDLE otherwise, statistics and counts zeroed (R128). -/
def valvesAtRestart (s : State) : State :=
  mapValves (fun v _ => { Valve.afterReset with state := if withinV s v then .averaging else .idle }) s

end Sys2Proof.Machine
end

