-- ==== Sys2Proof/Machine/DispositionUnit.lean ====
section
/-! DEFINITION. The Disposition Unit's operations: reasons, the soft-low allowance, the decision and its count, the forcing in
FAULT_STOP, and the Reject Driver (R90 to R101). -/

namespace Sys2Proof.Machine

/-- A reason's bit where the reason applies. -/
def reasonIf (applies : Bool) (r : Reason) : BitVec 10 := if applies then r.bit else 0

/-- The weighing result is a weigh fault. -/
def isWeighFault : Option WeighResult → Bool
  | some (.fault _) => true
  | _ => false

/-- The read result is a code of the wrong lot. -/
def isWrongLot : Option ReadResult → Bool
  | some (.code false _ _) => true
  | _ => false

/-- The read result is a code whose grade is poor against min_grade (R73). -/
def isPoorGrade (minGrade : Grade) : Option ReadResult → Bool
  | some (.code _ _ g) => g.worse minGrade
  | _ => false

/-- The reasons of an entry against its recipe, all of R91 but SOFT_LIMIT, UNDECIDED and FAULT_STOP. -/
def plainReasons (r : Recipe) (e : Entry) : BitVec 10 :=
  reasonIf (e.zone = some .hardLow) .hardLow
    ||| reasonIf (e.zone = some .over && r.rejectOver) .over
    ||| reasonIf (isWeighFault e.weighing) .weighFault
    ||| reasonIf (e.read = some .noRead && r.codeRequired) .noCode
    ||| reasonIf (isWrongLot e.read) .wrongCode
    ||| reasonIf (isPoorGrade r.minGrade e.read && r.codeRequired) .poorCode
    ||| reasonIf (e.origin = .untracked) .untracked

/-- The allowance of a lot has a unit left (R92); without an open lot there is none. -/
def allowanceLeft : Option Lot → Bool
  | none => false
  | some l => decide (l.softUsed < l.allowance)

/-- The allowance test is made: zone SOFT_LOW and no other reason (R92). -/
def allowanceTested (e : Entry) (reasons : BitVec 10) : Bool := decide (e.zone = some .softLow) && decide (reasons = 0)

/-- The reasons after the allowance test: SOFT_LIMIT where the test is made and fails (R92). -/
def finalReasons (lot : Option Lot) (e : Entry) (reasons : BitVec 10) : BitVec 10 :=
  if allowanceTested e reasons && !allowanceLeft lot then Reason.softLimit.bit else reasons

/-- ACCEPT for an empty reason set, REJECT for any other (R93). -/
def decisionOf (reasons : BitVec 10) : Decision := if reasons = 0 then .accept else .reject

/-- The lot limit: an ACCEPT in the active lot that brings accepted to lot_can_limit closes the lot and opens the next
(R163). -/
def lotLimitCheck (ref : RecipeRef) (d : Decision) (s : State) : State :=
  match ref, d, s.recipes.activeLot with
  | .active, .accept, some l =>
    if (activeRecipe s).lotCanLimit ≠ 0 && l.accepted.toNat = (activeRecipe s).lotCanLimit then reopenActiveLot .limit s
    else s
  | _, _, _ => s

/-- The entry as its decision leaves it (R93). -/
def decidedEntry (s : State) (extra : BitVec 10) (e : Entry) : Entry :=
  let lot := lotOf s e.recipe
  let reasons := finalReasons lot e (plainReasons (recipeOf s e.recipe) e ||| extra)
  { e with decision := some (decisionOf reasons), reasons := reasons, countedLot := lot.map (·.index) }

/-- The lot as the decision of an entry leaves it (R94). -/
def decidedLot (s : State) (extra : BitVec 10) (e : Entry) : Option Lot :=
  let base := plainReasons (recipeOf s e.recipe) e ||| extra
  let reasons := finalReasons (lotOf s e.recipe) e base
  (lotOf s e.recipe).map (countDecision (decisionOf reasons) reasons (e.net.getD 0) (allowanceTested e base))

/-- The decision of an entry, with the reasons that its place adds: reasons, allowance, the entry, the count and the lot limit,
then the offer to Valve Control (R90 to R95). -/
def decideEntry (extra : BitVec 10) (e : Entry) (s : State) : State :=
  let e' := decidedEntry s extra e
  let s1 := setLot e.recipe (decidedLot s extra e) (setEntry e' s)
  offerCan e' (lotLimitCheck e.recipe (decisionOf e'.reasons) s1)

/-- An entry handed for decision when it has a weighing result, a closed read and no decision (R55). -/
def decideIfDue (e : Entry) (s : State) : State :=
  if e.weighing.isSome && !e.readOpen && e.decision.isNone then decideEntry 0 e s else s

/-! ## The reject eye (R97 to R99) -/

/-- The lot of a forced entry recounted, if the lot with the counted lot's index is still open (R98). -/
def recountLot (e : Entry) (ref : RecipeRef) (s : State) : State :=
  match lotOf s ref with
  | none => s
  | some l =>
    if e.countedLot = some l.index then setLot ref (some (recountForced e.decision (e.net.getD 0) l)) s else s

/-- An entry decided before its arrival at the reject eye, forced out in FAULT_STOP (R98). -/
def forceEntry (e : Entry) (s : State) : State :=
  setEntry { e with decision := some .reject, reasons := e.reasons ||| Reason.faultStop.bit }
    (recountLot e .retiring (recountLot e .active s))

/-- The reasons that the reject eye adds to an undecided entry: UNDECIDED, and FAULT_STOP in FAULT_STOP (R97, R98). -/
def eyeReasons (s : State) : BitVec 10 :=
  Reason.undecided.bit ||| reasonIf (s.part.state = .faultStop) .faultStop

/-- The oldest WEIGHED entry with its decision made sure of, and forced where R98 applies. -/
def settleAtEye (e : Entry) (s : State) : State :=
  if e.decision.isNone then decideEntry (eyeReasons s) e s
  else if s.part.state = .faultStop then forceEntry e s
  else s

/-- The Reject Driver fires: the pulse timer is loaded, whatever it had left, and REJECT_DRIVE is active (R101). -/
def fire (pulse : Nat) (s : State) : State :=
  { s with reject := { actuator := .firing (pulse * 10), drive := true } }

/-- The end of a REJECT_EYE arrival for a decided entry: the fire for a REJECT, and the move to PAST_REJECT with the window of
its decision (R99, R56). -/
def passEye (e : Entry) (s : State) : State :=
  let r := recipeOf s e.recipe
  if e.decision = some .reject then
    setEntry { e with stage := .pastReject, deadline := some (r.confirmWindow * 10) } (fire r.rejectPulse s)
  else setEntry { e with stage := .pastReject, deadline := some (r.missingWindow * 10) } s

end Sys2Proof.Machine
end

