-- ==== Sys2Proof/Machine/BindingUnit.lean ====
section
/-! DEFINITION. The Tracking Unit's binding: how a pending read is resolved, by mark, by position or late, and what the platform
arrivals do to the track (R43 to R55). -/

namespace Sys2Proof.Machine

/-- The read result that a message gives an entry of a recipe: lot_match by the exact comparison of R72 (R49). -/
def readResultOf (r : Recipe) : ReadMessage → ReadResult
  | .noRead => .noRead
  | .code text mark grade => .code (decide (text = r.lotText)) mark grade

/-- The pass mark of an entry: its serial modulo 1000 (R38). -/
def passMark (e : Entry) : Nat := e.serial % 1000

/-- An entry bound to a read: stage READ, its attribution, the read result, read_open no (R49). -/
def boundEntry (s : State) (a : Attribution) (m : ReadMessage) (e : Entry) : Entry :=
  { e with stage := .read, attribution := some a, read := some (readResultOf (recipeOf s e.recipe) m), readOpen := false }

/-- The entry created at the reader (R47, R48). -/
def createAtReader (origin : Origin) (a : Attribution) (m : ReadMessage) (s : State) : State :=
  createEntry (boundEntry s a m (blankEntry origin .read s)) s

/-- An unbound pending read resolved as NO_READ binds by position (R48). Answers the serial bound as well. -/
def bindByPosition (s : State) : State × Nat :=
  match oldestOf .transit s with
  | some e => (setEntry (boundEntry s .positional .noRead e) s, e.serial)
  | none =>
    let s1 := makeRoom s
    let serial := s1.track.nextSerial
    (raiseEvent .untrackedCan 3 (wordOfNat serial) 0 (createAtReader .untracked .positional .noRead s1), serial)

/-- The search window: the oldest 32 TRANSIT entries (R46). -/
def searchWindow (s : State) : List Entry := (s.track.entries.filter (fun e => decide (e.stage = .transit))).take 32

/-- LOST_IN_TRANSIT for the entries removed by a binding by mark (R46, step 2). -/
def lostEvent (lost : List Entry) (found : Entry) (s : State) : State :=
  match lost with
  | [] => s
  | x :: _ => raiseEvent .lostInTransit lost.length (wordOfNat x.serial) (wordOfNat found.serial) s

/-- Entries removed as LOST_IN_TRANSIT, one after another, oldest first (R46, R59). -/
def loseEntries (lost : List Entry) (s : State) : State := lost.foldl (fun t x => removeWithDrain x .lostInTransit t) s

/-- An unbound pending read resolved by a code binds by mark (R46, R47). Answers the serial bound as well. -/
def bindByMark (text : List Byte) (mark : Nat) (grade : Grade) (s : State) : State × Nat :=
  let window := searchWindow s
  match window.find? (fun e => decide (passMark e = mark)) with
  | some e =>
    let lost := window.takeWhile (fun x => decide (passMark x ≠ mark))
    let s1 := lostEvent lost e (loseEntries lost s)
    (setEntry (boundEntry s1 .exact (.code text mark grade) e) s1, e.serial)
  | none =>
    let s1 := makeRoom s
    let serial := s1.track.nextSerial
    (raiseEvent .markUnmatched mark (wordOfNat serial) (wordOfNat window.length)
      (createAtReader .unmatched .mismatch (.code text mark grade) s1), serial)

/-- The entry as the late resolution of its read completes it (R53). -/
def lateEntry (s : State) (m : ReadMessage) (e : Entry) : Entry :=
  let a :=
    match m with
    | .noRead => e.attribution
    | .code _ mark _ => if e.origin = .filler && passMark e = mark then some .exact else some .mismatch
  { e with attribution := a, read := some (readResultOf (recipeOf s e.recipe) m), readOpen := false }

/-- A bound pending read resolved late (R53, R55). Answers the serial completed as well, 0 when the entry has left. -/
def resolveLate (serial : Nat) (m : ReadMessage) (s : State) : State × Nat :=
  match entryOf serial s with
  | none => (s, 0)
  | some e =>
    let e' := lateEntry s m e
    (decideIfDue e' (setEntry e' s), serial)

/-- A pending read that has left the list, resolved (R44). Answers the serial bound or completed as well. -/
def resolveRead (p : PendingRead) (m : ReadMessage) (s : State) : State × Nat :=
  match p.bound, m with
  | some serial, _ => resolveLate serial m s
  | none, .noRead => bindByPosition s
  | none, .code text mark grade => bindByMark text mark grade s

/-- The pending read list replaced. -/
def setReads (l : List PendingRead) (s : State) : State := { s with track := { s.track with reads := l } }

/-- CODE_UNSOLICITED for a read result that finds no pending read (R44). -/
def unsolicited (m : ReadMessage) (s : State) : State :=
  match m with
  | .code _ mark _ => raiseEvent .codeUnsolicited 1 (wordOfNat mark) 0 s
  | .noRead => raiseEvent .codeUnsolicited 2 0 0 s

/-- A read result taken by the Tracking Unit: it resolves the oldest pending read (R44); discarded in the states that take no
cans (R39). -/
def takeReadResult (m : ReadMessage) (s : State) : State :=
  if s.takesCans then
    match s.track.reads with
    | [] => unsolicited m s
    | p :: rest => (resolveRead p m (setReads rest s)).1
  else s

/-- Room for a ninth pending read: the oldest is resolved as NO_READ, and READ_LIST_FULL is raised (R43). -/
def makeReadRoom (s : State) : State :=
  match s.track.reads with
  | [] => s
  | p :: rest =>
    if 8 ≤ s.track.reads.length then
      let out := resolveRead p .noRead (setReads rest s)
      raiseEvent .readListFull (flagNat p.bound.isSome) p.eyeTag (wordOfNat out.2) out.1
    else s

/-! ## The platform (R50 to R54) -/

/-- The oldest unbound pending read bound to a serial (R51). -/
def bindOldestRead (serial : Nat) : List PendingRead → List PendingRead
  | [] => []
  | p :: t => if p.bound.isNone then { p with bound := some serial } :: t else p :: bindOldestRead serial t

/-- The pending read list holds an unbound pending read. -/
def unboundWaits (s : State) : Bool := s.track.reads.any (fun p => p.bound.isNone)

/-- Early binding: the entry for a can that reached the platform before its code (R51). -/
def bindEarly (s : State) : State :=
  match oldestOf .transit s with
  | some e =>
    setReads (bindOldestRead e.serial s.track.reads)
      (setEntry { e with stage := .onPlatform, attribution := some .positional, readOpen := true } s)
  | none =>
    let s1 := makeRoom s
    let serial := s1.track.nextSerial
    raiseEvent .untrackedCan 2 (wordOfNat serial) 0
      (setReads (bindOldestRead serial s1.track.reads)
        (createEntry { blankEntry .untracked .onPlatform s1 with attribution := some .positional, readOpen := true } s1))

/-- The entry for a can that the reader never reported (R52). -/
def createAtPlatform (s : State) : State :=
  let s1 := makeRoom s
  raiseEvent .untrackedCan 1 (wordOfNat s1.track.nextSerial) 0
    (createEntry { blankEntry .untracked .onPlatform s1 with read := some .noRead } s1)

/-- A PLATFORM_IN arrival handed to the Tracking Unit (R50 to R52). -/
def trackPlatformIn (s : State) : State :=
  match oldestOf .read s with
  | some e => setEntry { e with stage := .onPlatform } s
  | none => if unboundWaits s then bindEarly s else createAtPlatform s

/-- The entry as its PLATFORM_OUT leaves it: WEIGHED, with its weighing result, net, zone and platform out time tag (R54). -/
def weighedEntry (s : State) (w : WeighResult) (e : Entry) : Entry :=
  let r := recipeOf s e.recipe
  { e with
    stage := .weighed, weighing := some w, net := netOf r w, zone := (netOf r w).map (zoneOf r)
    outTag := some s.exch.timeTag }

/-- A PLATFORM_OUT arrival handed to the Tracking Unit with its weighing result (R54, R55). -/
def trackPlatformOut (w : WeighResult) (s : State) : State :=
  match oldestOf .onPlatform s with
  | none => s
  | some e =>
    let e' := weighedEntry s w e
    decideIfDue e' (setEntry e' s)

end Sys2Proof.Machine
end

