-- ==== Sys2Proof/Machine/DoseUnit.lean ====
section
/-! DEFINITION. The Dose Unit's operations and the changeover swap: the transmitter of the filler link, the build of an update,
resends, acknowledgements, the swap (R86, R87, R134 to R151, R157, R159). -/

namespace Sys2Proof.Machine

/-! ## The transmitter (R87) -/

/-- A frame handed to the transmitter: sent at once from IDLE, else the waiting frame (R87). -/
def transmit (frame : List Byte) (p : FillerPort) : FillerPort :=
  match p.tx with
  | .idle => { p with tx := .sending frame 0 }
  | .sending _ _ => { p with waiting := some frame }

/-- Hundredths of a bit time in one character of the filler link: 11 bit times (The line). -/
def charSpan : Nat := 1100

/-- The position of the next byte of a frame on which a line time has been spent: the bytes begun so far (R87). -/
def nextByte (frame : List Byte) (spent : Nat) : Nat := min frame.length (spent / charSpan + 1)

/-- The transmitter at RESTART: the byte on the line is the last of the frame (R89). -/
def cutFrame : Transmitter → Transmitter
  | .idle => .idle
  | .sending frame spent => .sending (frame.take (nextByte frame spent)) spent

/-! ## Sending (R137, R141) -/

/-- A message handed to the Filler Port, and the ack timer loaded with 40 ms (R137, R141). -/
def sendMessage (m : Message) (s : State) : State :=
  { s with filler := transmit (updateFrame m) s.filler, dose := { s.dose with ack := some 400 } }

/-- The in-flight message resent unchanged (R137). -/
def resend (s : State) : State :=
  match s.dose.inflight with
  | none => s
  | some m => sendMessage m s

/-- A built message becomes the in-flight message, is sent, and is handed to Valve Control as a first send (R141). -/
def launch (m : Message) (s : State) : State :=
  firstSend m.generation m.list (sendMessage m { s with dose := { s.dose with inflight := some m } })

/-! ## The build (R138 to R140) -/

/-- The valves 1..V in the examination order of a table that is SYNCED: from the valve after the round-robin position,
wrapping from V to 1 (R139). -/
def examinationOrder (rr v : Nat) : List Nat :=
  if rr = 0 || v ≤ rr then List.range' 1 v else List.range' (rr + 1) (v - rr) ++ List.range' 1 rr

/-- The first twenty valves of an order that pass a test, each with the trim it carries (R139, R140). -/
def selectValves (order : List Nat) (test : Nat → Bool) (carried : Nat → Int) : List (Nat × Int) :=
  ((order.filter test).take 20).map (fun v => (v, carried v))

/-- The update of an UNSYNCED table: generation 1, base and limit of ACTIVE, clear set (R138, R139). -/
def unsyncedUpdate (r : Recipe) (s : State) : Message :=
  { generation := 1, base := some r.target, limit := some r.trimLimit, clear := true, changeover := false
    list := selectValves (List.range' 1 r.valveCount) (fun v => decide ((trimAt s v).wanted ≠ 0))
      (fun v => (trimAt s v).wanted) }

/-- The trim a valve carries in a changeover update: its wanted trim clamped to the pending limit (R140). -/
def carriedTrim (c : PendingChangeover) (s : State) (v : Nat) : Int := clampAbs c.limit (trimAt s v).wanted

/-- The update that carries a changeover (R138, R140). -/
def changeoverUpdate (r : Recipe) (c : PendingChangeover) (g : Gen) (s : State) : Message :=
  { generation := g + 1, base := some c.base, limit := some c.limit, clear := c.clear, changeover := true
    list :=
      if c.clear then []
      else selectValves ((examinationOrder s.dose.rr r.valveCount).filter (fun v => decide (v ≤ c.valveCount)))
        (fun v => decide (carriedTrim c s v ≠ (trimAt s v).served)) (carriedTrim c s) }

/-- A valve's wanted trim differs from its served trim. -/
def trimDiffers (s : State) (v : Nat) : Bool := decide ((trimAt s v).wanted ≠ (trimAt s v).served)

/-- The update of trims alone (R138, R139). -/
def trimUpdate (r : Recipe) (g : Gen) (s : State) : Message :=
  { generation := g + 1, base := none, limit := none, clear := false, changeover := false
    list := selectValves (examinationOrder s.dose.rr r.valveCount) (trimDiffers s) (fun v => (trimAt s v).wanted) }

/-- The update that a pulse builds, if one is due (R138). In SYNCED it carries served + 1 by the formula of R136, after a REFUSED
ack too, where that is the refused number again: DESIGN CHOICE (log 38). -/
def dueUpdate (s : State) : Option Message :=
  let r := activeRecipe s
  match s.dose.served, s.dose.changeover with
  | none, _ => some (unsyncedUpdate r s)
  | some g, some c => some (changeoverUpdate r c g s)
  | some g, none =>
    if (List.range' 1 r.valveCount).any (trimDiffers s) then some (trimUpdate r g s) else none

/-- A pulse in UP with the ack timer stopped: an update is built if one is due (R138, R141). -/
def buildAtPulse (s : State) : State :=
  match s.dose.inflight, dueUpdate s with
  | none, some m => launch m s
  | _, _ => s

/-- A pulse in DOWN: the probe count rises, and at sixteen the message is resent and the count set to 0 (R137). -/
def probeAtPulse (s : State) : State :=
  if s.dose.probe + 1 < 16 then { s with dose := { s.dose with probe := s.dose.probe + 1 } }
  else resend { s with dose := { s.dose with probe := 0 } }

/-! ## UNSYNCED (R135) -/

/-- The Dose Table becomes UNSYNCED: served generation absent, served base, limit and trims 0, round-robin 0 (R135). -/
def unsync (s : State) : State :=
  mapTrims (fun _ t => { t with served := 0 })
    { s with dose := { s.dose with served := none, base := 0, limit := 0, rr := 0 } }

/-- The Dose Unit at RESTART, as after full reset (R150, R151). -/
def doseAtRestart (s : State) : State := { s with dose := State.reset.dose }

/-! ## The changeover swap (R157) -/

/-- The slots of the swap: ACTIVE becomes RETIRING, NEXT becomes ACTIVE, and the boundary generation is set. -/
def swapSlots (b : Gen) (s : State) : State :=
  { s with recipes := { s.recipes with
    retiring := s.recipes.active, active := s.recipes.next, next := none, boundary := b } }

/-- Every entry of the track marked RETIRING. -/
def markRetiring (s : State) : State :=
  { s with track := { s.track with entries := s.track.entries.map (fun e => { e with recipe := .retiring }) } }

/-- The active lot becomes the retiring lot, still open. -/
def retireLot (s : State) : State :=
  { s with recipes := { s.recipes with retiringLot := s.recipes.activeLot, activeLot := none } }

/-- The index of the active lot, 0 when none is open. -/
def activeLotIndex (s : State) : Nat :=
  match s.recipes.activeLot with
  | none => 0
  | some l => l.index

/-- The changeover swap with boundary generation B: slots, entries, wanted trims, valves, lots, event, drain check (R157). -/
def swap (b : Gen) (s : State) : State :=
  let s1 := markRetiring (swapSlots b s)
  let s2 := valvesAtSwap (activeRecipe s1) b (rewantTrims (activeRecipe s1) s1)
  let s3 := openLot (retireLot s2)
  drainCheck (raiseEvent .changeoverSwap b.toNat (wordOfNat s.track.entries.length) (wordOfNat (activeLotIndex s3)) s3)

/-! ## Acknowledgements (R144 to R147) -/

/-- The served trim of a valve after a serve: cleared, set from the list, clamped to the served limit (R145, steps 4 to 6). -/
def servedTrim (m : Message) (limit : Nat) (v : Nat) (t : Trim) : Trim :=
  let cleared := if m.clear then 0 else t.served
  let listed :=
    match m.list.find? (fun p => p.1 == v) with
    | some p => p.2
    | none => cleared
  { t with served := clampAbs limit listed }

/-- The round-robin position after a serve: the last valve of the list, if it has one (R145). -/
def rrAfter (rr : Nat) (list : List (Nat × Int)) : Nat :=
  match list.getLast? with
  | some p => p.1
  | none => rr

/-- The served values set from a served message, the message removed, the link UP (R145). -/
def serveValues (m : Message) (s : State) : State :=
  let limit := m.limit.getD s.dose.limit
  mapTrims (servedTrim m limit)
    { s with dose := { s.dose with
      served := some m.generation, base := m.base.getD s.dose.base, limit := limit, inflight := none, ack := none
      rr := rrAfter s.dose.rr m.list, probe := 0, link := .up } }

/-- LINK_UP where an ack ends the message while the link is DOWN (R145, R147). -/
def linkUpEvent (before : LinkState) (g : Gen) (code : Nat) (s : State) : State :=
  match before with
  | .down => raiseEvent .linkUp g.toNat (wordOfNat code) 0 s
  | _ => s

/-- A serve: the served values, LINK_UP, the swap or the waiting valves, the aging (R145, R146). -/
def serve (m : Message) (res : AckResult) (s : State) : State :=
  let s1 := linkUpEvent s.dose.link m.generation res.code (serveValues m s)
  let s2 :=
    if m.changeover then swap m.generation { s1 with dose := { s1.dose with changeover := none } }
    else awaitServed m.generation s1
  ageValves m.generation s2

/-- The listed valves' wanted trims reverted to their served trims (R147, step 3). -/
def revertTrims (list : List (Nat × Int)) (s : State) : State :=
  mapTrims (fun v t => if list.any (fun p => p.1 == v) then { t with wanted := t.served } else t) s

/-- A refused changeover: the pending one removed, the order finished FILLER_REFUSED, NEXT discarded (R147, R159). -/
def refuseChangeover (g : Gen) (s : State) : State :=
  finishHeldChangeover .fillerRefused (wordOfNat g.toNat)
    { s with dose := { s.dose with changeover := none }, recipes := { s.recipes with next := none } }

/-- A REFUSED ack for the message in flight (R147). -/
def refuse (m : Message) (s : State) : State :=
  let s1 := revertTrims m.list { s with dose := { s.dose with inflight := none, ack := none, probe := 0, link := .up } }
  let s2 := raiseEvent .doseRefused m.generation.toNat (wordOfNat m.list.length) (wordOfNat (flagNat m.changeover))
    (refusedUpdate m.list s1)
  let s3 := linkUpEvent s.dose.link m.generation 3 s2
  if m.changeover then refuseChangeover m.generation s3 else s3

/-- ACK_STRAY: the in-flight generation, or 65,536 without one (R144). -/
def strayAck (g : Gen) (res : AckResult) (s : State) : State :=
  raiseEvent .ackStray g.toNat (wordOfNat res.code)
    (match s.dose.inflight with | some m => wordOfNat m.generation.toNat | none => wordOfNat 65536) s

/-- A DOSE_ACK handed to the Dose Unit (R144). -/
def takeAck (g : Gen) (res : AckResult) (s : State) : State :=
  match s.dose.inflight with
  | none => strayAck g res s
  | some m =>
    if m.generation = g then
      match res with
      | .refused => refuse m s
      | _ => serve m res s
    else strayAck g res s

/-! ## Discharges (R40, R41, R83, R84) -/

/-- The recipe a discharge is given: RETIRING when a RETIRING slot exists and its generation is older than the boundary
generation (R40). -/
def dischargeRecipe (g : Gen) (s : State) : RecipeRef :=
  if s.recipes.retiring.isSome && !notOlder g s.recipes.boundary then .retiring else .active

/-- The newest generation sent is not older than a discharge's, and the table is SYNCED (R40). -/
def genKnownAt (g : Gen) (s : State) : Bool :=
  match s.dose.served with
  | none => false
  | some h =>
    match s.dose.inflight with
    | some m => notOlder m.generation g
    | none => notOlder h g

/-- The valve byte of a discharge is bad against its recipe (R84). -/
def badValve (valve : Byte) (r : Recipe) : Bool := valve = 0 || decide (r.valveCount < valve.toNat) || decide (128 < valve.toNat)

/-- The FILLER entry of a discharge (R40). -/
def dischargeEntry (valve : Byte) (g : Gen) (s : State) : Entry :=
  let ref := dischargeRecipe g s
  { blankEntry .filler .transit s with
    recipe := ref, generation := some g, genKnown := some (genKnownAt g s), dischargeTag := some s.exch.timeTag
    valve := if badValve valve (recipeOf s ref) then none else some valve.toNat }

/-- DISCHARGE_BAD for a bad valve, with the serial of the entry or 0 (R84). -/
def dischargeBad (valve : Byte) (g : Gen) (ref : RecipeRef) (serial : Nat) (s : State) : State :=
  if badValve valve (recipeOf s ref) then
    raiseEvent .dischargeBad valve.toNat (wordOfNat g.toNat) (wordOfNat serial) s
  else s

/-- The entry of a discharge created, then its valve tested (R83). -/
def trackDischarge (valve : Byte) (g : Gen) (s : State) : State :=
  dischargeBad valve g (dischargeRecipe g s) s.track.nextSerial (createEntry (dischargeEntry valve g s) s)

/-- A DISCHARGE handed to the Tracking Unit (R40, R41, R83, R84). -/
def takeDischarge (valve : Byte) (g : Gen) (s : State) : State :=
  if trackFull s then
    match oldestOf .transit s with
    | some v =>
      trackDischarge valve g
        (raiseEvent .trackFull 1 (wordOfNat v.serial) (wordOfNat g.toNat) (removeWithDrain v .dropped s))
    | none =>
      dischargeBad valve g (dischargeRecipe g s) 0 (raiseEvent .trackFull 2 0 (wordOfNat g.toNat) s)
  else trackDischarge valve g s

end Sys2Proof.Machine
end

