-- ==== Sys2Proof/Machine/DoseCommands.lean ====
section
/-! DEFINITION. The commands of the Dose Unit: the FILLER_INDEX pulse and the ack timer (R137, R142). -/

namespace Sys2Proof.Machine

/-- FILLER_INDEX_ARRIVAL: taken by the ack timer and the link state (R137). -/
def execFillerIndexArrival (s : State) : Host.Outcome State Fault Refusal :=
  .next (if s.takesCans && s.dose.ack.isNone then
      match s.dose.link with
      | .up => buildAtPulse s
      | .retry => resend s
      | .down => probeAtPulse s
    else s)

/-- LINK_DOWN for the message in flight (R142). -/
def linkDownEvent (s : State) : State :=
  match s.dose.inflight with
  | none => s
  | some m =>
    raiseEvent .linkDown m.generation.toNat (wordOfNat m.list.length) (wordOfNat (flagNat m.changeover)) s

/-- The link state after an ack timeout (R142). -/
def ackTimedOut (s : State) : State :=
  match s.dose.link with
  | .up => { s with dose := { s.dose with ack := none, link := .retry } }
  | .retry => linkDownEvent { s with dose := { s.dose with ack := none, link := .down, probe := 0 } }
  | .down => { s with dose := { s.dose with ack := none } }

/-- ACK_TIMER_EXPIRY: the ack timer at its end stops, and the link state moves (R142). -/
def execAckTimerExpiry (s : State) : Host.Outcome State Fault Refusal :=
  .next (if s.dose.ack = some 0 then ackTimedOut s else s)

end Sys2Proof.Machine
end

