-- ==== Sys2Proof/Machine/OrderUnit.lean ====
section
/-! DEFINITION. The Order Unit: the checks at the take, the effect of each of the twelve order kinds, the take of a slot and the
scan (R154 to R156, R129 to R133, R180 to R190, and the hand-overs of R19, R25, R60, R163, R175). -/

namespace Sys2Proof.Machine

/-- The twelve order kinds (R183). -/
inductive OrderKind where
  | changeover
  | lotClose
  | zeroSet
  | calZero
  | calSpan
  | valveLock
  | valveRelease
  | valveTrim
  | loopSet
  | snapshot
  | trackFlush
  | faultClear
deriving DecidableEq, Repr

/-- The kind that a kind word codes (R183, step 1). -/
def orderKindOf (w : Word) : Option OrderKind :=
  match w.toNat with
  | 1 => some .changeover
  | 2 => some .lotClose
  | 3 => some .zeroSet
  | 4 => some .calZero
  | 5 => some .calSpan
  | 6 => some .valveLock
  | 7 => some .valveRelease
  | 8 => some .valveTrim
  | 9 => some .loopSet
  | 10 => some .snapshot
  | 11 => some .trackFlush
  | 12 => some .faultClear
  | _ => none

/-- The part states a kind allows (R183, step 2 and its table). -/
def OrderKind.allowedIn (k : OrderKind) (p : PartState) : Bool :=
  match k, p with
  | .changeover, .config | .changeover, .stopped | .changeover, .run => true
  | .lotClose, .stopped | .lotClose, .run => true
  | .zeroSet, .stopped => true
  | .calZero, .config | .calZero, .stopped | .calSpan, .config | .calSpan, .stopped => true
  | .valveLock, .config | .valveLock, .stopped | .valveLock, .run | .valveLock, .faultStop => true
  | .valveRelease, .config | .valveRelease, .stopped | .valveRelease, .run | .valveRelease, .faultStop => true
  | .valveTrim, .config | .valveTrim, .stopped | .valveTrim, .run | .valveTrim, .faultStop => true
  | .loopSet, .config | .loopSet, .stopped | .loopSet, .run | .loopSet, .faultStop => true
  | .snapshot, .config | .snapshot, .stopped | .snapshot, .run | .snapshot, .faultStop => true
  | .trackFlush, .stopped | .trackFlush, .faultStop => true
  | .faultClear, .faultStop => true
  | _, _ => false

/-- A word of a slot (R179). -/
def slotWord (s : State) (slot : Slot) (k : Nat) : Word := s.exch.read (slotBase slot + k)

/-- Argument 1 of a slot's order. -/
def slotArg1 (s : State) (slot : Slot) : Word := slotWord s slot 2

/-- Argument 2 of a slot's order. -/
def slotArg2 (s : State) (slot : Slot) : Word := slotWord s slot 3

/-- The kind needs CAL_SWITCH on (R183, step 3). -/
def OrderKind.needsSwitch (k : OrderKind) : Bool :=
  match k with
  | .calZero | .calSpan => true
  | _ => false

/-- The calibration state admits the kind (R183, step 4). -/
def OrderKind.admittedBy (k : OrderKind) (c : CalState) : Bool :=
  match k with
  | .zeroSet => decide (c = .valid)
  | .calSpan => decide (c ≠ .none)
  | _ => true

/-- Every argument the kind reads lies in its range; the only argument with a range is argument 1 (R183, step 5). -/
def OrderKind.argsIn (k : OrderKind) (s : State) (slot : Slot) : Bool :=
  match k with
  | .calZero => inRange 0 200000 (slotArg1 s slot).toNat
  | .calSpan => inRange 1000 2000000 (slotArg1 s slot).toNat
  | .valveLock | .valveRelease | .valveTrim => withinV s (slotArg1 s slot).toNat
  | .loopSet => inRange 0 1 (slotArg1 s slot).toNat
  | _ => true

/-- The kind is of the calibration class (R183, step 6). -/
def OrderKind.calClass (k : OrderKind) : Bool :=
  match k with
  | .zeroSet | .calZero | .calSpan => true
  | _ => false

/-- A store write is in flight (R32). -/
def StoreState.isWriting : StoreState → Bool
  | .idle => false
  | .writing _ _ => true

/-- The calibration class is busy (R183). -/
def calClassBusy (s : State) : Bool := s.weigh.zeroSet.isSome || s.cal.held.isSome || s.cal.store.isWriting

/-- Steps 2 to 6 of R183: the first that fails, with its reason and detail. -/
def orderFailure (k : OrderKind) (s : State) (slot : Slot) : Option (Outcome × Word) :=
  if !k.allowedIn s.part.state then some (.wrongState, wordOfNat s.part.state.code)
  else if k.needsSwitch && !s.pins.calSwitch then some (.switchOff, 0)
  else if !k.admittedBy s.cal.state then some (.calInvalid, wordOfNat s.cal.state.code)
  else if !k.argsIn s slot then some (.badArg, 1)
  else if k.calClass && calClassBusy s then some (.busy, 0)
  else none

/-! ## The production orders (R154 to R156, R163) -/

/-- The words of the staged recipe area by offset (R153). -/
def stagedWord (s : State) (k : Nat) : Word := s.exch.read (stagedBase + k)

/-- A valid CHANGEOVER in CONFIG: the recipe in force at once (R155). -/
def changeoverInConfig (r : Recipe) (slot : Slot) (s : State) : State :=
  let s1 := closeActiveLot .order s
  let s2 := unsync { s1 with recipes := { s1.recipes with active := some r } }
  let s3 := openLot (valvesAtConfigChangeover r (rewantTrims r s2))
  readinessTest (finishOrder slot .done (wordOfNat (activeLotIndex s3)) s3)

/-- The changeover pending that a recipe gives (R149). -/
def pendingOf (r : Recipe) : PendingChangeover :=
  { base := r.target, limit := r.trimLimit, clear := r.clearTrims, valveCount := r.valveCount }

/-- A valid CHANGEOVER in STOPPED or RUN: NEXT, the order held, the changeover pending; the order stays TAKEN (R156, R149). -/
def changeoverOnLine (r : Recipe) (slot : Slot) (s : State) : State :=
  holdOrder slot .recipeAndLot
    { s with
      recipes := { s.recipes with next := some r, held := some slot }
      dose := { s.dose with changeover := some (pendingOf r) } }

/-- CHANGEOVER: its two checks, then its effect by the part state (R154). -/
def orderChangeover (slot : Slot) (s : State) : State :=
  if s.recipes.held.isSome || s.recipes.retiring.isSome then finishOrder slot .busy 0 s
  else
    match recipeFailure (stagedWord s) with
    | some field => finishOrder slot .badRecipe (wordOfNat field) s
    | none =>
      if s.part.state = .config then changeoverInConfig (recipeCopy (stagedWord s)) slot s
      else changeoverOnLine (recipeCopy (stagedWord s)) slot s

/-- LOT_CLOSE: the active lot closes with cause ORDER and its successor opens (R163). -/
def orderLotClose (slot : Slot) (s : State) : State :=
  finishOrder slot .done (wordOfNat (activeLotIndex s)) (reopenActiveLot .order s)

/-! ## The calibration-class orders (R19, R25) -/

/-- ZERO_SET: the zero-set averaging starts, unless the platform is occupied (R19). -/
def orderZeroSet (slot : Slot) (s : State) : State :=
  if s.weigh.platform.isEmpty then
    refreshZero (holdOrder slot .weigh
      { s with weigh := { s.weigh with zeroSet := some { slot := slot, avg := Averaging.fresh } } })
  else finishOrder slot .disturbed 0 s

/-- A calibration averaging starts for an order that is now held (R25). -/
def beginCalAveraging (kind : CalKind) (slot : Slot) (s : State) : State :=
  refreshZero (holdOrder slot .calibration
    { s with cal := { s.cal with
      held := some slot
      averaging := some { kind := kind, arg := (slotArg1 s slot).toNat, avg := Averaging.fresh } } })

/-- CAL_ZERO: the averaging starts, unless the platform is occupied (R25). -/
def orderCalZero (slot : Slot) (s : State) : State :=
  if s.weigh.platform.isEmpty then beginCalAveraging .zero slot s else finishOrder slot .disturbed 0 s

/-- CAL_SPAN: the averaging starts (R25). -/
def orderCalSpan (slot : Slot) (s : State) : State := beginCalAveraging .span slot s

/-! ## The valve orders (R129 to R133) -/

/-- VALVE_LOCK (R129). -/
def orderValveLock (slot : Slot) (s : State) : State :=
  let v := (slotArg1 s slot).toNat
  let x := valveAt s v
  finishOrder slot .done (wordOfNat x.state.code) (setValve v { x with state := .locked, awaitedGen := none } s)

/-- VALVE_RELEASE (R130). -/
def orderValveRelease (slot : Slot) (s : State) : State :=
  let v := (slotArg1 s slot).toNat
  let x := valveAt s v
  finishOrder slot .done (wordOfNat x.state.code)
    (if x.heldOut then setValve v { x with state := .averaging, avg := 0, n := 0, hardLowRun := 0, awaitedGen := none } s
     else s)

/-- VALVE_TRIM (R131, R121). -/
def orderValveTrim (slot : Slot) (s : State) : State :=
  let v := (slotArg1 s slot).toNat
  let t := clampAbs (activeRecipe s).trimLimit (slotArg2 s slot).toInt
  finishOrder slot .done (wordOfInt t)
    (if (valveAt s v).state = .averaging ∨ (valveAt s v).state = .waitEffect then waitAfterWrite v t s else setWanted v t s)

/-- LOOP_SET (R132). -/
def orderLoopSet (slot : Slot) (s : State) : State :=
  finishOrder slot .done (wordOfNat (flagNat s.valves.loop))
    { s with valves := { s.valves with loop := decide (slotArg1 s slot = 1) } }

/-- The in-flight trim of a valve: the trim of its listing in the in-flight message, absent otherwise (R134). -/
def inFlightTrim (s : State) (v : Nat) : Option Int :=
  match s.dose.inflight with
  | none => none
  | some m => (m.list.find? (fun p => p.1 == v)).map (·.2)

/-- The eight words of a valve's snapshot entry (Valve snapshot). -/
def snapshotEntry (s : State) (v : Nat) : List Word :=
  let x := valveAt s v
  let t := trimAt s v
  let f := inFlightTrim s v
  [ wordOfNat (x.state.code + 256 * x.n + 65536 * x.hardLowRun + 1048576 * flagNat x.effectGen.isSome
      + 2097152 * flagNat x.awaitedGen.isSome + 4194304 * flagNat f.isSome),
    wordOfInt x.avg,
    wordOfNat ((x.effectGen.getD 0).toNat + 65536 * (x.awaitedGen.getD 0).toNat),
    wordOfInt x.lastNet,
    x.cansSeen,
    wordOfInt t.wanted, wordOfInt t.served, wordOfInt (f.getD 0) ]

/-- The valve count of ACTIVE, 0 without an ACTIVE recipe. -/
def activeValveCount (s : State) : Nat :=
  match s.recipes.active with
  | none => 0
  | some r => r.valveCount

/-- The eight words of the snapshot header (Valve snapshot). -/
def snapshotHeader (s : State) : List Word :=
  [ s.valves.snapshots, s.exch.timeTag, wordOfNat s.part.state.code, wordOfNat (activeValveCount s),
    wordOfNat (flagNat s.valves.loop), wordOfNat (flagNat s.dose.served.isSome), wordOfNat s.dose.link.code,
    wordOfNat (s.dose.served.getD 0).toNat ]

/-- SNAPSHOT: the count rises, then header and entries are written (R133). -/
def orderSnapshot (slot : Slot) (s : State) : State :=
  let s1 := { s with valves := { s.valves with snapshots := s.valves.snapshots + 1 } }
  finishOrder slot .done s1.valves.snapshots
    { s1 with
      exch := (s1.exch.write 0x0600 (snapshotHeader s1)).write 0x0610 ((List.range' 1 128).flatMap (snapshotEntry s1)) }

/-! ## The other orders (R60, R175) -/

/-- TRACK_FLUSH (R60, R9, R159). -/
def orderTrackFlush (slot : Slot) (s : State) : State :=
  let s1 := emptyPlatform (setReads [] (flushEntries s))
  finishOrder slot .done (wordOfNat s.track.entries.length)
    (if s1.recipes.retiring.isSome then endDrain .flush 2 s1 else s1)

/-- FAULT_CLEAR: the cause, STOP_REQ, the part state, the finish, then the converter's test (R175). -/
def orderFaultClear (slot : Slot) (s : State) : State :=
  silentCheck (finishOrder slot .done (wordOfNat (causeCode s.part.cause))
    (changePart (lineState s) .faultClear { s with part := { s.part with cause := none, stopReq := false } }))

/-! ## The take and the scan (R181, R182, R184) -/

/-- An order handed to its owning block (R184). -/
def handOver (k : OrderKind) (slot : Slot) (s : State) : State :=
  match k with
  | .changeover => orderChangeover slot s
  | .lotClose => orderLotClose slot s
  | .zeroSet => orderZeroSet slot s
  | .calZero => orderCalZero slot s
  | .calSpan => orderCalSpan slot s
  | .valveLock => orderValveLock slot s
  | .valveRelease => orderValveRelease slot s
  | .valveTrim => orderValveTrim slot s
  | .loopSet => orderLoopSet slot s
  | .snapshot => orderSnapshot slot s
  | .trackFlush => orderTrackFlush slot s
  | .faultClear => orderFaultClear slot s

/-- The take of a POSTED slot: the checks of R183, then the finish or the hand-over (R182). -/
def takeOrder (slot : Slot) (s : State) : State :=
  match orderKindOf (slotWord s slot 1) with
  | none => finishOrder slot .badKind (slotWord s slot 1) s
  | some k =>
    match orderFailure k s slot with
    | some (o, detail) => finishOrder slot o detail s
    | none => handOver k slot s

/-- A slot examined by the scan: taken when its word 0 holds POSTED and it is not taken (R181). -/
def examineSlot (slot : Slot) (s : State) : State :=
  if slotWord s slot 0 = 1 && !slotTaken s slot then takeOrder slot s else s

/-- The slots in the order of the scan. -/
def scanOrder : List Slot := [0, 1, 2, 3, 4, 5, 6, 7]

/-- The scan of the eight slots (R181). -/
def scanSlots (s : State) : State := scanOrder.foldl (fun t slot => examineSlot slot t) s

/-- The part states in which the scan is made (R181). -/
def State.scans (s : State) : Bool := decide (s.part.state = .config) || s.takesCans

end Sys2Proof.Machine
end

