-- ==== Sys2Proof/WellFormed.lean ====
section
/-! DEFINITION. Which terms of `Instr` are commands of the table: the operand values that a row admits. -/

namespace Sys2Proof

/-- The word address of IDENT, the first of the four registers (Registers and notices). -/
def identAddr : Word := 0x4000#32

/-- The word address of CONTROL. -/
def controlAddr : Word := 0x4001#32

/-- The word address of NOTICE. -/
def noticeAddr : Word := 0x4002#32

/-- The word address of NOTICE_MASK. -/
def noticeMaskAddr : Word := 0x4003#32

/-- Carriage return, the character that ends a reader message (04, character classes). -/
def charCR : Byte := 0x0D#8

/-- Line feed, which the reader link skips (R64). -/
def charLF : Byte := 0x0A#8

/-- A command's operands are ones its row admits. The other terms stand for another row of the table (a CR is
READER_MESSAGE, a write to a register is that register's row) or for no event (a store record of another length). -/
def Instr.wellFormed : Instr → Bool
  | .storeReadEnd bytes => bytes.length == 32
  | .storeWriteCompared readBack => readBack.length == 32
  | .restart value => value.getLsbD 0
  | .registerWriteIgnored addr value => addr == identAddr || (addr == controlAddr && !value.getLsbD 0)
  | .hostMemoryWrite addr _ =>
    addr != identAddr && addr != controlAddr && addr != noticeAddr && addr != noticeMaskAddr
  | .readerOverlong c => c != charCR && c != charLF
  | .readerCharacter c => c != charCR
  | .fullReset | .clearingComplete | .noticeClear _ | .noticeMaskWrite _ | .refusalHoldoffExpiry | .timeWrap
  | .sampleArrival _ | .storeTimerExpiry | .converterWatchExpiry | .platformInArrival | .platformOutArrival
  | .lineRunRise | .lineRunFall | .jamTimerExpiry | .calSwitchOff | .readerEyeArrival | .readDeadlineExpiry
  | .readerMessage | .readerFramingError _ | .dischargeFrame _ | .doseAckFrame _ | .fillerErroredCharacter _
  | .fillerBufferOverrun _ | .gapTimerExpiry | .transmitFrameEnd | .fillerIndexArrival | .ackTimerExpiry
  | .rejectEyeArrival | .pulseTimerExpiry | .confirmEyeArrival | .pastRejectDeadlineExpiry | .lotMinuteStep
  | .orderScan _ | .fillerCharacter _ | .badFrameCompleted _ | .breakEnd _ => true

end Sys2Proof
end

