-- ==== Sys2Proof/Machine/HostUnit.lean ====
section
/-! DEFINITION. The host's side of the part: what a host read gives, which lines the part owns, host writes to the memory and the
registers, and RESTART (R176, R191 to R195, R197, R200). -/

namespace Sys2Proof.Machine

/-! ## Host reads (R192, R194, R200, Layouts) -/

/-- The value of IDENT. -/
def identValue : Word := 0x4C480481#32

/-- The number of entries in a stage (R62). -/
def stageCount (st : Stage) (s : State) : Nat := (s.track.entries.filter (fun e => decide (e.stage = st))).length

/-- The words of the status block, from 0x0000 (Status block). -/
def statusWords (s : State) : List Word :=
  [ wordOfNat s.part.state.code, wordOfNat (causeCode s.part.cause), wordOfNat (flagNat s.pins.lineRun),
    wordOfNat (flagNat s.valves.loop), wordOfNat s.dose.link.code, wordOfNat (flagNat s.dose.served.isSome),
    wordOfNat (s.dose.served.getD 0).toNat, wordOfNat s.recipes.boundary.toNat, wordOfNat s.cal.state.code,
    wordOfNat s.cal.store.code, wordOfInt s.weigh.z, wordOfNat s.track.entries.length,
    wordOfNat (stageCount .transit s), wordOfNat (stageCount .read s), wordOfNat (stageCount .onPlatform s),
    wordOfNat (stageCount .weighed s), wordOfNat (stageCount .pastReject s), wordOfNat s.track.reads.length,
    wordOfNat s.track.nextSerial, wordOfNat (activeLotIndex s) ]

/-- The words of the calibration block, from 0x0280 (Calibration block). -/
def calWords (s : State) : List Word :=
  [ wordOfNat s.cal.state.code, wordOfNat s.cal.store.code, wordOfInt s.cal.zc, wordOfNat s.cal.f,
    wordOfNat s.cal.zeroLimit, wordOfNat s.cal.changeCount, wordOfNat s.cal.lastWrite.code ]

/-- The words of the area of a recipe slot, 0 while the slot is absent (R152). -/
def recipeAreaWords : Option Recipe → List Word
  | none => []
  | some r => recipeWords r

/-- The words of the area of an open lot, 0 while none is open (R160). -/
def lotAreaWords : Option Lot → List Word
  | none => []
  | some l => openLotWords l

/-- The word at an address of an area that shows the words of a list from `base` on and 0 behind them; `rest` elsewhere. -/
def areaWord (base size : Nat) (ws : List Word) (a : Nat) (rest : Word) : Word :=
  if base ≤ a ∧ a < base + size then ws.getD (a - base) 0 else rest

/-- The word of the exchange memory at an address as the host sees it: the areas that only show another block's values are read
from that block, so they always show the value last set (R200); the rest is the memory. -/
def memoryView (s : State) (a : Nat) : Word :=
  areaWord 0x0000 0x40 (statusWords s) a <|
  areaWord 0x0180 0x80 (recipeAreaWords s.recipes.active) a <|
  areaWord 0x0200 0x80 (recipeAreaWords s.recipes.retiring) a <|
  areaWord 0x0280 0x40 (calWords s) a <|
  areaWord 0x0400 0x20 (lotAreaWords s.recipes.activeLot) a <|
  areaWord 0x0420 0x20 (lotAreaWords s.recipes.retiringLot) a <|
  areaWord 0x0440 0x10 [wordOfNat s.exch.evWrite.val, s.exch.dropCount] a <|
  areaWord 0x0A40 0x10 [wordOfNat s.exch.logIndex.val, s.exch.wrapCount] a <|
  s.exch.read a

/-- A host read of a word address (R192, R194, R195); 0 while a source holds the reset, and IDENT alone in CLEARING (R169). -/
def hostRead (s : State) (addr : Word) : Word :=
  if s.pins.resetHeld then 0
  else if addr = identAddr then identValue
  else if !s.awake then 0
  else if addr = noticeAddr then s.exch.notice.setWidth 32
  else if addr = noticeMaskAddr then s.exch.mask.setWidth 32
  else if addr.toNat < 0x4000 then memoryView s addr.toNat
  else 0

/-! ## Line ownership (R180, R192, The memory map) -/

/-- An address lies in a range of addresses. -/
def inArea (lo hi a : Nat) : Bool := decide (lo ≤ a) && decide (a ≤ hi)

/-- The lines of the memory map that belong to the part, other than the slot lines. -/
def partArea (a : Nat) : Bool :=
  inArea 0x0000 0x003F a || inArea 0x0180 0x02BF a || inArea 0x0300 0x044F a || inArea 0x0480 0x057F a
    || inArea 0x0600 0x0A0F a || inArea 0x0A40 0x0A4F a || inArea 0x1000 0x2FFF a

/-- The line of an address belongs to a taken slot (R180). -/
def takenSlotLine (s : State) (a : Nat) : Bool := s.orders.taken.any (fun t => inArea (slotBase t.1) (slotBase t.1 + 15) a)

/-- The part owns the line of an address. -/
def lineOwnedByPart (s : State) (a : Nat) : Bool := partArea a || takenSlotLine s a

/-! ## Host writes (R192, R193, R195) -/

/-- A host write to a part-owned line: HOST_WRITE_REFUSED when the holdoff is IDLE, else counted (R193). -/
def refuseWrite (a : Nat) (value : Word) (s : State) : State :=
  match s.exch.holdoff with
  | some _ => { s with exch := { s.exch with suppressed := s.exch.suppressed + 1 } }
  | none =>
    { s with exch :=
      { s.exch.event .hostWriteRefused a s.exch.suppressed value with suppressed := 0, holdoff := some 10 } }

/-- A host write at an address of the exchange memory (R192, R193). -/
def writeMemory (a : Nat) (value : Word) (s : State) : State :=
  if lineOwnedByPart s a then refuseWrite a value s else { s with exch := s.exch.write a [value] }

/-- The low five bits of a word, the five notice classes (R195). -/
def classBits (value : Word) : BitVec 5 := value.setWidth 5

/-- A host write to NOTICE: a 1 in a class bit clears the class, and ATTN follows (R195). -/
def clearNotices (value : Word) (s : State) : State :=
  { s with exch := s.exch.setNotices (s.exch.notice &&& ~~~(classBits value)) s.exch.mask }

/-- A host write to NOTICE_MASK, and ATTN follows (R195). -/
def replaceMask (value : Word) (s : State) : State :=
  { s with exch := s.exch.setNotices s.exch.notice (classBits value) }

/-! ## RESTART (R176) -/

/-- The event queue restarted: the write index, the read index word and the overflow flag 0 (R197). -/
def restartQueue (s : State) : State :=
  { s with exch := { (s.exch.write readIndexAddr [0]).write overflowAddr [0] with evWrite := 0 } }

/-- The Weigh Channel at RESTART (Weigh Channel state after reset; R9, R18). -/
def weighAtRestart (s : State) : State :=
  { s with weigh := { s.weigh with
    platform := [], jam := .stopped, z := s.cal.zc, acc := { sum := 0, n := 0, overload := false, quietStart := 0 }
    tracking := false, refusals := 0 } }

/-- The orders that RESTART ends, other than the CHANGEOVER (R20, R27, R33, R191). -/
def calOrdersAtRestart (s : State) : State := abortStoreOrder (endCalAveraging .aborted 0 (endZeroSet .aborted 0 s))

/-- The Recipe and Lot Unit at RESTART (R167). -/
def recipesAtRestart (s : State) : State :=
  let s1 := finishHeldChangeover .aborted 0 s
  let s2 := { s1 with recipes := { s1.recipes with next := none } }
  let s3 :=
    if s2.recipes.retiring.isSome then
      let c := closeRetiringLot .reset s2
      { c with recipes := { c.recipes with retiring := none } }
    else s2
  if s3.recipes.active.isSome then reopenActiveLot .reset s3 else s3

/-- The transmit side of the Filler Port at RESTART (R89). -/
def fillerAtRestart (s : State) : State :=
  { s with filler := { s.filler with tx := cutFrame s.filler.tx, waiting := none } }

/-- The state a RESTART ends in (R176). -/
def restartTarget (s : State) : PartState := if ready s then lineState s else .config

/-- The blocks' effects of a RESTART, ahead of the readiness test. -/
def restartBlocks (s : State) : State :=
  fillerAtRestart <| valvesAtRestart <| doseAtRestart <| recipesAtRestart <| setReads [] <| flushEntries <|
    weighAtRestart <| calOrdersAtRestart <| restartQueue <| { s with part := { s.part with cause := none, stopReq := false } }

/-- RESTART as one action (R176, R177). -/
def restartPart (s : State) : State :=
  let s1 := restartBlocks s
  silentCheck (changePart (restartTarget s1) .restart s1)

/-- The part states that take a RESTART (R176, R194). -/
def State.takesRestart (s : State) : Bool := decide (s.part.state = .config) || s.takesCans

/-- A host write to CONTROL (R194). -/
def writeControl (value : Word) (s : State) : State :=
  if value.getLsbD 0 && s.takesRestart then restartPart s else s

/-- A host write at any word address (R192 to R195). In CLEARING every write is dropped (R169). -/
def hostWrite (addr value : Word) (s : State) : State :=
  if !s.awake then s
  else if addr.toNat < 0x4000 then writeMemory addr.toNat value s
  else if addr = controlAddr then writeControl value s
  else if addr = noticeAddr then clearNotices value s
  else if addr = noticeMaskAddr then replaceMask value s
  else s

end Sys2Proof.Machine
end

