-- ==== Sys2Proof/Machine/HostCommands.lean ====
section
/-! DEFINITION. The commands of the host and of the Exchange Memory Unit: RESTART, register and memory writes, the holdoff, the
wrap of the time tag (R176, R192 to R195, R199). -/

namespace Sys2Proof.Machine

/-- RESTART: a host write to CONTROL with bit 0 set (R176, R194). -/
def execRestart (value : Word) (s : State) : Host.Outcome State Fault Refusal := .next (hostWrite controlAddr value s)

/-- NOTICE_CLEAR: a host write to NOTICE (R195). -/
def execNoticeClear (value : Word) (s : State) : Host.Outcome State Fault Refusal := .next (hostWrite noticeAddr value s)

/-- NOTICE_MASK_WRITE: a host write to NOTICE_MASK (R195). -/
def execNoticeMaskWrite (value : Word) (s : State) : Host.Outcome State Fault Refusal :=
  .next (hostWrite noticeMaskAddr value s)

/-- REGISTER_WRITE_IGNORED: a host write to IDENT, or to CONTROL with bit 0 clear (R194). -/
def execRegisterWriteIgnored (addr value : Word) (s : State) : Host.Outcome State Fault Refusal :=
  .next (hostWrite addr value s)

/-- HOST_MEMORY_WRITE: a host word write (R192, R193). -/
def execHostMemoryWrite (addr value : Word) (s : State) : Host.Outcome State Fault Refusal := .next (hostWrite addr value s)

/-- REFUSAL_HOLDOFF_EXPIRY: the holdoff at its end becomes IDLE; the suppressed count waits (R193). -/
def execRefusalHoldoffExpiry (s : State) : Host.Outcome State Fault Refusal :=
  .next (if s.exch.holdoff = some 0 then { s with exch := { s.exch with holdoff := none } } else s)

/-- TIME_WRAP: the time tag passes from its last value to 0, and the event is raised with time tag 0 (R199). -/
def execTimeWrap (s : State) : Host.Outcome State Fault Refusal :=
  .next (if s.exch.timeTag = 0xFFFFFFFF#32 then
      raiseEvent .timeWrap 0 0 0 { s with exch := { s.exch with timeTag := 0 } }
    else s)

end Sys2Proof.Machine
end

