-- ==== Sys2Proof/Machine/LinkUnit.lean ====
section
/-! DEFINITION. The two serial links: the assembler of the reader link with the message it hands on (R63 to R71) and the
assembler of the filler link with the frame it judges (R75 to R82). -/

namespace Sys2Proof.Machine

/-! ## The reader link -/

/-- The Reader Port's assembler set. -/
def setReaderAsm (a : ReaderAsm) (s : State) : State := { s with reader := { s.reader with asm := a } }

/-- The reader link takes a character: the part has left CLEARING and the line is not held low (R63). -/
def readerListens (s : State) : Bool := s.awake && decide (s.reader.receiver ≠ .heldLow)

/-- The event of a garbled message, with the step that failed and the number of characters (R70). -/
def garbled (step count : Nat) (s : State) : State :=
  raiseLineEvent .codeGarbled 1 (wordOfNat step) (wordOfNat count) s

/-- A message of 1 to 40 characters ended by its CR (R68 to R71). -/
def takeMessage (m : List Byte) (s : State) : State :=
  if m = [charHash] then takeReadResult .noRead s
  else
    match parseCode m with
    | .ok code => takeReadResult code s
    | .error step => takeReadResult .noRead (garbled step m.length s)

/-- A CR taken by the assembler (R65, R66, R67). -/
def readerEnd (s : State) : State :=
  match s.reader.asm with
  | .idle => s
  | .collecting buffer => takeMessage buffer (setReaderAsm .idle s)
  | .skipping .overlong _ => takeReadResult .noRead (raiseLineEvent .codeGarbled 2 0 41 (setReaderAsm .idle s))
  | .skipping .charError _ => takeReadResult .noRead (setReaderAsm .idle s)

/-- A good character other than CR and LF taken by the assembler (R64, R66). -/
def readerPut (c : Byte) (s : State) : State :=
  match s.reader.asm with
  | .idle => setReaderAsm (.collecting [c]) s
  | .collecting buffer =>
    if buffer.length < 40 then setReaderAsm (.collecting (buffer ++ [c])) s
    else setReaderAsm (.skipping .overlong false) s
  | .skipping _ _ => s

/-- A good character on the reader link (R64, R65). -/
def readerTake (c : Byte) (s : State) : State :=
  if readerListens s then
    if c = charCR then readerEnd s else if c = charLF then s else readerPut c s
  else s

/-- A framing error taken by the assembler (R67). -/
def readerDamage (s : State) : State :=
  match s.reader.asm with
  | .idle => raiseLineEvent .readerCharError 0 0 0 (setReaderAsm (.skipping .charError true) s)
  | .collecting buffer =>
    raiseLineEvent .readerCharError 1 (wordOfNat buffer.length) 0 (setReaderAsm (.skipping .charError true) s)
  | .skipping d false => raiseLineEvent .readerCharError 2 0 0 (setReaderAsm (.skipping d true) s)
  | .skipping _ true => s

/-- A character with a framing error on the reader link; after a break the receiver is held low (R63, R67). -/
def readerFramingFault (brk : Bool) (s : State) : State :=
  if readerListens s then
    readerDamage { s with reader := { s.reader with receiver := if brk then .heldLow else .waiting } }
  else s

/-! ## The filler link -/

/-- The codes of the assembler states (R76). -/
def FillerAsm.code : FillerAsm → Nat
  | .hunt => 0
  | .kind => 1
  | .length => 2
  | .payload => 3
  | .check => 4

/-- The gap timer's load: 1 ms (R78, R80). -/
def gapLoad : Option Nat := some 10

/-- The frame discarded or finished: the buffer emptied, the gap timer stopped, the assembler in HUNT (R76, R81). -/
def FillerPort.dropped (p : FillerPort) : FillerPort :=
  { p with asm := .hunt, kind := 0, len := 0, payload := [], sum := 0, gap := none }

/-- The bytes of the frame received, the lead byte among them, 0 in HUNT (R76, R80). -/
def FillerPort.received (p : FillerPort) : Nat :=
  match p.asm with
  | .hunt => 0
  | .kind => 1
  | .length => 2
  | .payload | .check => 3 + p.payload.length

/-- The filler link takes a character: the part has left CLEARING and the line is not held low (R75). -/
def fillerListens (s : State) : Bool := s.awake && decide (s.filler.receiver ≠ .heldLow)

/-- The generation of two payload bytes, most significant first (R77). -/
def genOf (hi lo : Byte) : Gen := BitVec.ofNat 16 (256 * hi.toNat + lo.toNat)

/-- A frame completed by its check byte, with its running sum over the check byte. -/
structure Frame where
  kind : Byte
  len : Byte
  payload : List Byte
  sum : Byte
deriving DecidableEq, Repr

/-- A payload byte of a frame. -/
def Frame.byteAt (f : Frame) (k : Nat) : Byte := f.payload.getD k 0

/-- What the judgement of R81 finds: a good DISCHARGE, a good DOSE_ACK, or the arg0 of the first test that fails. -/
inductive Verdict where
  | discharge (valve : Byte) (g : Gen)
  | ack (g : Gen) (res : AckResult)
  | bad (test : Nat)
deriving DecidableEq, Repr

/-- The judgement of a completed frame (R81, R77). -/
def judge (f : Frame) : Verdict :=
  if f.sum ≠ 0 then .bad 1
  else if f.kind ≠ kindDischarge ∧ f.kind ≠ kindDoseAck then .bad 2
  else if f.len ≠ 3 then .bad 3
  else if f.kind = kindDischarge then .discharge (f.byteAt 0) (genOf (f.byteAt 1) (f.byteAt 2))
  else
    match ackResultOf (f.byteAt 2) with
    | none => .bad 5
    | some res => .ack (genOf (f.byteAt 0) (f.byteAt 1)) res

/-- What becomes of a judged frame (R81 to R83, R85). -/
def settleFrame (f : Frame) (s : State) : State :=
  match judge f with
  | .bad test => raiseLineEvent .fillerFrameBad test (wordOfNat f.kind.toNat) (wordOfNat f.len.toNat) s
  | .discharge valve g => if s.takesCans then takeDischarge valve g s else s
  | .ack g res => if s.takesCans then takeAck g res s else s

/-- The frame that a check byte completes. -/
def FillerPort.completed (p : FillerPort) (check : Byte) : Frame :=
  { kind := p.kind, len := p.len, payload := p.payload, sum := p.sum + check }

/-- A payload byte taken with room in the buffer (R79). -/
def FillerPort.takePayload (p : FillerPort) (b : Byte) : FillerPort :=
  { p with
    payload := p.payload ++ [b], sum := p.sum + b, gap := gapLoad
    asm := if p.payload.length + 1 = p.len.toNat then .check else .payload }

/-- A good character on the filler link (R78, R79, R81). -/
def fillerTake (b : Byte) (s : State) : State :=
  let p := s.filler
  if fillerListens s then
    match p.asm with
    | .hunt => if b = leadByte then { s with filler := { p.dropped with asm := .kind, gap := gapLoad } } else s
    | .kind => { s with filler := { p with kind := b, sum := p.sum + b, gap := gapLoad, asm := .length } }
    | .length =>
      { s with filler :=
        { p with len := b, sum := p.sum + b, gap := gapLoad, asm := if b = 0 then .check else .payload } }
    | .payload =>
      if p.payload.length < 72 then { s with filler := p.takePayload b }
      else raiseLineEvent .fillerCharError 3 3 75 { s with filler := p.dropped }
    | .check => settleFrame (p.completed b) { s with filler := p.dropped }
  else s

/-- The data bits and the parity bit of a character hold an odd number of ones (R75). -/
def oddOnes (c : LineChar) : Bool :=
  ((List.range 8).filter (fun k => c.data.getLsbD k)).length % 2 = (if c.parity then 0 else 1)

/-- The judgement of a sampled character (R75): the stop bit first, then the parity; none for a good character. -/
def judgeCharacter (c : LineChar) : Option CharFault :=
  if !c.stopIdle then some (if c.held then .lineBreak else .framing)
  else if oddOnes c then some .parity
  else none

/-- The arg0 of FILLER_CHAR_ERROR for an errored character (R76). -/
def charFaultCode : CharFault → Nat
  | .parity => 1
  | .framing | .lineBreak => 2

/-- A character with an error on the filler link; after a break the receiver is held low (R75, R76). -/
def fillerFault (fault : CharFault) (s : State) : State :=
  let p := s.filler
  if fillerListens s then
    raiseLineEvent .fillerCharError (charFaultCode fault) (wordOfNat p.asm.code) (wordOfNat p.received)
      { s with filler := { p.dropped with receiver := if fault = .lineBreak then .heldLow else .waiting } }
  else s

/-- A sampled character of the filler link: its fault, or its data bits taken as a good character (R75, log 9). -/
def fillerReceive (c : LineChar) (s : State) : State :=
  match judgeCharacter c with
  | some fault => fillerFault fault s
  | none => fillerTake c.data s

/-- The kind byte of the frame under way, 0 when it has not yet arrived (R80). -/
def FillerPort.kindArrived (p : FillerPort) : Byte :=
  match p.asm with
  | .hunt | .kind => 0
  | _ => p.kind

/-- The gap timer's expiry (R80). -/
def gapExpired (s : State) : State :=
  raiseLineEvent .fillerFrameBad 4 (wordOfNat s.filler.kindArrived.toNat) (wordOfNat s.filler.received)
    { s with filler := s.filler.dropped }

end Sys2Proof.Machine
end

