-- ==== Sys2Proof/Machine/LinkCommands.lean ====
section
/-! DEFINITION. The commands of the two serial links: characters, errored characters, the end of a break, the gap timer, the end
of a transmitted frame (R63 to R71, R75 to R82, R87). A row of a good character of a link is that character taken by the
assembler; which row it is follows from the assembler's state and the character (log 9). -/

namespace Sys2Proof.Machine

/-- READER_MESSAGE: a good CR (R65, R71). -/
def execReaderMessage (s : State) : Host.Outcome State Fault Refusal := .next (readerTake charCR s)

/-- READER_FRAMING_ERROR: a character with a framing error, or a break (R67, R63). -/
def execReaderFramingError (brk : Bool) (s : State) : Host.Outcome State Fault Refusal := .next (readerFramingFault brk s)

/-- READER_OVERLONG: the character that finds 40 in the buffer (R66). -/
def execReaderOverlong (c : Byte) (s : State) : Host.Outcome State Fault Refusal := .next (readerTake c s)

/-- READER_CHARACTER: a good character other than CR (R64). -/
def execReaderCharacter (c : Byte) (s : State) : Host.Outcome State Fault Refusal := .next (readerTake c s)

/-- DISCHARGE_FRAME: the check byte of a good DISCHARGE (R81 to R84). -/
def execDischargeFrame (check : Byte) (s : State) : Host.Outcome State Fault Refusal := .next (fillerTake check s)

/-- DOSE_ACK_FRAME: the check byte of a good DOSE_ACK (R81, R82, R85). -/
def execDoseAckFrame (check : Byte) (s : State) : Host.Outcome State Fault Refusal := .next (fillerTake check s)

/-- BAD_FRAME_COMPLETED: the check byte of a frame that fails a test (R81). -/
def execBadFrameCompleted (check : Byte) (s : State) : Host.Outcome State Fault Refusal := .next (fillerTake check s)

/-- FILLER_BUFFER_OVERRUN: the payload byte that finds 72 in the buffer (R79). -/
def execFillerBufferOverrun (b : Byte) (s : State) : Host.Outcome State Fault Refusal := .next (fillerTake b s)

/-- FILLER_CHARACTER: a good character in HUNT, KIND, LENGTH or PAYLOAD (R78, R79). -/
def execFillerCharacter (b : Byte) (s : State) : Host.Outcome State Fault Refusal := .next (fillerTake b s)

/-- FILLER_ERRORED_CHARACTER: a character with a parity or framing error, or a break (R75, R76). -/
def execFillerErroredCharacter (c : LineChar) (s : State) : Host.Outcome State Fault Refusal := .next (fillerReceive c s)

/-- GAP_TIMER_EXPIRY: the gap timer at its end discards the frame (R80). -/
def execGapTimerExpiry (s : State) : Host.Outcome State Fault Refusal :=
  .next (if s.filler.gap = some 0 then gapExpired s else s)

/-- The transmitter at the end of its frame: the waiting frame starts, or it becomes IDLE (R87). -/
def frameEnded (s : State) : State :=
  { s with filler := { s.filler with
    waiting := none
    tx := match s.filler.waiting with
      | none => .idle
      | some f => .sending f 0 } }

/-- TRANSMIT_FRAME_END: the last byte of the transmit frame has been sent (R87). -/
def execTransmitFrameEnd (s : State) : Host.Outcome State Fault Refusal :=
  .next (match s.filler.tx with
    | .idle => s
    | .sending frame spent => if charSpan * frame.length ≤ spent then frameEnded s else s)

/-- BREAK_END: a receiver held low goes back to WAITING (R63, R75). -/
def execBreakEnd (link : Link) (s : State) : Host.Outcome State Fault Refusal :=
  .next (match link with
    | .filler =>
      if s.filler.receiver = .heldLow then { s with filler := { s.filler with receiver := .waiting } } else s
    | .reader =>
      if s.reader.receiver = .heldLow then { s with reader := { s.reader with receiver := .waiting } } else s)

end Sys2Proof.Machine
end

