-- ==== Sys2Proof/Machine/LotCommands.lean ====
section
/-! DEFINITION. The command of the lot timer (R164, R165). -/

namespace Sys2Proof.Machine

/-- The fine count runs: the part is in RUN and lot_minutes of ACTIVE is not 0 (R164). -/
def fineRuns (s : State) : Bool :=
  decide (s.part.state = .run) &&
    match s.recipes.active with
    | none => false
    | some r => decide (r.lotMinutes ≠ 0)

/-- The lot minutes word (R165). -/
def lotMinutesWord (s : State) : Word := s.exch.read lotMinutesAddr

/-- The minute step: the word counted down, or the lot closed with cause TIMER (R165). -/
def minuteStep (s : State) : State :=
  if lotMinutesWord s = 0 then reopenActiveLot .timer s
  else { s with exch := s.exch.write lotMinutesAddr [lotMinutesWord s - 1] }

/-- LOT_MINUTE_STEP: the fine count at its end is set to 600 and the minute step is made (R164, R165). Where the part has left RUN
before the step is taken, the count holds at 0 and the step waits for the first unit back in RUN: the model's choice (log 37). -/
def execLotMinuteStep (s : State) : Host.Outcome State Fault Refusal :=
  .next (if fineRuns s && decide (s.recipes.fine = 0) then
      minuteStep { s with recipes := { s.recipes with fine := 600 } }
    else s)

end Sys2Proof.Machine
end

