-- ==== Sys2Proof/Machine/OrderCommands.lean ====
section
/-! DEFINITION. The command of the Order Unit: the scan (R181). -/

namespace Sys2Proof.Machine

/-- The level of CAL_SWITCH at a scan: high when it has been turned on since the last one (log 7). -/
def noteSwitch (switchOn : Bool) (s : State) : State :=
  { s with pins := { s.pins with calSwitch := s.pins.calSwitch || switchOn } }

/-- The scan timer at its end loaded with 5 ms again, and the scan made (R181). -/
def scanNow (s : State) : State := scanSlots { s with orders := { s.orders with scan := some 50 } }

/-- ORDER_SCAN (R181). -/
def execOrderScan (switchOn : Bool) (s : State) : Host.Outcome State Fault Refusal :=
  let s1 := noteSwitch switchOn s
  .next (if s.scans && decide (s.orders.scan = some 0) then scanNow s1 else s1)

end Sys2Proof.Machine
end

