-- ==== Sys2Proof/Machine/PartCommands.lean ====
section
/-! DEFINITION. The commands of Part Control: full reset, the end of CLEARING, LINE_RUN (R169, R172). -/

namespace Sys2Proof.Machine

/-- FULL_RESET: every block at its full reset value, where it stands while the source holds the reset (R169). The levels of the
other pins and the commands that wait come from outside and stay (log 8). -/
def execFullReset (s : State) : Host.Outcome State Fault Refusal :=
  .next { State.reset with pins := { s.pins with resetHeld := true }, pending := s.pending }

/-- CLEARING_COMPLETE: every word is 0, and the part enters LOADING (R169, R178). In another state no clearing is under way. The last
word is written after the release, so a reset that was still held has been released (log 28). -/
def execClearingComplete (s : State) : Host.Outcome State Fault Refusal :=
  .next (if s.part.state = .clearing then
      changePart .loading .cleared (releaseReset { s with exch := { s.exch with mem := [] } })
    else s)

/-- The level of LINE_RUN set. -/
def setLineRun (level : Bool) (s : State) : State := { s with pins := { s.pins with lineRun := level } }

/-- LINE_RUN_RISE: the level; in STOPPED the averagings end and the part enters RUN (R172, R20, R27). -/
def execLineRunRise (s : State) : Host.Outcome State Fault Refusal :=
  let s1 := setLineRun true s
  .next (if s.part.state = .stopped then
      changePart .run .lineRise (endCalAveraging .wrongState 0 (endZeroSet .wrongState 0 s1))
    else s1)

/-- The INTERRUPTED mark on every open weighing (R7). -/
def interruptWeighings (s : State) : State :=
  { s with weigh := { s.weigh with platform := s.weigh.platform.map (fun w => { w with interrupted := true }) } }

/-- LINE_RUN_FALL: the level and the INTERRUPTED marks; in RUN the part enters STOPPED (R172, R7). -/
def execLineRunFall (s : State) : Host.Outcome State Fault Refusal :=
  let s1 := interruptWeighings (setLineRun false s)
  .next (if s.part.state = .run then changePart .stopped .lineFall s1 else s1)

end Sys2Proof.Machine
end

