-- ==== Sys2Proof/Machine/RejectCommands.lean ====
section
/-! DEFINITION. The commands of the Disposition Unit and its Reject Driver: the reject eye, the pulse timer, the confirm eye
(R96 to R104). -/

namespace Sys2Proof.Machine

/-- A REJECT_EYE arrival that finds a WEIGHED entry: its decision, then the fire and the move (R97 to R99). -/
def takeAtEye (e : Entry) (s : State) : State :=
  let s1 := settleAtEye e s
  match entryOf e.serial s1 with
  | none => s1
  | some e1 => passEye e1 s1

/-- A REJECT_EYE arrival that finds no WEIGHED entry (R100). -/
def kickUnknown (s : State) : State := fire (activeRecipe s).rejectPulse (raiseEvent .untrackedCan 4 0 0 s)

/-- REJECT_EYE_ARRIVAL (R96 to R100). -/
def execRejectEyeArrival (s : State) : Host.Outcome State Fault Refusal :=
  .next (if s.takesCans then
      match oldestOf .weighed s with
      | none => kickUnknown s
      | some e => takeAtEye e s
    else s)

/-- PULSE_TIMER_EXPIRY: the pulse timer at its end makes the driver IDLE and REJECT_DRIVE inactive (R101). -/
def execPulseTimerExpiry (s : State) : Host.Outcome State Fault Refusal :=
  .next (if s.reject.actuator = .firing 0 then { s with reject := { actuator := .idle, drive := false } } else s)

/-- A rejected entry seen at the confirm eye: its removal, the event, the cause (R103, R104, log 16). -/
def rejectFailed (e : Entry) (s : State) : State :=
  handCause .rejectFailed (raiseEvent .rejectFailed (e.valve.getD 0) (wordOfNat e.serial) (e.outTag.getD 0)
    (removeWithDrain e .rejectFailed s))

/-- CONFIRM_EYE_ARRIVAL: the oldest live PAST_REJECT entry (R103). -/
def execConfirmEyeArrival (s : State) : Host.Outcome State Fault Refusal :=
  .next (if s.takesCans then
      match oldestOf .pastReject s with
      | none => raiseEvent .eyeSequence 3 s.exch.timeTag 0 s
      | some e => if e.decision = some .reject then rejectFailed e s else removeWithDrain e .passed s
    else s)

end Sys2Proof.Machine
end

