-- ==== Sys2Proof/Machine/TrackCommands.lean ====
section
/-! DEFINITION. The commands of the Tracking Unit: the reader eye and the deadlines (R43, R45, R57, R58, R105). -/

namespace Sys2Proof.Machine

/-- The pending read of a READER_EYE arrival (R43). -/
def newRead (s : State) : PendingRead :=
  { eyeTag := s.exch.timeTag, left := (activeRecipe s).readTimeout * 10, bound := none }

/-- READER_EYE_ARRIVAL: room for the pending read, then the pending read (R43). -/
def execReaderEyeArrival (s : State) : Host.Outcome State Fault Refusal :=
  .next (if s.takesCans then
      let s1 := makeReadRoom s
      setReads (s1.track.reads ++ [newRead s]) s1
    else s)

/-- The pending read has reached its deadline (R57). -/
def PendingRead.expired (p : PendingRead) : Bool := decide (p.left = 0)

/-- READ_DEADLINE_EXPIRY: the oldest pending read whose deadline has reached 0 is resolved as NO_READ (R45). A clock that holds,
with LINE_RUN low, does not expire (R57). -/
def execReadDeadlineExpiry (s : State) : Host.Outcome State Fault Refusal :=
  .next (if s.pins.lineRun then
      match s.track.reads.find? PendingRead.expired with
      | none => s
      | some p => (resolveRead p .noRead (setReads (s.track.reads.eraseP PendingRead.expired) s)).1
    else s)

/-- The entry is a PAST_REJECT entry whose deadline has reached 0 (R57). -/
def Entry.expired (e : Entry) : Bool := decide (e.stage = .pastReject) && decide (e.deadline = some 0)

/-- A PAST_REJECT entry settled at its deadline (R105). -/
def settleDeadline (e : Entry) (s : State) : State :=
  if e.decision = some .reject then removeWithDrain e .rejected s
  else removeWithDrain e .missing
    (raiseEvent .canMissing (e.valve.getD 0) (wordOfNat e.serial) (e.outTag.getD 0) s)

/-- PAST_REJECT_DEADLINE_EXPIRY: the oldest PAST_REJECT entry whose deadline has reached 0 is settled (R58, R105). A clock that
holds, with LINE_RUN low, does not expire (R57). -/
def execPastRejectDeadlineExpiry (s : State) : Host.Outcome State Fault Refusal :=
  .next (if s.pins.lineRun then
      match s.track.entries.find? Entry.expired with
      | none => s
      | some e => settleDeadline e s
    else s)

end Sys2Proof.Machine
end

