-- ==== Sys2Proof/Machine/WeighCommands.lean ====
section
/-! DEFINITION. The commands of the Weigh Channel: samples, the converter watch, the platform eyes, the jam timer (R1 to R8). -/

namespace Sys2Proof.Machine

/-- A sample record taken: the sample list, the converter LIVE, the watch loaded with 5 ms (R1, R2). -/
def takeSample (x : Sample) (s : State) : State :=
  { s with weigh := { s.weigh with samples := appendSample x s.weigh.samples, converter := .live, watch := some 50 } }

/-- SAMPLE_ARRIVAL: the record, then zero tracking, the zero-set averaging or the calibration averaging (R1). Samples are not
taken in CLEARING (R169). -/
def execSampleArrival (count : BitVec 24) (s : State) : Host.Outcome State Fault Refusal :=
  let x := sampleOf count s.exch.timeTag
  .next (if s.awake then calSample x (zeroSetSample x (zeroTrackSample x (takeSample x s))) else s)

/-- The time tag of the last sample received, 0 when none has arrived (R2). -/
def lastSampleTag (s : State) : Word :=
  match s.weigh.samples.getLast? with
  | none => 0
  | some x => x.tag

/-- CONVERTER_WATCH_EXPIRY: the converter becomes SILENT, the event, and the cause (R2, R173). -/
def execConverterWatchExpiry (s : State) : Host.Outcome State Fault Refusal :=
  .next (if s.awake && decide (s.weigh.watch = some 0) then
      handCause .converterFault (raiseEvent .converterFault 0 (lastSampleTag s) 0
        { s with weigh := { s.weigh with converter := .silent, watch := none } })
    else s)

/-- An accepted PLATFORM_IN at the platform list: the weighing, the jam timer, zero tracking (R5, R8). -/
def openPlatform (s : State) : State :=
  refreshZero { s with weigh := { s.weigh with
    platform := openWeighing s.exch.timeTag s.weigh.platform
    jam := if s.weigh.platform.isEmpty && decide (s.part.state = .run) then loadedJam s else s.weigh.jam } }

/-- PLATFORM_IN_ARRIVAL: refused with four weighings open, else accepted, with its effects on the averagings and the track; in
CONFIG only the disturbance of a calibration averaging (R4, R5, R20, R27, R50 to R52). That a refused arrival leaves a CAL_SPAN
averaging in flight alone is DESIGN CHOICE (log 30). -/
def execPlatformInArrival (s : State) : Host.Outcome State Fault Refusal :=
  .next (if s.takesCans then
      if 4 ≤ s.weigh.platform.length then raiseEvent .eyeSequence 2 s.exch.timeTag 0 s
      else trackPlatformIn (endCalAveraging .disturbed 0 (endZeroSet .disturbed 0 (openPlatform s)))
    else if s.part.state = .config then endCalAveraging .disturbed 0 s
    else s)

/-- The platform list after the oldest weighing is taken from it; when it empties, the jam timer stops and the quiet start is
set (R6, R8). -/
def closeOldest (rest : List Weighing) (s : State) : State :=
  match rest with
  | [] => emptyPlatform s
  | _ => { s with weigh := { s.weigh with platform := rest } }

/-- The weighing result of a weighing that closes now (R6, R10 to R12). -/
def resultNow (w : Weighing) (s : State) : WeighResult :=
  weighResult (activeRecipe s) s.weigh.z s.cal.f w (windowOf (activeRecipe s) w.inTag s.exch.timeTag s.weigh.samples)

/-- PLATFORM_OUT_ARRIVAL: refused with an empty platform list, else the oldest weighing closes and its result goes to the track
(R6, R54). -/
def execPlatformOutArrival (s : State) : Host.Outcome State Fault Refusal :=
  .next (if s.takesCans then
      match s.weigh.platform with
      | [] => raiseEvent .eyeSequence 1 s.exch.timeTag 0 s
      | w :: rest => trackPlatformOut (resultNow w s) (closeOldest rest s)
    else s)

/-- PLATFORM_JAM and its cause, for the oldest open weighing (R8). -/
def jam (loaded : Nat) (w : Weighing) (s : State) : State :=
  handCause .platformJam (raiseEvent .platformJam s.weigh.platform.length w.inTag (wordOfNat loaded)
    { s with weigh := { s.weigh with jam := .expired } })

/-- JAM_TIMER_EXPIRY: a running timer at its end becomes EXPIRED, with the event and the cause (R8). -/
def execJamTimerExpiry (s : State) : Host.Outcome State Fault Refusal :=
  .next (match s.weigh.jam, s.weigh.platform with
    | .running 0 loaded, w :: _ => if s.part.state = .run then jam loaded w s else s
    | _, _ => s)

end Sys2Proof.Machine
end

