-- ==== Sys2Proof/Machine/Dispatch.lean ====
section
/-! DEFINITION. One arm for each command of the table, in the table's order. -/

namespace Sys2Proof.Machine

def exec (i : Instr) (s : State) : Host.Outcome State Fault Refusal :=
  match i with
  | .fullReset => Sys2Proof.Machine.execFullReset s
  | .clearingComplete => Sys2Proof.Machine.execClearingComplete s
  | .storeReadEnd bytes => Sys2Proof.Machine.execStoreReadEnd bytes s
  | .restart value => Sys2Proof.Machine.execRestart value s
  | .noticeClear value => Sys2Proof.Machine.execNoticeClear value s
  | .noticeMaskWrite value => Sys2Proof.Machine.execNoticeMaskWrite value s
  | .registerWriteIgnored addr value => Sys2Proof.Machine.execRegisterWriteIgnored addr value s
  | .hostMemoryWrite addr value => Sys2Proof.Machine.execHostMemoryWrite addr value s
  | .refusalHoldoffExpiry => Sys2Proof.Machine.execRefusalHoldoffExpiry s
  | .timeWrap => Sys2Proof.Machine.execTimeWrap s
  | .sampleArrival count => Sys2Proof.Machine.execSampleArrival count s
  | .storeWriteCompared readBack => Sys2Proof.Machine.execStoreWriteCompared readBack s
  | .storeTimerExpiry => Sys2Proof.Machine.execStoreTimerExpiry s
  | .converterWatchExpiry => Sys2Proof.Machine.execConverterWatchExpiry s
  | .platformInArrival => Sys2Proof.Machine.execPlatformInArrival s
  | .platformOutArrival => Sys2Proof.Machine.execPlatformOutArrival s
  | .lineRunRise => Sys2Proof.Machine.execLineRunRise s
  | .lineRunFall => Sys2Proof.Machine.execLineRunFall s
  | .jamTimerExpiry => Sys2Proof.Machine.execJamTimerExpiry s
  | .calSwitchOff => Sys2Proof.Machine.execCalSwitchOff s
  | .readerEyeArrival => Sys2Proof.Machine.execReaderEyeArrival s
  | .readDeadlineExpiry => Sys2Proof.Machine.execReadDeadlineExpiry s
  | .readerMessage => Sys2Proof.Machine.execReaderMessage s
  | .readerFramingError brk => Sys2Proof.Machine.execReaderFramingError brk s
  | .readerOverlong c => Sys2Proof.Machine.execReaderOverlong c s
  | .dischargeFrame check => Sys2Proof.Machine.execDischargeFrame check s
  | .doseAckFrame check => Sys2Proof.Machine.execDoseAckFrame check s
  | .fillerErroredCharacter c => Sys2Proof.Machine.execFillerErroredCharacter c s
  | .fillerBufferOverrun b => Sys2Proof.Machine.execFillerBufferOverrun b s
  | .gapTimerExpiry => Sys2Proof.Machine.execGapTimerExpiry s
  | .transmitFrameEnd => Sys2Proof.Machine.execTransmitFrameEnd s
  | .fillerIndexArrival => Sys2Proof.Machine.execFillerIndexArrival s
  | .ackTimerExpiry => Sys2Proof.Machine.execAckTimerExpiry s
  | .rejectEyeArrival => Sys2Proof.Machine.execRejectEyeArrival s
  | .pulseTimerExpiry => Sys2Proof.Machine.execPulseTimerExpiry s
  | .confirmEyeArrival => Sys2Proof.Machine.execConfirmEyeArrival s
  | .pastRejectDeadlineExpiry => Sys2Proof.Machine.execPastRejectDeadlineExpiry s
  | .lotMinuteStep => Sys2Proof.Machine.execLotMinuteStep s
  | .orderScan switchOn => Sys2Proof.Machine.execOrderScan switchOn s
  | .readerCharacter c => Sys2Proof.Machine.execReaderCharacter c s
  | .fillerCharacter b => Sys2Proof.Machine.execFillerCharacter b s
  | .badFrameCompleted check => Sys2Proof.Machine.execBadFrameCompleted check s
  | .breakEnd link => Sys2Proof.Machine.execBreakEnd link s

end Sys2Proof.Machine
end

