-- ==== Sys2Proof/Machine/Tick.lean ====
section
/-! DEFINITION. The passing of one unit of 100 µs, which `step` lets pass when no command waits: every running timer loses one
unit, and a timer that stands at its end puts its expiry into the queue (logs 1 to 4). -/

namespace Sys2Proof.Machine

/-- The last value of the time tag, at which the tag waits for TIME_WRAP (R199). -/
def lastTag : Word := 0xFFFFFFFF#32

/-- The time tag one unit on, unless it stands at its last value (R199). -/
def tickTag (t : Word) : Word := if t = lastTag then t else t + 1

/-- The converter watch, which runs from the entry to LOADING (R2), and the jam timer (R8). -/
def tickWeigh (s : State) : Weigh :=
  { s.weigh with
    watch := if s.awake then countDown s.weigh.watch else s.weigh.watch
    jam := match s.weigh.jam with
      | .running left loaded => .running (left - 1) loaded
      | j => j }

/-- The store timer (R32). -/
def tickCal (c : Calibration) : Calibration :=
  { c with store := match c.store with
    | .writing left record => .writing (left - 1) record
    | .idle => .idle }

/-- The deadline clocks, which run while LINE_RUN is high (R57). -/
def tickTrack (lineRun : Bool) (t : Track) : Track :=
  if lineRun then
    { t with
      entries := t.entries.map (fun e => { e with deadline := countDown e.deadline })
      reads := t.reads.map (fun p => { p with left := p.left - 1 }) }
  else t

/-- Hundredths of a bit time in 100 µs on the filler link, at 230,400 bit/s (The line; log 34). -/
def lineStep : Nat := 2304

/-- The gap timer (R80) and the line time of the transmitter (R87). -/
def tickFiller (p : FillerPort) : FillerPort :=
  { p with
    gap := countDown p.gap
    tx := match p.tx with
      | .sending frame spent => .sending frame (spent + lineStep)
      | .idle => .idle }

/-- The pulse timer (R101). -/
def tickReject (r : RejectDriver) : RejectDriver :=
  { r with actuator := match r.actuator with
    | .firing left => .firing (left - 1)
    | .idle => .idle }

/-- The fine count: one less at every thousandth unit while it runs (R164, log 4). -/
def tickRecipes (s : State) : Recipes :=
  if fineRuns s then
    if s.recipes.finePhase + 1 < 1000 then { s.recipes with finePhase := s.recipes.finePhase + 1 }
    else { s.recipes with finePhase := 0, fine := s.recipes.fine - 1 }
  else s.recipes

/-- Every timer one unit on. -/
def passUnit (s : State) : State :=
  { s with
    weigh := tickWeigh s
    cal := tickCal s.cal
    track := tickTrack s.pins.lineRun s.track
    filler := tickFiller s.filler
    reject := tickReject s.reject
    dose := { s.dose with ack := countDown s.dose.ack }
    recipes := tickRecipes s
    orders := { s.orders with scan := countDown s.orders.scan }
    exch := { s.exch with holdoff := countDown s.exch.holdoff, timeTag := tickTag s.exch.timeTag } }

/-- A command where a timer stands at its end. -/
def dueIf (c : Bool) (i : Instr) : List Instr := if c then [i] else []

/-- The jam timer stands at its end. -/
def jamDue (s : State) : Bool :=
  match s.weigh.jam with
  | .running 0 _ => true
  | _ => false

/-- The store timer stands at its end. -/
def storeDue (s : State) : Bool :=
  match s.cal.store with
  | .writing 0 _ => true
  | _ => false

/-- The transmit frame has been sent to its last stop bit. -/
def frameDue (s : State) : Bool :=
  match s.filler.tx with
  | .sending frame spent => decide (charSpan * frame.length ≤ spent)
  | .idle => false

/-- The expiries after a unit, the wrap of the time tag first (log 2). `wraps` says that the tag stood at its last value. -/
def expiries (wraps : Bool) (s : State) : List Instr :=
  dueIf wraps .timeWrap
    ++ dueIf (s.awake && decide (s.weigh.watch = some 0)) .converterWatchExpiry
    ++ dueIf (jamDue s) .jamTimerExpiry
    ++ dueIf (storeDue s) .storeTimerExpiry
    ++ (if s.pins.lineRun then (s.track.reads.filter PendingRead.expired).map (fun _ => Instr.readDeadlineExpiry) else [])
    ++ dueIf (decide (s.filler.gap = some 0)) .gapTimerExpiry
    ++ dueIf (frameDue s) .transmitFrameEnd
    ++ dueIf (decide (s.reject.actuator = .firing 0)) .pulseTimerExpiry
    ++ (if s.pins.lineRun then (s.track.entries.filter Entry.expired).map (fun _ => Instr.pastRejectDeadlineExpiry) else [])
    ++ dueIf (decide (s.dose.ack = some 0)) .ackTimerExpiry
    ++ dueIf (fineRuns s && decide (s.recipes.fine = 0)) .lotMinuteStep
    ++ dueIf (decide (s.orders.scan = some 0)) (.orderScan false)
    ++ dueIf (decide (s.exch.holdoff = some 0)) .refusalHoldoffExpiry

/-- One unit of 100 µs passes, and the expiries it brings wait behind what already waits. No block runs while a source holds the
reset, and the source lets go where time first passes (R169, log 28). -/
def tick (s : State) : State :=
  if s.pins.resetHeld then releaseReset s
  else
    let s1 := passUnit s
    { s1 with pending := s.pending ++ expiries (decide (s.exch.timeTag = lastTag)) s1 }

end Sys2Proof.Machine
end

