-- ==== Sys2Proof/Safety.lean ====
section
/-! DEFINITION. What claims about the part speak of: the blocks of the state and what a command leaves unchanged, and the
conditions on a state that every step keeps. No command ends a run, so a safe run is one whose states meet these conditions. -/

namespace Sys2Proof.Machine

/-! ## Frames -/

/-- The blocks of the state, the level inputs and the queue of commands. -/
inductive Block where
  | pins
  | part
  | weigh
  | cal
  | track
  | reader
  | filler
  | reject
  | valves
  | dose
  | recipes
  | orders
  | exch
  | pending
deriving DecidableEq, Repr

/-- A block holds the same in two states. -/
def Block.same (b : Block) (s t : State) : Prop :=
  match b with
  | .pins => t.pins = s.pins
  | .part => t.part = s.part
  | .weigh => t.weigh = s.weigh
  | .cal => t.cal = s.cal
  | .track => t.track = s.track
  | .reader => t.reader = s.reader
  | .filler => t.filler = s.filler
  | .reject => t.reject = s.reject
  | .valves => t.valves = s.valves
  | .dose => t.dose = s.dose
  | .recipes => t.recipes = s.recipes
  | .orders => t.orders = s.orders
  | .exch => t.exch = s.exch
  | .pending => t.pending = s.pending

/-- Only the blocks listed may differ. -/
def ChangesOnly (bs : List Block) (s t : State) : Prop := ∀ b, b ∉ bs → b.same s t

/-- Every word of the memory outside `size` words from `base` reads as before. -/
def KeepsMemoryOutside (base size : Nat) (e f : Exchange) : Prop :=
  ∀ a, ¬(base ≤ a ∧ a < base + size) → f.read a = e.read a

/-- Every word of the memory reads as before. -/
def KeepsMemory (e f : Exchange) : Prop := ∀ a, f.read a = e.read a

/-! ## Part Control (R172 to R175) -/

/-- STOP_REQ and a cause stand exactly in FAULT_STOP; RUN stands only with LINE_RUN high and STOPPED only with it low. -/
def PartLegal (s : State) : Prop :=
  s.part.stopReq = decide (s.part.state = .faultStop) ∧ s.part.cause.isSome = decide (s.part.state = .faultStop) ∧
  (s.part.state = .run → s.pins.lineRun = true) ∧ (s.part.state = .stopped → s.pins.lineRun = false)

/-- While a source holds the reset the part stands as the reset leaves it: every block at its full reset value (R169). -/
def HeldLegal (s : State) : Prop :=
  s.pins.resetHeld = true → s = { State.reset with pins := s.pins, pending := s.pending }

/-! ## Recipes (R149, R152 to R154, R171) -/

/-- The fields of a recipe lie in the ranges of the recipe table (R153). -/
def Recipe.legal (r : Recipe) : Prop :=
  (1 ≤ r.lotText.length ∧ r.lotText.length ≤ 12 ∧ ∀ c ∈ r.lotText, 0x20 ≤ c.toNat ∧ c.toNat ≤ 0x7E) ∧
  (1000 ≤ r.nominal ∧ r.nominal ≤ 1500000) ∧ (r.nominal ≤ r.target ∧ r.target ≤ r.nominal + 100000) ∧
  r.containerTare ≤ 200000 ∧ (1 ≤ r.hardDev ∧ r.hardDev ≤ 500000 ∧ r.hardDev < r.nominal) ∧ r.softDev < r.hardDev ∧
  (1 ≤ r.overDev ∧ r.overDev ≤ 500000) ∧ r.softAllowance ≤ 65535 ∧ r.lotCanLimit ≤ 4000000000 ∧ r.lotMinutes ≤ 10080 ∧
  (8 ≤ r.valveCount ∧ r.valveCount ≤ 128) ∧ (1 ≤ r.smoothing ∧ r.smoothing ≤ 6) ∧
  (1 ≤ r.sampleMin ∧ r.sampleMin ≤ 64) ∧ r.deadband ≤ 10000 ∧ (1 ≤ r.gain ∧ r.gain ≤ 100) ∧
  (1 ≤ r.stepLimit ∧ r.stepLimit ≤ 5000) ∧ r.trimLimit ≤ 20000 ∧ r.settle ≤ 500 ∧ r.guard ≤ 500 ∧
  (2 ≤ r.minSamples ∧ r.minSamples ≤ 64) ∧ (1 ≤ r.stability ∧ r.stability ≤ 1000000) ∧
  (20 ≤ r.maxDwell ∧ r.maxDwell ≤ 2000 ∧ r.settle + r.guard < r.maxDwell * 10) ∧
  (5 ≤ r.readTimeout ∧ r.readTimeout ≤ 500) ∧ r.minGrade ≠ .f ∧ (5 ≤ r.rejectPulse ∧ r.rejectPulse ≤ 50) ∧
  (10 ≤ r.confirmWindow ∧ r.confirmWindow ≤ 1000) ∧ (50 ≤ r.missingWindow ∧ r.missingWindow ≤ 5000) ∧
  (1 ≤ r.zeroBand ∧ r.zeroBand ≤ 20000)

/-- Every recipe the part holds is legal. -/
def RecipesLegal (s : State) : Prop :=
  ∀ r : Recipe, s.recipes.active = some r ∨ s.recipes.retiring = some r ∨ s.recipes.next = some r → r.legal

/-- A part that takes cans has a VALID calibration and an ACTIVE recipe. -/
def Configured (s : State) : Prop := s.takesCans = true → s.cal.state = .valid ∧ s.recipes.active.isSome = true

/-- A changeover pending or in flight has its NEXT recipe. -/
def ChangeoverLegal (s : State) : Prop :=
  (s.dose.changeover.isSome = true → s.recipes.next.isSome = true) ∧
  (∀ m, s.dose.inflight = some m → m.changeover = true → s.recipes.next.isSome = true)

/-- Every entry that carries RETIRING has its recipe. -/
def RetiringLegal (s : State) : Prop :=
  (∃ e ∈ s.track.entries, e.recipe = .retiring) → s.recipes.retiring.isSome = true

/-! ## Rounding (Conventions) -/

/-- q is num ÷ den rounded to nearest, ties away from zero. -/
def NearestAway (num : Int) (den : Nat) (q : Int) : Prop :=
  2 * (num - q * den).natAbs ≤ den ∧ (2 * (num - q * den).natAbs = den → num.natAbs < (q * den).natAbs)

/-- q is num ÷ den rounded to nearest, ties toward zero. -/
def NearestToward (num : Int) (den : Nat) (q : Int) : Prop :=
  2 * (num - q * den).natAbs ≤ den ∧ (2 * (num - q * den).natAbs = den → (q * den).natAbs < num.natAbs)

/-! ## The calibration (R18, R23) -/

/-- Z lies within zero_limit of Zc, and the values are those of the calibration state: none set in NONE, no span factor in
ZERO_ONLY, a span factor of 1..4,194,303 in VALID. -/
def CalLegal (s : State) : Prop :=
  (s.weigh.z - s.cal.zc).natAbs ≤ s.cal.zeroLimit ∧
  (s.cal.state = .none → s.cal.zc = 0 ∧ s.cal.f = 0 ∧ s.cal.zeroLimit = 0) ∧
  (s.cal.state = .zeroOnly → s.cal.f = 0) ∧ (s.cal.state = .valid → 1 ≤ s.cal.f ∧ s.cal.f ≤ 4194303)

/-! ## The Weigh Channel (R1, R5, R8, R14, R43) -/

/-- The jam timer runs or has expired only in RUN with the platform occupied. -/
def JamLegal (s : State) : Prop := s.weigh.jam ≠ .stopped → s.part.state = .run ∧ s.weigh.platform ≠ []

/-- Zero tracking runs exactly while the conditions of R14 hold. -/
def TrackingLegal (s : State) : Prop := s.weigh.tracking = zeroConditions s

/-- At most 64 samples, four open weighings and eight pending reads. -/
def ListsBounded (s : State) : Prop :=
  s.weigh.samples.length ≤ 64 ∧ s.weigh.platform.length ≤ 4 ∧ s.track.reads.length ≤ 8

/-! ## The Can Track (R37, R38, R41, R54) -/

/-- The Can Track holds at most 256 entries, in the order of their stages, each under a serial of its own in 1..4,294,967,295, and one
entry ON_PLATFORM for each open weighing. -/
def TrackLegal (s : State) : Prop :=
  s.track.entries.length ≤ 256 ∧ s.track.entries.Pairwise (fun x y => x.stage.rank ≤ y.stage.rank) ∧
  (s.track.entries.map (·.serial)).Nodup ∧ (∀ e ∈ s.track.entries, 1 ≤ e.serial ∧ e.serial ≤ 4294967295) ∧
  (1 ≤ s.track.nextSerial ∧ s.track.nextSerial ≤ 4294967295) ∧
  (s.track.entries.filter (fun e => decide (e.stage = .onPlatform))).length = s.weigh.platform.length

/-- No entry of the track bears the next serial. -/
def NextSerialFree (s : State) : Prop := ∀ e ∈ s.track.entries, e.serial ≠ s.track.nextSerial

/-! ## Lots (R92, R94) -/

/-- An open lot has used no more of its soft-low allowance than it has, and its decided cans are its accepted and its rejected
ones. -/
def Lot.legal (l : Lot) : Prop := l.softUsed ≤ l.allowance ∧ l.decided = l.accepted + l.rejected

/-- Both open lots are legal. -/
def LotsLegal (s : State) : Prop :=
  (∀ l, s.recipes.activeLot = some l → l.legal) ∧ (∀ l, s.recipes.retiringLot = some l → l.legal)

/-! ## Valves (R110, R115, R117) -/

/-- awaited_gen stands only in WAIT_EFFECT, avg and n keep their ranges, and a valve in the loop has a hard-low run below three. -/
def Valve.legal (x : Valve) : Prop :=
  (x.awaitedGen.isSome = true → x.state = .waitEffect) ∧ x.avg.natAbs ≤ 16000000 ∧ x.n ≤ 64 ∧ x.hardLowRun ≤ 3 ∧
  (x.state = .averaging ∨ x.state = .waitEffect → x.hardLowRun < 3)

/-- Every valve of the Valve Table is legal, and it holds 128. -/
def ValvesLegal (s : State) : Prop := s.valves.table.length = 128 ∧ ∀ x ∈ s.valves.table, x.legal

/-! ## The Dose Unit (R137, R142, R145, R147) -/

/-- In UP with the ack timer stopped no message is in flight; in RETRY and DOWN, and while the ack timer runs, one is. -/
def DoseLegal (s : State) : Prop :=
  (s.dose.link = .up → s.dose.ack = none → s.dose.inflight = none) ∧
  (s.dose.link ≠ .up → s.dose.inflight.isSome = true) ∧ (s.dose.ack.isSome = true → s.dose.inflight.isSome = true)

/-! ## Orders (R184, R186) -/

/-- The slot that a unit keeps for an order in progress. -/
def keptSlot (s : State) : Owner → Option Slot
  | .recipeAndLot => s.recipes.held
  | .weigh => s.weigh.zeroSet.map (·.slot)
  | .calibration => s.cal.held

/-- The taken slots are exactly those the owning units keep, no slot twice, and at most one order of the calibration class is
among them. -/
def TakenLegal (s : State) : Prop :=
  (∀ slot owner, (slot, owner) ∈ s.orders.taken ↔ keptSlot s owner = some slot) ∧ (s.orders.taken.map (·.1)).Nodup ∧
  ¬(s.weigh.zeroSet.isSome = true ∧ s.cal.held.isSome = true)

/-! ## The exchange memory and the outputs (R63, R101, R192, R195) -/

/-- The part owns the line of an address: the part's rows of the memory map, and the lines of the taken slots. -/
def PartOwns (s : State) (a : Nat) : Prop :=
  a ≤ 0x003F ∨ (0x0180 ≤ a ∧ a ≤ 0x01FF) ∨ (0x0200 ≤ a ∧ a ≤ 0x027F) ∨ (0x0280 ≤ a ∧ a ≤ 0x02BF) ∨
  (0x0300 ≤ a ∧ a ≤ 0x03FF) ∨ (0x0400 ≤ a ∧ a ≤ 0x043F) ∨ (0x0440 ≤ a ∧ a ≤ 0x044F) ∨ (0x0480 ≤ a ∧ a ≤ 0x057F) ∨
  (0x0600 ≤ a ∧ a ≤ 0x060F) ∨ (0x0610 ≤ a ∧ a ≤ 0x0A0F) ∨ (0x0A40 ≤ a ∧ a ≤ 0x0A4F) ∨ (0x1000 ≤ a ∧ a ≤ 0x2FFF) ∨
  ∃ t ∈ s.orders.taken, 0x0040 + 16 * t.1.val ≤ a ∧ a ≤ 0x004F + 16 * t.1.val

/-- The memory keeps its canonical form. -/
def MemoryLegal (s : State) : Prop := Mem.wf s.exch.mem = true

/-- ATTN is active exactly while a class is both pending and unmasked. -/
def AttnLegal (s : State) : Prop := s.exch.attn = decide (s.exch.notice &&& s.exch.mask ≠ 0)

/-- REJECT_DRIVE is active exactly while the driver is FIRING. -/
def DriveLegal (s : State) : Prop := s.reject.drive = decide (s.reject.actuator ≠ .idle)

/-- TX of the reader link is held at the idle level. -/
def ReaderTxLegal (s : State) : Prop := s.reader.tx = .idle

end Sys2Proof.Machine
end

