-- ==== Sys2Proof/Certificates/Slice0/Obligations.lean ====
section
/-! DEFINITION. The statements about the FW48, in the order of OBLIGATIONS.json. -/

open Sys2Proof Sys2Proof.Machine

/-! ## The queue, time and the exchange memory -/

/-- A step with a command at the front of the queue is that command on the state with the queue's rest. -/
def Obligations.StepRunsTheFrontCommand : Prop :=
  ∀ (c : Instr) (s : State), step { s with pending := c :: s.pending } = exec c s

/-- On an empty queue, with no reset held, a step is one unit of 100 µs (logs 1 to 4): every running timer loses one unit, the
time tag gains one up to its last value, where it waits for TIME_WRAP, and the line time of a frame sent grows (log 34); the
timers that then stand at their end put their commands into the queue. The deadline clocks run only with LINE_RUN high (R57),
the fine count only in RUN with a timed lot, and then by one at every thousandth unit, the phase below it counting the units
(R164, log 4), where one held at 0 brings its step with the first unit (log 37), the watch from LOADING on (R2). Nothing else
changes. -/
def Obligations.AUnitOfTimePasses : Prop :=
  ∀ s : State, s.pending = [] → s.pins.resetHeld = false →
    let less := fun (x : Option Nat) => x.map (fun n => n - 1)
    let timed := s.part.state = .run ∧ ∃ r, s.recipes.active = some r ∧ r.lotMinutes ≠ 0
    ∃ t, step s = .next t ∧
      t.exch = { s.exch with
        holdoff := less s.exch.holdoff
        timeTag := if s.exch.timeTag = 0xFFFFFFFF#32 then 0xFFFFFFFF#32 else s.exch.timeTag + 1 } ∧
      t.weigh = { s.weigh with
        watch := if s.part.state = .clearing then s.weigh.watch else less s.weigh.watch
        jam := match s.weigh.jam with
          | .running left loaded => .running (left - 1) loaded
          | .stopped => .stopped
          | .expired => .expired } ∧
      t.cal = { s.cal with store := match s.cal.store with
        | .writing left record => .writing (left - 1) record
        | .idle => .idle } ∧
      (s.pins.lineRun = false → t.track = s.track) ∧
      (s.pins.lineRun = true → t.track = { s.track with
        entries := s.track.entries.map (fun e => { e with deadline := less e.deadline })
        reads := s.track.reads.map (fun p => { p with left := p.left - 1 }) }) ∧
      t.filler = { s.filler with
        gap := less s.filler.gap
        tx := match s.filler.tx with
          | .sending frame spent => .sending frame (spent + 2304)
          | .idle => .idle } ∧
      t.reject = { s.reject with actuator := match s.reject.actuator with
        | .firing left => .firing (left - 1)
        | .idle => .idle } ∧
      t.dose = { s.dose with ack := less s.dose.ack } ∧ t.orders = { s.orders with scan := less s.orders.scan } ∧
      (¬timed → t.recipes = s.recipes) ∧
      (timed → s.recipes.finePhase < 999 → t.recipes = { s.recipes with finePhase := s.recipes.finePhase + 1 }) ∧
      (timed → 999 ≤ s.recipes.finePhase →
        t.recipes = { s.recipes with finePhase := 0, fine := s.recipes.fine - 1 }) ∧
      (Instr.timeWrap ∈ t.pending ↔ s.exch.timeTag = 0xFFFFFFFF#32) ∧
      (Instr.converterWatchExpiry ∈ t.pending ↔ s.part.state ≠ .clearing ∧ t.weigh.watch = some 0) ∧
      (Instr.jamTimerExpiry ∈ t.pending ↔ ∃ loaded, t.weigh.jam = .running 0 loaded) ∧
      (Instr.storeTimerExpiry ∈ t.pending ↔ ∃ record, t.cal.store = .writing 0 record) ∧
      t.pending.count .readDeadlineExpiry =
        (if s.pins.lineRun then (t.track.reads.filter (fun p => decide (p.left = 0))).length else 0) ∧
      (Instr.gapTimerExpiry ∈ t.pending ↔ t.filler.gap = some 0) ∧
      (Instr.transmitFrameEnd ∈ t.pending ↔
        ∃ frame spent, t.filler.tx = .sending frame spent ∧ 1100 * frame.length ≤ spent) ∧
      (Instr.pulseTimerExpiry ∈ t.pending ↔ t.reject.actuator = .firing 0) ∧
      t.pending.count .pastRejectDeadlineExpiry = (if s.pins.lineRun then
        (t.track.entries.filter (fun e => decide (e.stage = .pastReject ∧ e.deadline = some 0))).length else 0) ∧
      (Instr.ackTimerExpiry ∈ t.pending ↔ t.dose.ack = some 0) ∧
      (Instr.lotMinuteStep ∈ t.pending ↔ timed ∧ t.recipes.fine = 0) ∧
      (Instr.orderScan false ∈ t.pending ↔ t.orders.scan = some 0) ∧
      (Instr.refusalHoldoffExpiry ∈ t.pending ↔ t.exch.holdoff = some 0) ∧
      ChangesOnly [.weigh, .cal, .track, .filler, .reject, .dose, .recipes, .orders, .exch, .pending] s t

/-- An event is written at the write index with kind, arg0 modulo 65,536, time tag and arguments, and the index and the notice
EVENT follow; into a full queue it is dropped, with the overflow flag and the drop count (R196). The memory spoken of is the
model's, in which the header words are not stored but computed from the index and the drop count (log 5). -/
def Obligations.AnEventIsWrittenOrDropped : Prop :=
  ∀ (e : Exchange) (k : EventKind) (arg0 : Nat) (arg1 arg2 : Word),
    let f := e.event k arg0 arg1 arg2
    let at0 := 0x0480 + 4 * e.evWrite.val
    ((e.evWrite.val + 1) % 64 ≠ (e.read 0x00C0).toNat % 64 →
      f.read at0 = BitVec.ofNat 32 (k.code + 65536 * (arg0 % 65536)) ∧ f.read (at0 + 1) = e.timeTag ∧
      f.read (at0 + 2) = arg1 ∧ f.read (at0 + 3) = arg2 ∧ KeepsMemoryOutside at0 4 e f ∧
      f.evWrite.val = (e.evWrite.val + 1) % 64 ∧ f.notice = e.notice ||| 2#5 ∧ f.dropCount = e.dropCount ∧
      f.attn = decide (f.notice &&& f.mask ≠ 0)) ∧
    ((e.evWrite.val + 1) % 64 = (e.read 0x00C0).toNat % 64 →
      f.read 0x00C2 = 1 ∧ KeepsMemoryOutside 0x00C2 1 e f ∧ f.dropCount = e.dropCount + 1 ∧
      f.evWrite = e.evWrite ∧ f.notice = e.notice ∧ f.attn = e.attn) ∧
    f.mask = e.mask ∧ f.holdoff = e.holdoff ∧ f.suppressed = e.suppressed ∧ f.logIndex = e.logIndex ∧
    f.wrapCount = e.wrapCount ∧ f.timeTag = e.timeTag

/-- The finish of an order writes outcome, detail and time tag into words 8 to 10 of the slot and its state into word 0, raises
the notice ORDER, and gives the slot back; every other word and every other taken slot stays (R185). The memory spoken of is the
model's, in which status, area and header words are computed and not stored (log 5). -/
def Obligations.AnOrderFinishWritesItsSlot : Prop :=
  ∀ (slot : Slot) (o : Outcome) (detail : Word) (s : State),
    let t := finishOrder slot o detail s
    let line := 0x0040 + 16 * slot.val
    t.exch.read (line + 8) = BitVec.ofNat 32 o.code ∧ t.exch.read (line + 9) = detail ∧
    t.exch.read (line + 10) = s.exch.timeTag ∧
    (o = .done ∨ o = .doneUnsaved → t.exch.read line = 3) ∧ (o ≠ .done → o ≠ .doneUnsaved → t.exch.read line = 4) ∧
    (∀ a, a ≠ line → ¬(line + 8 ≤ a ∧ a < line + 11) → t.exch.read a = s.exch.read a) ∧
    t.exch.notice = s.exch.notice ||| 1#5 ∧ t.exch.attn = decide (t.exch.notice &&& s.exch.mask ≠ 0) ∧
    t.exch.evWrite = s.exch.evWrite ∧ t.exch.dropCount = s.exch.dropCount ∧
    (∀ x, x ∈ t.orders.taken ↔ x ∈ s.orders.taken ∧ x.1 ≠ slot) ∧ t.orders.scan = s.orders.scan ∧
    ChangesOnly [.orders, .exch] s t

/-- A can log record goes to the next record index; the index advances modulo 1,024, the wrap count rises when it passes to 0,
and LOG_HALF is raised exactly when it becomes 512 or 0 (R198). Every field of the entry can be read back from the bits of its
record (R107, the layout of the record). The memory spoken of is the model's, in which the header words are computed from the
record index and the wrap count (log 5). -/
def Obligations.ACanLogRecordIsPlacedAndReadable : Prop :=
  ∀ (x : Entry) (d : Disposition) (e : Exchange),
    let f := e.logRecord (logWords x d)
    let at0 := 0x1000 + 8 * e.logIndex.val
    let next := (e.logIndex.val + 1) % 1024
    (∀ k, k < 8 → f.read (at0 + k) = (logWords x d).getD k 0) ∧ KeepsMemoryOutside at0 8 e f ∧
    f.read at0 = BitVec.ofNat 32 x.serial ∧ f.logIndex.val = next ∧
    f.wrapCount = (if next = 0 then e.wrapCount + 1 else e.wrapCount) ∧
    f.notice = (if next = 512 ∨ next = 0 then e.notice ||| 4#5 else e.notice) ∧
    f.evWrite = e.evWrite ∧ f.dropCount = e.dropCount ∧ f.timeTag = e.timeTag ∧ f.mask = e.mask ∧
    (x.valve.getD 0 ≤ 128 → markCode x.read ≤ 999 →
      let w := fun k => ((logWords x d).getD k 0).toNat
      w 1 % 256 = x.valve.getD 0 ∧ w 1 / 256 % 4 = x.origin.code ∧ w 1 / 1024 % 4 = attributionCode x.attribution ∧
      w 1 / 4096 % 2 = x.recipe.code ∧ w 1 / 8192 % 8 = zoneCode x.zone ∧ w 1 / 65536 % 4 = decisionCode x.decision ∧
      w 1 / 262144 = d.code ∧
      w 2 % 65536 = (x.generation.getD 0).toNat ∧ w 2 / 65536 % 2 = flagNat (x.genKnown.getD false) ∧
      w 2 / 131072 % 4 = readKindCode x.read ∧ w 2 / 524288 % 1024 = markCode x.read ∧ w 2 / 536870912 = gradeCode x.read ∧
      (∀ mg, x.weighing = some (.gross mg) → mg ≤ 2000000 → w 3 = mg) ∧
      (∀ n, x.net = some n → -2147483648 ≤ n → n ≤ 2147483647 → ((logWords x d).getD 4 0).toInt = n) ∧
      w 5 % 1024 = x.reasons.toNat ∧ w 5 / 1024 = weighFaultCode x.weighing ∧
      (logWords x d).getD 6 0 = x.dischargeTag.getD 0 ∧ (logWords x d).getD 7 0 = x.outTag.getD 0)

/-- The host reads each word of the status block, the calibration block, the ACTIVE and RETIRING areas, the open lot areas and
the two headers as the present value of what it shows, and 0 behind them; elsewhere it reads the memory, NOTICE, NOTICE_MASK and
IDENT (R24, R152, R160, R194 to R196, R198, R200). The model computes these words from the state (log 5). -/
def Obligations.TheHostSeesEveryBlock : Prop :=
  ∀ s : State, s.part.state ≠ .clearing → s.pins.resetHeld = false →
    let count := fun st => BitVec.ofNat 32 (s.track.entries.filter (fun e => decide (e.stage = st))).length
    let at' := fun (a : Nat) => hostRead s (BitVec.ofNat 32 a)
    let zeros := fun (first last : Nat) => ∀ a, first ≤ a → a ≤ last → at' a = 0
    let text := fun (base : Nat) (l : List Byte) => ∀ k, k < 12 →
      (at' (base + 1 + k / 4)).toNat / 256 ^ (3 - k % 4) % 256 = (l.getD k 0).toNat
    let fields := fun (r : Recipe) => [r.nominal, r.target, r.containerTare, r.hardDev, r.softDev, r.overDev,
      flagNat r.rejectOver, r.softAllowance, r.lotCanLimit, r.lotMinutes, r.valveCount, r.smoothing, r.sampleMin, r.deadband,
      r.gain, r.stepLimit, r.trimLimit, flagNat r.clearTrims, r.settle, r.guard, r.minSamples, r.stability, r.maxDwell,
      r.readTimeout, flagNat r.codeRequired, r.minGrade.code, r.rejectPulse, r.confirmWindow, r.missingWindow, r.zeroBand]
    let recipeArea := fun (base : Nat) (slot : Option Recipe) =>
      (slot = none → zeros base (base + 127)) ∧
      (∀ r, slot = some r → at' base = 1 ∧ text base r.lotText ∧
        (∀ k, k < 30 → at' (base + 4 + k) = BitVec.ofNat 32 ((fields r).getD k 0)) ∧
        (∀ k, k < 94 → at' (base + 34 + k) = r.rest.getD k 0))
    let lotArea := fun (base : Nat) (lot : Option Lot) =>
      (lot = none → zeros base (base + 31)) ∧
      (∀ l, lot = some l → at' base = BitVec.ofNat 32 l.index ∧ text base l.text ∧ at' (base + 4) = l.start ∧
        at' (base + 5) = 0 ∧ at' (base + 6) = 0 ∧ at' (base + 7) = l.decided ∧ at' (base + 8) = l.accepted ∧
        at' (base + 9) = l.rejected ∧ (∀ k, k < 10 → at' (base + 10 + k) = l.reasons.getD k 0) ∧
        at' (base + 20) = BitVec.ofNat 32 l.softUsed ∧ at' (base + 21) = BitVec.ofNat 32 l.allowance ∧
        at' (base + 22) = l.netSum.extractLsb' 32 32 ∧ at' (base + 23) = l.netSum.setWidth 32 ∧
        zeros (base + 24) (base + 31))
    hostRead s 0x0000 = BitVec.ofNat 32 s.part.state.code ∧ hostRead s 0x0001 = BitVec.ofNat 32 (causeCode s.part.cause) ∧
    hostRead s 0x0002 = (if s.pins.lineRun then 1 else 0) ∧ hostRead s 0x0003 = (if s.valves.loop then 1 else 0) ∧
    hostRead s 0x0004 = BitVec.ofNat 32 s.dose.link.code ∧
    hostRead s 0x0005 = (if s.dose.served.isSome then 1 else 0) ∧ hostRead s 0x0006 = (s.dose.served.getD 0).setWidth 32 ∧
    hostRead s 0x0007 = s.recipes.boundary.setWidth 32 ∧ hostRead s 0x0008 = BitVec.ofNat 32 s.cal.state.code ∧
    hostRead s 0x0009 = BitVec.ofNat 32 s.cal.store.code ∧ hostRead s 0x000A = BitVec.ofInt 32 s.weigh.z ∧
    hostRead s 0x000B = BitVec.ofNat 32 s.track.entries.length ∧ hostRead s 0x000C = count .transit ∧
    hostRead s 0x000D = count .read ∧ hostRead s 0x000E = count .onPlatform ∧ hostRead s 0x000F = count .weighed ∧
    hostRead s 0x0010 = count .pastReject ∧ hostRead s 0x0011 = BitVec.ofNat 32 s.track.reads.length ∧
    hostRead s 0x0012 = BitVec.ofNat 32 s.track.nextSerial ∧
    hostRead s 0x0013 = (match s.recipes.activeLot with | none => 0 | some l => BitVec.ofNat 32 l.index) ∧
    zeros 0x0014 0x003F ∧ recipeArea 0x0180 s.recipes.active ∧ recipeArea 0x0200 s.recipes.retiring ∧
    at' 0x0280 = BitVec.ofNat 32 s.cal.state.code ∧ at' 0x0281 = BitVec.ofNat 32 s.cal.store.code ∧
    at' 0x0282 = BitVec.ofInt 32 s.cal.zc ∧ at' 0x0283 = BitVec.ofNat 32 s.cal.f ∧
    at' 0x0284 = BitVec.ofNat 32 s.cal.zeroLimit ∧ at' 0x0285 = BitVec.ofNat 32 s.cal.changeCount ∧
    at' 0x0286 = BitVec.ofNat 32 s.cal.lastWrite.code ∧ zeros 0x0287 0x02BF ∧
    lotArea 0x0400 s.recipes.activeLot ∧ lotArea 0x0420 s.recipes.retiringLot ∧
    at' 0x0440 = BitVec.ofNat 32 s.exch.evWrite.val ∧ at' 0x0441 = s.exch.dropCount ∧ zeros 0x0442 0x044F ∧
    at' 0x0A40 = BitVec.ofNat 32 s.exch.logIndex.val ∧ at' 0x0A41 = s.exch.wrapCount ∧ zeros 0x0A42 0x0A4F ∧
    (∀ a, a < 0x4000 → 0x0040 ≤ a → ¬(0x0180 ≤ a ∧ a ≤ 0x02BF) → ¬(0x0400 ≤ a ∧ a ≤ 0x044F) → ¬(0x0A40 ≤ a ∧ a ≤ 0x0A4F) →
      at' a = s.exch.read a) ∧
    at' 0x4000 = 0x4C480481 ∧ at' 0x4001 = 0 ∧ at' 0x4002 = s.exch.notice.setWidth 32 ∧
    at' 0x4003 = s.exch.mask.setWidth 32 ∧ (∀ a : Word, 0x4004 ≤ a.toNat → hostRead s a = 0)

/-! ## Resets and start-up -/

/-- A full reset leaves every block at its full reset value and the part in CLEARING, and while its source holds it every host
read gives 0 (R169, R192 and the reset tables); with the release IDENT alone is read, and CLEARING ends with every word 0 but
the words of STATE_CHANGE, the first entry of the event queue, and the part in LOADING (R169, R178), where the host sees the
words that R200 names (the model computes them, log 5). That the other pins and the waiting commands stay, and when the source
lets go, is the model's reading (logs 8, 28). The emptied buffer of the filler link is written as zeros (log 32). -/
def Obligations.FullResetAndClearing : Prop :=
  ∀ s : State,
    (∃ t, exec .fullReset s = .next t ∧
      (∀ a : Word, hostRead t a = 0) ∧ (∀ a, t.exch.read a = 0) ∧
      t.part = { state := .clearing, cause := none, stopReq := false } ∧
      t.reject = { actuator := .idle, drive := false } ∧
      t.weigh.samples = [] ∧ t.weigh.converter = .live ∧ t.weigh.watch = some 50 ∧ t.weigh.platform = [] ∧
      t.weigh.jam = .stopped ∧ t.weigh.z = 0 ∧ t.weigh.refusals = 0 ∧ t.weigh.zeroSet = none ∧
      t.weigh.acc = { sum := 0, n := 0, overload := false, quietStart := 0 } ∧ t.weigh.tracking = false ∧
      t.cal.state = .none ∧ t.cal.zc = 0 ∧ t.cal.f = 0 ∧ t.cal.zeroLimit = 0 ∧ t.cal.changeCount = 0 ∧
      t.cal.store = .idle ∧ t.cal.averaging = none ∧ t.cal.held = none ∧
      t.cal.lastWrite = .noneYet ∧
      t.track = { entries := [], reads := [], nextSerial := 1 } ∧
      t.reader = { receiver := .waiting, asm := .idle, tx := .idle } ∧
      t.filler = { receiver := .waiting, asm := .hunt, kind := 0, len := 0, payload := [], sum := 0, gap := none, tx := .idle
                   waiting := none } ∧
      t.valves.loop = true ∧ t.valves.snapshots = 0 ∧ t.valves.table.length = 128 ∧
      (∀ x ∈ t.valves.table, x.state = .idle ∧ x.avg = 0 ∧ x.n = 0 ∧ x.hardLowRun = 0 ∧ x.effectGen = none ∧
        x.awaitedGen = none ∧ x.lastNet = 0 ∧ x.cansSeen = 0) ∧
      t.dose.served = none ∧ t.dose.base = 0 ∧ t.dose.limit = 0 ∧ t.dose.inflight = none ∧
      t.dose.changeover = none ∧ t.dose.link = .up ∧ t.dose.ack = none ∧
      t.dose.probe = 0 ∧ t.dose.rr = 0 ∧ t.dose.trims.length = 128 ∧
      (∀ x ∈ t.dose.trims, x.wanted = 0 ∧ x.served = 0) ∧
      t.recipes.active = none ∧ t.recipes.retiring = none ∧ t.recipes.next = none ∧
      t.recipes.held = none ∧ t.recipes.closedPos = 0 ∧ t.recipes.boundary = 0 ∧
      t.recipes.activeLot = none ∧ t.recipes.retiringLot = none ∧ t.recipes.nextLot = 1 ∧ t.recipes.fine = 600 ∧
      t.orders = { scan := none, taken := [] } ∧
      t.exch.notice = 0 ∧ t.exch.mask = 0 ∧ t.exch.attn = false ∧ t.exch.evWrite = 0 ∧ t.exch.dropCount = 0 ∧
      t.exch.holdoff = none ∧ t.exch.suppressed = 0 ∧ t.exch.logIndex = 0 ∧ t.exch.wrapCount = 0 ∧ t.exch.timeTag = 0 ∧
      t.pins = { s.pins with resetHeld := true } ∧ t.pending = s.pending) ∧
    (s.pins.resetHeld = true → s.pending = [] →
      ∃ t, step s = .next t ∧ t.pins = { s.pins with resetHeld := false } ∧
        (s.part.state = .clearing → ∀ a : Word, hostRead t a = if a = 0x4000#32 then 0x4C480481#32 else 0) ∧
        ChangesOnly [.pins] s t) ∧
    (s.part.state = .clearing → s.exch.evWrite = 0 →
      ∃ t, exec .clearingComplete s = .next t ∧ t.part = { s.part with state := .loading } ∧
        t.pins = { s.pins with resetHeld := false } ∧
        t.exch.read 0x0480 = BitVec.ofNat 32 (128 + 65536 * 1) ∧ t.exch.read 0x0481 = s.exch.timeTag ∧
        t.exch.read 0x0482 = 0 ∧ t.exch.read 0x0483 = 1 ∧
        (∀ a, ¬(0x0480 ≤ a ∧ a < 0x0484) → t.exch.read a = 0) ∧ t.exch.evWrite = 1 ∧
        t.exch.notice = s.exch.notice ||| 2#5 ∧
        hostRead t 0x0000 = 1 ∧ hostRead t 0x0002 = (if s.pins.lineRun then 1 else 0) ∧
        hostRead t 0x0003 = (if s.valves.loop then 1 else 0) ∧ hostRead t 0x0012 = BitVec.ofNat 32 s.track.nextSerial ∧
        hostRead t 0x0440 = 1 ∧
        t.weigh = { s.weigh with jam := .stopped, tracking := false, acc := t.weigh.acc } ∧ t.weigh.acc.sum = 0 ∧
        t.weigh.acc.n = 0 ∧ t.weigh.acc.overload = false ∧
        ChangesOnly [.pins, .part, .weigh, .exch] s t)

/-- The end of the LOADING read takes the calibration from a good record and leaves it from a bad one, with STORE_BLANK; either
way the part enters CONFIG and the scan timer starts with 5 ms (R34, R35, R170, R181). The record of a calibration in force,
read back, gives that calibration: no field of it is dropped (R34, R35). The bytes that the store gives come with the command
(log 14). -/
def Obligations.TheStoredRecordIsLoaded : Prop :=
  (∀ (bytes : List Byte) (s : State), s.part.state = .loading → bytes.length = 32 →
    let num := fun a k => bytesNat ((bytes.drop a).take k)
    let signed := bytes.take 4 = [0x5A#8, 0x3C#8, 0x01#8, 0x48#8]
    let summed := halfwordSum bytes % 65536 = 0
    let ranged := (num 20 2 = 1 ∨ num 20 2 = 2) ∧ (∀ b ∈ (bytes.drop 22).take 8, b = 0) ∧ num 12 4 ≤ 200000 ∧
      (num 20 2 = 2 → 1 ≤ num 8 4 ∧ num 8 4 ≤ 4194303) ∧ (num 20 2 = 1 → num 8 4 = 0)
    ∃ t, exec (.storeReadEnd bytes) s = .next t ∧ t.part = { s.part with state := .config } ∧
      t.orders = { s.orders with scan := some 50 } ∧
      (signed → summed → ranged →
        t.cal = { s.cal with
          zc := (BitVec.ofNat 32 (num 4 4)).toInt, f := num 8 4, zeroLimit := num 12 4, changeCount := num 16 4
          state := if num 20 2 = 2 then .valid else .zeroOnly } ∧
        t.weigh.z = t.cal.zc ∧ t.exch = s.exch.event .stateChange 2 1 2) ∧
      (¬(signed ∧ summed ∧ ranged) →
        t.cal = s.cal ∧ t.weigh.z = s.weigh.z ∧
        t.exch = (s.exch.event .storeBlank (if signed then (if summed then 3 else 2) else 1) 0 0).event .stateChange 2 1 2) ∧
      t.weigh.samples = s.weigh.samples ∧ t.weigh.platform = s.weigh.platform ∧
      ChangesOnly [.part, .weigh, .cal, .orders, .exch] s t) ∧
  (∀ (c : Calibration) (s : State), s.part.state = .loading → c.state ≠ .none →
    -2147483648 ≤ c.zc → c.zc ≤ 2147483647 → c.zeroLimit ≤ 200000 → c.changeCount ≤ 4294967295 →
    (c.state = .valid → 1 ≤ c.f ∧ c.f ≤ 4194303) → (c.state = .zeroOnly → c.f = 0) →
    (storeRecord c).length = 32 ∧ halfwordSum (storeRecord c) % 65536 = 0 ∧
    ∃ t, exec (.storeReadEnd (storeRecord c)) s = .next t ∧ t.cal.zc = c.zc ∧ t.cal.f = c.f ∧
      t.cal.zeroLimit = c.zeroLimit ∧ t.cal.changeCount = c.changeCount ∧ t.cal.state = c.state ∧ t.weigh.z = c.zc)

/-- A RESTART sets each block as the reset tables give and keeps what they keep: the event queue is empty again, the orders in
progress end ABORTED, every entry leaves as FLUSHED, the open lots close with cause RESET, and the part ends in the state its
readiness, LINE_RUN and the converter give. In CLEARING and LOADING it changes nothing (R176 and the reset tables of the
chapters). The memory spoken of is the model's (log 5). What is left of a frame under transmission, up to the byte on the line
(R89), is counted by the model's line time (log 34). -/
def Obligations.RestartResetsTheBlocks : Prop :=
  ∀ (value : Word) (s : State), value.getLsbD 0 = true →
    (s.part.state = .clearing ∨ s.part.state = .loading → exec (.restart value) s = .next s) ∧
    (s.part.state ≠ .clearing → s.part.state ≠ .loading →
      let ready := s.cal.state = .valid ∧ s.recipes.active.isSome = true
      let line : PartState := if s.pins.lineRun then .run else .stopped
      let ends : PartState := if ready then line else .config
      let files := fun (l : Lot) (r : Recipe) (pos : Fin 8) (e : Exchange) =>
        (lotCloseEvents l r.nominal .reset (e.write (0x0300 + 32 * pos.val)
          (closedLotWords l s.exch.timeTag .reset r.nominal))).raiseNotice .lot
      let e0 : Exchange := { (s.exch.write 0x00C0 [0]).write 0x00C2 [0] with evWrite := 0 }
      let e1 := match s.weigh.zeroSet with
        | none => e0
        | some z => e0.finishSlot z.slot .aborted 0
      let e2 := match s.cal.held with
        | none => e1
        | some slot => if s.cal.averaging.isSome then e1.finishSlot slot .aborted 0
          else if s.cal.store ≠ .idle then e1.finishSlot slot .aborted 1 else e1
      let e3 := s.track.entries.foldl (fun e x => e.logRecord (logWords x .flushed)) e2
      let e4 := match s.recipes.held with
        | none => e3
        | some slot => e3.finishSlot slot .aborted 0
      let retires := fun (e : Exchange) => match s.recipes.retiring, s.recipes.retiringLot with
        | some r, some l => (files l r s.recipes.closedPos e, s.recipes.closedPos + 1)
        | _, _ => (e, s.recipes.closedPos)
      let reopens := fun (p : Exchange × Fin 8) => match s.recipes.active, s.recipes.activeLot with
        | some r, some l => ((files l r p.2 p.1).write 0x00C1 [BitVec.ofNat 32 r.lotMinutes], p.2 + 1)
        | some r, none => (p.1.write 0x00C1 [BitVec.ofNat 32 r.lotMinutes], p.2)
        | none, _ => p
      let closed := reopens (retires e4)
      let e5 := closed.1.event .stateChange ends.code (BitVec.ofNat 32 s.part.state.code) 10
      ∃ t, exec (.restart value) s = .next t ∧
        (¬ready → t.part = { state := .config, cause := none, stopReq := false } ∧ t.exch = e5) ∧
        (ready → s.weigh.converter = .live → t.part = { state := line, cause := none, stopReq := false } ∧ t.exch = e5) ∧
        (ready → s.weigh.converter = .silent →
          t.part = { state := .faultStop, cause := some .converterFault, stopReq := true } ∧
          t.exch = (e5.event .stateChange 5 (BitVec.ofNat 32 line.code) 8).raiseNotice .fault) ∧
        t.track = { entries := [], reads := [], nextSerial := s.track.nextSerial } ∧
        t.weigh.platform = [] ∧ t.weigh.jam = .stopped ∧ t.weigh.z = s.cal.zc ∧ t.weigh.refusals = 0 ∧
        t.weigh.zeroSet = none ∧ t.weigh.samples = s.weigh.samples ∧ t.weigh.converter = s.weigh.converter ∧
        t.weigh.watch = s.weigh.watch ∧ t.weigh.acc.sum = 0 ∧ t.weigh.acc.n = 0 ∧ t.weigh.acc.overload = false ∧
        t.cal = { s.cal with
          averaging := none, held := if s.cal.averaging.isSome ∨ s.cal.store ≠ .idle then none else s.cal.held } ∧
        (∀ v, 1 ≤ v → v ≤ s.valves.table.length →
          valveAt t v = { Valve.afterReset with state := if withinV s v then .averaging else .idle }) ∧
        t.valves.loop = s.valves.loop ∧ t.valves.snapshots = s.valves.snapshots ∧ t.dose = State.reset.dose ∧
        t.recipes.active = s.recipes.active ∧ t.recipes.retiring = none ∧ t.recipes.next = none ∧
        t.recipes.held = none ∧ t.recipes.boundary = s.recipes.boundary ∧ t.recipes.closedPos = closed.2 ∧
        (s.recipes.retiring.isSome = true → t.recipes.retiringLot = none) ∧
        (∀ r, s.recipes.active = some r →
          (∃ l, t.recipes.activeLot = some l ∧ l.index = s.recipes.nextLot ∧ l.text = r.lotText ∧ l.decided = 0 ∧
            l.accepted = 0 ∧ l.rejected = 0 ∧ l.netSum = 0 ∧ l.softUsed = 0 ∧ l.allowance = r.softAllowance) ∧
          t.recipes.fine = 600) ∧
        (∀ x, x ∈ t.orders.taken ↔ x ∈ s.orders.taken ∧ (∀ z, s.weigh.zeroSet = some z → x.1 ≠ z.slot) ∧
          (s.cal.averaging.isSome = true ∨ s.cal.store ≠ .idle → s.cal.held ≠ some x.1) ∧ s.recipes.held ≠ some x.1) ∧
        t.filler = { s.filler with
          waiting := none
          tx := match s.filler.tx with
            | .idle => .idle
            | .sending frame spent => .sending (frame.take (min frame.length (spent / 1100 + 1))) spent } ∧
        t.orders.scan = s.orders.scan ∧
        ChangesOnly [.part, .weigh, .cal, .track, .filler, .valves, .dose, .recipes, .orders, .exch] s t)

/-! ## Host writes -/

/-- A write to NOTICE clears the classes whose bits it holds, a write to NOTICE_MASK replaces the mask, and ATTN follows (R195);
a write to IDENT, or to CONTROL with bit 0 clear, changes nothing (R194). A host write to the memory takes effect at the word it
names in a host-owned line and at no other word; in a part-owned line it leaves the word and raises HOST_WRITE_REFUSED with the
suppressed count, or is counted while the holdoff runs; in CLEARING and above the registers it is dropped (R192, R193, R169).
The holdoff at its end becomes IDLE and keeps the suppressed count (R193); the time tag passes from its last value to 0, and
TIME_WRAP carries time tag 0 and no arguments (R199). -/
def Obligations.HostWritesAndExchangeTimersAct : Prop :=
  ∀ (addr value : Word) (s : State),
    (s.part.state ≠ .clearing →
      (∃ t, exec (.noticeClear value) s = .next t ∧
        (∀ i, i < 5 → t.exch.notice.getLsbD i = (s.exch.notice.getLsbD i && !value.getLsbD i)) ∧
        t.exch = { s.exch with notice := t.exch.notice, attn := decide (t.exch.notice &&& s.exch.mask ≠ 0) } ∧
        ChangesOnly [.exch] s t) ∧
      (∃ t, exec (.noticeMaskWrite value) s = .next t ∧ (∀ i, i < 5 → t.exch.mask.getLsbD i = value.getLsbD i) ∧
        t.exch = { s.exch with mask := t.exch.mask, attn := decide (s.exch.notice &&& t.exch.mask ≠ 0) } ∧
        ChangesOnly [.exch] s t) ∧
      (addr = 0x4000#32 ∨ (addr = 0x4001#32 ∧ value.getLsbD 0 = false) →
        exec (.registerWriteIgnored addr value) s = .next s)) ∧
    (s.exch.holdoff = some 0 →
      ∃ t, exec .refusalHoldoffExpiry s = .next t ∧ t.exch = { s.exch with holdoff := none } ∧ ChangesOnly [.exch] s t) ∧
    (s.exch.timeTag = 0xFFFFFFFF#32 →
      ∃ t, exec .timeWrap s = .next t ∧ t.exch.timeTag = 0 ∧
        t.exch = ({ s.exch with timeTag := 0 } : Exchange).event .timeWrap 0 0 0 ∧ ChangesOnly [.exch] s t) ∧
    (s.part.state = .clearing ∨ 0x4004 ≤ addr.toNat → exec (.hostMemoryWrite addr value) s = .next s) ∧
    (s.part.state ≠ .clearing → addr.toNat < 0x4000 → ¬PartOwns s addr.toNat →
      ∃ t, exec (.hostMemoryWrite addr value) s = .next t ∧ t.exch.read addr.toNat = value ∧
        KeepsMemoryOutside addr.toNat 1 s.exch t.exch ∧ t.exch = { s.exch with mem := t.exch.mem } ∧
        ChangesOnly [.exch] s t) ∧
    (s.part.state ≠ .clearing → addr.toNat < 0x4000 → PartOwns s addr.toNat → s.exch.holdoff = none →
      ∃ t, exec (.hostMemoryWrite addr value) s = .next t ∧
        t.exch = { s.exch.event .hostWriteRefused addr.toNat s.exch.suppressed value with
          suppressed := 0, holdoff := some 10 } ∧ ChangesOnly [.exch] s t) ∧
    (∀ left, s.part.state ≠ .clearing → addr.toNat < 0x4000 → PartOwns s addr.toNat → s.exch.holdoff = some left →
      ∃ t, exec (.hostMemoryWrite addr value) s = .next t ∧
        t.exch = { s.exch with suppressed := s.exch.suppressed + 1 } ∧ ChangesOnly [.exch] s t)

/-! ## Part Control -/

/-- A LINE_RUN rise in STOPPED enters RUN and loads the jam timer on an occupied platform, a fall in RUN enters STOPPED and
stops it, each with STATE_CHANGE; a fall marks every open weighing INTERRUPTED; in CONFIG and FAULT_STOP only the level changes
(R172, R7, R8, R178). -/
def Obligations.LineRunMovesThePart : Prop :=
  ∀ s : State,
    (s.part.state = .stopped → s.weigh.zeroSet = none → s.cal.averaging = none →
      ∃ t, exec .lineRunRise s = .next t ∧ t.pins = { s.pins with lineRun := true } ∧
        t.part = { s.part with state := .run } ∧ t.exch = s.exch.event .stateChange 4 3 4 ∧
        t.weigh.jam = (if s.weigh.platform = [] then .stopped
          else .running ((activeRecipe s).maxDwell * 10) (activeRecipe s).maxDwell) ∧
        t.weigh.platform = s.weigh.platform ∧ t.weigh.samples = s.weigh.samples ∧ t.weigh.z = s.weigh.z ∧
        ChangesOnly [.pins, .part, .weigh, .exch] s t) ∧
    (s.part.state = .run →
      ∃ t, exec .lineRunFall s = .next t ∧ t.pins = { s.pins with lineRun := false } ∧
        t.part = { s.part with state := .stopped } ∧ t.exch = s.exch.event .stateChange 3 4 5 ∧
        t.weigh.jam = .stopped ∧ t.weigh.platform = s.weigh.platform.map (fun w => { w with interrupted := true }) ∧
        t.weigh.samples = s.weigh.samples ∧ t.weigh.z = s.weigh.z ∧
        ChangesOnly [.pins, .part, .weigh, .exch] s t) ∧
    (s.part.state = .config ∨ s.part.state = .faultStop →
      exec .lineRunRise s = .next { s with pins := { s.pins with lineRun := true } } ∧
      ∃ t, exec .lineRunFall s = .next t ∧ t.pins = { s.pins with lineRun := false } ∧
        t.weigh = { s.weigh with platform := s.weigh.platform.map (fun w => { w with interrupted := true }) } ∧
        ChangesOnly [.pins, .weigh] s t)

/-- A LINE_RUN rise in STOPPED ends an averaging of the calibration class WRONG_STATE, a PLATFORM_IN ends it DISTURBED and
otherwise opens its weighing (in CONFIG it only ends a calibration averaging), and CAL_SWITCH turned off ends a calibration
averaging SWITCH_OFF: the averaging is discarded, its order finishes with detail 0, and no calibration value and no zero changes
(R20, R27). -/
def Obligations.EventsEndTheAveragings : Prop :=
  ∀ (slot : Slot) (e : Entry) (s : State),
    let frees := fun (t : State) =>
      t.orders = { s.orders with taken := s.orders.taken.filter (fun x => decide (x.1 ≠ slot)) } ∧
      t.weigh.z = s.weigh.z ∧ t.weigh.refusals = s.weigh.refusals ∧ t.weigh.samples = s.weigh.samples
    let opens := fun (t : State) =>
      t.weigh.platform = (match s.weigh.platform with
        | [] => [{ inTag := s.exch.timeTag, double := false, interrupted := false }]
        | l => l.map (fun w => { w with double := true })
            ++ [{ inTag := s.exch.timeTag, double := true, interrupted := false }]) ∧
      t.track = { s.track with entries := s.track.entries.map (fun x =>
        if x.serial = e.serial then { e with stage := .onPlatform } else x) }
    (s.cal.averaging.isSome = true → s.cal.held = some slot → s.weigh.zeroSet = none →
      let ended := fun (t : State) => t.cal = { s.cal with averaging := none, held := none } ∧ t.weigh.zeroSet = none ∧ frees t
      (∃ t, exec .calSwitchOff s = .next t ∧ ended t ∧ t.pins = { s.pins with calSwitch := false } ∧
        t.weigh.platform = s.weigh.platform ∧ t.exch = s.exch.finishSlot slot .switchOff 0 ∧
        ChangesOnly [.pins, .weigh, .cal, .orders, .exch] s t) ∧
      (s.part.state = .config →
        ∃ t, exec .platformInArrival s = .next t ∧ ended t ∧ t.weigh.platform = s.weigh.platform ∧
          t.exch = s.exch.finishSlot slot .disturbed 0 ∧ ChangesOnly [.weigh, .cal, .orders, .exch] s t) ∧
      (s.takesCans = true → s.weigh.platform.length < 4 → oldestOf .read s = some e →
        ∃ t, exec .platformInArrival s = .next t ∧ ended t ∧ opens t ∧ t.exch = s.exch.finishSlot slot .disturbed 0 ∧
          ChangesOnly [.weigh, .cal, .track, .orders, .exch] s t) ∧
      (s.part.state = .stopped →
        ∃ t, exec .lineRunRise s = .next t ∧ ended t ∧ t.pins = { s.pins with lineRun := true } ∧
          t.weigh.platform = s.weigh.platform ∧ t.part = { s.part with state := .run } ∧
          t.exch = (s.exch.finishSlot slot .wrongState 0).event .stateChange 4 3 4 ∧
          ChangesOnly [.pins, .part, .weigh, .cal, .orders, .exch] s t)) ∧
    (∀ z, s.weigh.zeroSet = some z → z.slot = slot → s.cal.averaging = none →
      (s.takesCans = true → s.weigh.platform.length < 4 → oldestOf .read s = some e →
        ∃ t, exec .platformInArrival s = .next t ∧ t.weigh.zeroSet = none ∧ frees t ∧ opens t ∧
          t.exch = s.exch.finishSlot slot .disturbed 0 ∧ ChangesOnly [.weigh, .track, .orders, .exch] s t) ∧
      (s.part.state = .stopped →
        ∃ t, exec .lineRunRise s = .next t ∧ t.weigh.zeroSet = none ∧ frees t ∧ t.pins = { s.pins with lineRun := true } ∧
          t.weigh.platform = s.weigh.platform ∧ t.part = { s.part with state := .run } ∧
          t.exch = (s.exch.finishSlot slot .wrongState 0).event .stateChange 4 3 4 ∧
          ChangesOnly [.pins, .part, .weigh, .orders, .exch] s t))

/-- The converter watch at its end makes the converter SILENT with CONVERTER_FAULT and the tag of the last sample; in STOPPED
and RUN the part then enters FAULT_STOP with STOP_REQ, STATE_CHANGE and the notice FAULT, in every other state but CLEARING Part
Control stays as it is (R2, R173, R174, R175). A jam timer at its end in RUN raises PLATFORM_JAM with the platform count, the
tag of the oldest weighing and the dwell loaded, and the part enters FAULT_STOP with that cause (R8, R173); a timer with time
left does nothing, which is the model's reading of an expiry before its time (log 3). The entry to FAULT_STOP ends the
averagings and the order whose store write is in flight, each ABORTED, the write itself running on (R20, R27, R33). -/
def Obligations.ConverterAndJamFaultsStopThePart : Prop :=
  ∀ (left loaded : Nat) (w : Weighing) (rest : List Weighing) (s : State),
    let aborts := fun (e : Exchange) =>
      let e1 := match s.weigh.zeroSet with
        | none => e
        | some z => e.finishSlot z.slot .aborted 0
      match s.cal.held with
      | none => e1
      | some slot => if s.cal.averaging.isSome then e1.finishSlot slot .aborted 0
        else if s.cal.store ≠ .idle then e1.finishSlot slot .aborted 1 else e1
    let stops := fun (c : Cause) (t : State) =>
      t.part = { state := .faultStop, cause := some c, stopReq := true } ∧ t.weigh.jam = .stopped ∧
      t.weigh.tracking = false ∧ t.weigh.zeroSet = none ∧
      t.cal = { s.cal with
        averaging := none, held := if s.cal.averaging.isSome ∨ s.cal.store ≠ .idle then none else s.cal.held } ∧
      (∀ x, x ∈ t.orders.taken ↔ x ∈ s.orders.taken ∧ (∀ z, s.weigh.zeroSet = some z → x.1 ≠ z.slot) ∧
        (s.cal.averaging.isSome = true ∨ s.cal.store ≠ .idle → s.cal.held ≠ some x.1)) ∧ t.orders.scan = s.orders.scan
    (s.part.state ≠ .clearing → s.weigh.watch = some 0 →
      let tag := (s.weigh.samples.getLast?.map (·.tag)).getD 0
      ∃ t, exec .converterWatchExpiry s = .next t ∧ t.weigh.converter = .silent ∧ t.weigh.watch = none ∧
        t.weigh.platform = s.weigh.platform ∧ t.weigh.z = s.weigh.z ∧ t.weigh.samples = s.weigh.samples ∧
        (s.part.state = .stopped ∨ s.part.state = .run →
          stops .converterFault t ∧
          t.exch = aborts (((s.exch.event .converterFault 0 tag 0).event .stateChange 5 (BitVec.ofNat 32 s.part.state.code)
            8).raiseNotice .fault)) ∧
        (s.part.state ≠ .stopped → s.part.state ≠ .run →
          t.exch = s.exch.event .converterFault 0 tag 0 ∧ ChangesOnly [.weigh, .exch] s t) ∧
        ChangesOnly [.part, .weigh, .cal, .orders, .exch] s t) ∧
    (s.weigh.jam = .running left loaded → s.weigh.platform = w :: rest → s.part.state = .run →
      (left = 0 →
        ∃ t, exec .jamTimerExpiry s = .next t ∧ stops .platformJam t ∧
          t.exch = aborts (((s.exch.event .platformJam s.weigh.platform.length w.inTag (BitVec.ofNat 32 loaded)).event
            .stateChange 5 4 7).raiseNotice .fault) ∧
          t.weigh.platform = s.weigh.platform ∧ t.weigh.z = s.weigh.z ∧ t.weigh.converter = s.weigh.converter ∧
          ChangesOnly [.part, .weigh, .cal, .orders, .exch] s t) ∧
      (left ≠ 0 → exec .jamTimerExpiry s = .next s))

/-! ## The Weigh Channel and the Calibration Unit -/

/-- A sample is appended to the sample list, which keeps the newest 64, with its time tag and its OVERLOAD mark; the watch is
loaded and the converter LIVE (R1, R2). While zero tracking runs, a sample later than the quiet start by more than settle is
added to the accumulator; the 64th restarts it and, with no OVERLOAD seen, gives the candidate, the sum over 64 rounded with
ties away from zero (R15). A candidate outside the band leaves Z and raises the refusal run up to 65,535, with ZERO_DRIFT when
it becomes 16 (R17). While a zero-set or a calibration averaging is in flight, a sample before its last adds its count to the
sum, one to the number, replaces the least and the greatest count where it lies outside them, and its mark sets OVERLOAD seen;
zero tracking stands still (R19, R22, R26). In CLEARING no sample is taken (R169). -/
def Obligations.ASampleIsRecorded : Prop :=
  ∀ (count : BitVec 24) (cand : Int) (z : ZeroSet) (c : CalAveraging) (s : State),
    let a := s.weigh.acc
    let span := (s.exch.timeTag - a.quietStart).toNat
    let adds := s.weigh.tracking = true ∧ 1 ≤ span ∧ span ≤ 2147483647 ∧ (activeRecipe s).settle < span
    let marked := count = 0x800000#24 ∨ count = 0x7FFFFF#24
    let restarted : ZeroAcc := { a with sum := 0, n := 0, overload := false }
    let recorded := fun (t : State) =>
      ∃ x : Sample, x.count = count.toInt ∧ x.tag = s.exch.timeTag ∧ (x.overload = true ↔ marked) ∧
        t.weigh.samples.getLast? = some x ∧ t.weigh.samples.dropLast = s.weigh.samples.drop (s.weigh.samples.length - 63)
    let gathered := fun (b : Averaging) => ({
      sum := b.sum + count.toInt, n := b.n + 1
      low := some (match b.low with | none => count.toInt | some m => min m count.toInt)
      high := some (match b.high with | none => count.toInt | some m => max m count.toInt)
      overload := b.overload || decide (count = 0x800000#24) || decide (count = 0x7FFFFF#24) } : Averaging)
    (s.part.state = .clearing → exec (.sampleArrival count) s = .next s) ∧
    (s.part.state ≠ .clearing → s.weigh.zeroSet = none → s.cal.averaging = none →
      ∃ t, exec (.sampleArrival count) s = .next t ∧
        recorded t ∧ t.weigh = { s.weigh with
          samples := t.weigh.samples, converter := .live, watch := some 50, acc := t.weigh.acc, z := t.weigh.z
          refusals := t.weigh.refusals } ∧
        (¬adds → t.weigh.acc = a ∧ t.weigh.z = s.weigh.z ∧ t.weigh.refusals = s.weigh.refusals ∧ t.exch = s.exch) ∧
        (adds → a.n + 1 < 64 →
          t.weigh.acc.sum = a.sum + count.toInt ∧ t.weigh.acc.n = a.n + 1 ∧
          (t.weigh.acc.overload = true ↔ a.overload = true ∨ marked) ∧ t.weigh.acc.quietStart = a.quietStart ∧
          t.weigh.z = s.weigh.z ∧ t.weigh.refusals = s.weigh.refusals ∧ t.exch = s.exch) ∧
        (adds → 64 ≤ a.n + 1 →
          t.weigh.acc = restarted ∧
          (a.overload = true ∨ marked → t.weigh.z = s.weigh.z ∧ t.weigh.refusals = s.weigh.refusals ∧ t.exch = s.exch) ∧
          (a.overload = false → ¬marked → NearestAway (a.sum + count.toInt) 64 cand →
            t.weigh.z = (takeCandidate cand s).weigh.z ∧ t.weigh.refusals = (takeCandidate cand s).weigh.refusals ∧
            t.exch = (takeCandidate cand s).exch)) ∧
        ChangesOnly [.weigh, .exch] s t) ∧
    (s.part.state ≠ .clearing → s.weigh.tracking = false → s.weigh.zeroSet = some z → s.cal.averaging = none →
      z.avg.n + 1 < 64 →
      ∃ t, exec (.sampleArrival count) s = .next t ∧ recorded t ∧
        t.weigh = { s.weigh with
          samples := t.weigh.samples, converter := .live, watch := some 50
          zeroSet := some { z with avg := gathered z.avg } } ∧
        ChangesOnly [.weigh] s t) ∧
    (s.part.state ≠ .clearing → s.weigh.tracking = false → s.weigh.zeroSet = none → s.cal.averaging = some c →
      c.avg.n + 1 < 256 →
      ∃ t, exec (.sampleArrival count) s = .next t ∧ recorded t ∧
        t.weigh = { s.weigh with samples := t.weigh.samples, converter := .live, watch := some 50 } ∧
        t.cal = { s.cal with averaging := some { c with avg := gathered c.avg } } ∧ ChangesOnly [.weigh, .cal] s t) ∧
    ((activeRecipe s).zeroBand < (cand - s.weigh.z).natAbs →
      let t := takeCandidate cand s
      t.weigh = { s.weigh with refusals := if 65535 ≤ s.weigh.refusals then 65535 else s.weigh.refusals + 1 } ∧
      t.exch = (if s.weigh.refusals = 15 then
        s.exch.event .zeroDrift 16 (BitVec.ofInt 32 cand) (BitVec.ofInt 32 s.weigh.z) else s.exch) ∧
      ChangesOnly [.weigh, .exch] s t)

/-- A candidate within the band moves Z by an eighth of the difference, truncated toward zero and clamped to Zc ± zero_limit; a
clamp raises ZERO_CLAMPED with its bound, the value before and the new Z; the refusal run is 0 (R16). -/
def Obligations.ACandidateWithinTheBandMovesZ : Prop :=
  ∀ (cand : Int) (s : State), (cand - s.weigh.z).natAbs ≤ (activeRecipe s).zeroBand →
    let before := s.weigh.z + Int.tdiv (cand - s.weigh.z) 8
    let low := s.cal.zc - s.cal.zeroLimit
    let high := s.cal.zc + s.cal.zeroLimit
    let t := takeCandidate cand s
    t.weigh.refusals = 0 ∧
    (low ≤ before → before ≤ high → t.weigh.z = before ∧ t.exch = s.exch) ∧
    (high < before → t.weigh.z = high ∧
      t.exch = s.exch.event .zeroClamped 1 (BitVec.ofInt 32 before) (BitVec.ofInt 32 high)) ∧
    (before < low → t.weigh.z = low ∧
      t.exch = s.exch.event .zeroClamped 2 (BitVec.ofInt 32 before) (BitVec.ofInt 32 low)) ∧
    t.weigh = { s.weigh with z := t.weigh.z, refusals := 0 } ∧ ChangesOnly [.weigh, .exch] s t

/-- The 64th sample of a zero-set averaging completes it, its count and mark taken in with the others: the first check that
fails gives the refusal and its detail, else Z becomes the mean, the sum over 64 rounded to nearest with ties away from zero,
and the order is DONE with it; the averaging is removed either way (R21). -/
def Obligations.AZeroSetCompletes : Prop :=
  ∀ (count : BitVec 24) (cand : Int) (z : ZeroSet) (s : State), s.part.state ≠ .clearing → s.weigh.zeroSet = some z →
    z.avg.n = 63 → s.weigh.tracking = false → s.cal.averaging = none → NearestAway (z.avg.sum + count.toInt) 64 cand →
    let overload := z.avg.overload = true ∨ count = 0x800000#24 ∨ count = 0x7FFFFF#24
    let low := match z.avg.low with | none => count.toInt | some m => min m count.toInt
    let high := match z.avg.high with | none => count.toInt | some m => max m count.toInt
    let spread : Int := high - low
    let away := (cand - s.cal.zc).natAbs
    ∃ t, exec (.sampleArrival count) s = .next t ∧ t.weigh.zeroSet = none ∧
      t.orders.taken = s.orders.taken.filter (fun x => decide (x.1 ≠ z.slot)) ∧
      (overload → t.weigh.z = s.weigh.z ∧ t.exch = s.exch.finishSlot z.slot .range 0) ∧
      (¬overload → (activeRecipe s).stability < spread →
        t.weigh.z = s.weigh.z ∧ t.exch = s.exch.finishSlot z.slot .unstable (BitVec.ofInt 32 spread)) ∧
      (¬overload → spread ≤ (activeRecipe s).stability → s.cal.zeroLimit < away →
        t.weigh.z = s.weigh.z ∧ t.exch = s.exch.finishSlot z.slot .range (BitVec.ofNat 32 away)) ∧
      (¬overload → spread ≤ (activeRecipe s).stability → away ≤ s.cal.zeroLimit →
        t.weigh.z = cand ∧ t.weigh.refusals = 0 ∧ t.exch = s.exch.finishSlot z.slot .done (BitVec.ofInt 32 cand)) ∧
      ChangesOnly [.weigh, .orders, .exch] s t

/-- The 256th sample of a calibration averaging completes it, its count and mark taken in with the others; the mean is the sum
over 256 and the span factor the test mass times 65,536 over the mean less Z, each rounded to nearest with ties away from zero.
The first check that fails finishes the order RANGE or UNSTABLE with its detail and sets nothing; else CAL_ZERO sets zero, limit
and Z, and the first makes the state ZERO_ONLY, and CAL_SPAN sets the span factor and makes it VALID. The change count,
CAL_CHANGED and the store write with the record of the values now in force follow, the order staying held (R28 to R32). The
first CAL_SPAN in CONFIG with an ACTIVE recipe makes the part ready: it leaves for the state LINE_RUN gives (R171). That its
STATE_CHANGE stands before CAL_CHANGED is the model's choice (log 15). -/
def Obligations.ACalibrationCompletes : Prop :=
  ∀ (count : BitVec 24) (mean span : Int) (c : CalAveraging) (slot : Slot) (s : State), s.part.state ≠ .clearing →
    s.cal.averaging = some c → c.avg.n = 255 → s.cal.held = some slot → s.weigh.tracking = false → s.weigh.zeroSet = none →
    NearestAway (c.avg.sum + count.toInt) 256 mean →
    let overload := c.avg.overload = true ∨ count = 0x800000#24 ∨ count = 0x7FFFFF#24
    let low := match c.avg.low with | none => count.toInt | some m => min m count.toInt
    let high := match c.avg.high with | none => count.toInt | some m => max m count.toInt
    let spread : Int := high - low
    let d := mean - s.weigh.z
    let spans := c.kind = .span ∧ 1000 ≤ d ∧ NearestAway (c.arg * 65536) d.toNat span
    let limit : Nat := match s.recipes.active with | none => 2000 | some r => r.stability
    let steady := ¬overload ∧ spread ≤ limit
    let line : PartState := if s.pins.lineRun then .run else .stopped
    let refused := fun (o : Outcome) (detail : Word) =>
      ∃ t, exec (.sampleArrival count) s = .next t ∧ t.cal = { s.cal with averaging := none, held := none } ∧
        t.weigh.z = s.weigh.z ∧ t.weigh.refusals = s.weigh.refusals ∧ t.exch = s.exch.finishSlot slot o detail ∧
        t.orders = { s.orders with taken := s.orders.taken.filter (fun x => decide (x.1 ≠ slot)) } ∧
        ChangesOnly [.weigh, .cal, .orders, .exch] s t
    let counted := fun (e : Exchange) (t : State) (kind : Nat) =>
      t.cal.changeCount = (if 4294967295 ≤ s.cal.changeCount then 4294967295 else s.cal.changeCount + 1) ∧
      t.cal.store = .writing 200 (storeRecord t.cal) ∧ t.cal.averaging = none ∧ t.cal.held = s.cal.held ∧
      t.cal.lastWrite = s.cal.lastWrite ∧ t.exch = e.event .calChanged kind (BitVec.ofNat 32 t.cal.changeCount) 0
    (overload → refused .range 0) ∧
    (¬overload → limit < spread → refused .unstable (BitVec.ofInt 32 spread)) ∧
    (steady → c.kind = .zero →
      ∃ t, exec (.sampleArrival count) s = .next t ∧ counted s.exch t 4 ∧ t.cal.zc = mean ∧ t.weigh.z = mean ∧
        t.weigh.refusals = 0 ∧ t.cal.zeroLimit = c.arg ∧ t.cal.f = s.cal.f ∧
        t.cal.state = (if s.cal.state = .none then .zeroOnly else s.cal.state) ∧ ChangesOnly [.weigh, .cal, .exch] s t) ∧
    (steady → c.kind = .span → d < 1000 → refused .range (BitVec.ofInt 32 d)) ∧
    (steady → spans → span < 1 ∨ 4194303 < span → refused .range (BitVec.ofInt 32 span)) ∧
    (steady → spans → 1 ≤ span → span ≤ 4194303 →
      let leaves := s.cal.state ≠ .valid ∧ s.part.state = .config ∧ s.recipes.active.isSome = true
      ∃ t, exec (.sampleArrival count) s = .next t ∧ t.cal.f = span.toNat ∧ t.cal.zc = s.cal.zc ∧
        t.weigh.z = s.weigh.z ∧ t.weigh.refusals = s.weigh.refusals ∧ t.cal.zeroLimit = s.cal.zeroLimit ∧
        t.cal.state = .valid ∧
        (leaves → t.part = { s.part with state := line } ∧ counted (s.exch.event .stateChange line.code 2 3) t 5) ∧
        (¬leaves → t.part = s.part ∧ counted s.exch t 5) ∧ ChangesOnly [.part, .weigh, .cal, .exch] s t)

/-- A store write ends by the comparison or by the timer: SAVED with the order DONE, or FAILED with STORE_FAIL and the order
DONE_UNSAVED; with no order held only the store state, the outcome and the event follow (R32, R33). -/
def Obligations.AStoreWriteEnds : Prop :=
  ∀ (readBack record : List Byte) (left : Nat) (s : State), s.cal.store = .writing left record →
    let n := BitVec.ofNat 32 s.cal.changeCount
    let ends := fun (e : Exchange) (o : Outcome) (w : LastWrite) (t : State) =>
      t.cal = { s.cal with store := .idle, lastWrite := w, held := none } ∧
      (∀ slot, s.cal.held = some slot → t.exch = e.finishSlot slot o n ∧
        t.orders = { s.orders with taken := s.orders.taken.filter (fun x => decide (x.1 ≠ slot)) }) ∧
      (s.cal.held = none → t.exch = e ∧ t.orders = s.orders) ∧ ChangesOnly [.cal, .orders, .exch] s t
    (readBack = record → ∃ t, exec (.storeWriteCompared readBack) s = .next t ∧ ends s.exch .done .saved t) ∧
    (readBack ≠ record → ∃ t, exec (.storeWriteCompared readBack) s = .next t ∧
      ends (s.exch.event .storeFail 1 n 0) .doneUnsaved .failed t) ∧
    (left = 0 → ∃ t, exec .storeTimerExpiry s = .next t ∧ ends (s.exch.event .storeFail 2 n 0) .doneUnsaved .failed t)

/-- A PLATFORM_IN is refused with EYE_SEQUENCE when four weighings are open, and that it then leaves a CAL_SPAN averaging in
flight alone is the model's choice (log 30); else it opens a weighing with its tag, marks every weighing DOUBLE on an occupied
platform, loads the jam timer in RUN on an empty one, and moves the oldest READ entry to ON_PLATFORM (R5, R8, R50). -/
def Obligations.PlatformInOpensAWeighing : Prop :=
  ∀ (e : Entry) (s : State), s.takesCans = true →
    (4 ≤ s.weigh.platform.length →
      ∃ t, exec .platformInArrival s = .next t ∧ t.exch = s.exch.event .eyeSequence 2 s.exch.timeTag 0 ∧
        ChangesOnly [.exch] s t) ∧
    (s.weigh.platform.length < 4 → s.weigh.zeroSet = none → s.cal.averaging = none → oldestOf .read s = some e →
      ∃ t, exec .platformInArrival s = .next t ∧
        (s.weigh.platform = [] →
          t.weigh.platform = [{ inTag := s.exch.timeTag, double := false, interrupted := false }] ∧
          t.weigh.jam = (if s.part.state = .run then
            .running ((activeRecipe s).maxDwell * 10) (activeRecipe s).maxDwell else s.weigh.jam)) ∧
        (s.weigh.platform ≠ [] →
          t.weigh.platform = s.weigh.platform.map (fun w => { w with double := true })
            ++ [{ inTag := s.exch.timeTag, double := true, interrupted := false }] ∧
          t.weigh.jam = s.weigh.jam) ∧
        t.weigh.tracking = false ∧ t.weigh.acc.n = 0 ∧ t.weigh.acc.sum = 0 ∧ t.weigh.z = s.weigh.z ∧
        t.weigh.samples = s.weigh.samples ∧
        t.track = { s.track with entries := s.track.entries.map (fun x =>
          if x.serial = e.serial then { e with stage := .onPlatform } else x) } ∧
        ChangesOnly [.weigh, .track] s t)

/-- A PLATFORM_IN that finds no READ entry gets an entry all the same: an unbound pending read binds to the oldest TRANSIT
entry, which goes to the platform with its read open, or to a new UNTRACKED entry (R51); with no unbound pending read a new
UNTRACKED entry is taken as NO_READ (R52). The new entry stands after every entry on the platform or past it. In a full track
room is made first: the oldest TRANSIT entry, or else the oldest that is not ON_PLATFORM, leaves as DROPPED with TRACK_FULL 3
(R42). -/
def Obligations.ACanWithoutAReadGetsAnEntry : Prop :=
  ∀ (e v : Entry) (before after : List PendingRead) (p : PendingRead) (s : State), s.weigh.platform.length < 4 →
    oldestOf .read s = none →
    let u := makeRoom s
    let serial := u.track.nextSerial
    let held := fun (x : Entry) => decide (x.stage ≠ .read ∧ x.stage ≠ .transit)
    let blank : Entry := {
      serial := serial, origin := .untracked, valve := none, generation := none, genKnown := none, recipe := .active
      stage := .onPlatform, attribution := none, read := none, readOpen := false, weighing := none, net := none, zone := none
      decision := none, reasons := 0, countedLot := none, dischargeTag := none, outTag := none, deadline := none }
    let creates := fun (n : Entry) (reads : List PendingRead) (why : Nat) => ∃ t, exec .platformInArrival s = .next t ∧
      t.track = {
        entries := u.track.entries.takeWhile held ++ n :: u.track.entries.dropWhile held, reads := reads
        nextSerial := if 4294967295 ≤ serial then 1 else serial + 1 } ∧
      t.exch = u.exch.event .untrackedCan why (BitVec.ofNat 32 serial) 0 ∧
      t.weigh.platform.length = s.weigh.platform.length + 1 ∧ ChangesOnly [.weigh, .track, .recipes, .orders, .exch] s t
    (s.takesCans = true → s.weigh.zeroSet = none → s.cal.averaging = none →
      (s.track.reads = before ++ p :: after → (∀ q ∈ before, q.bound ≠ none) → p.bound = none →
        (oldestOf .transit s = some e →
          ∃ t, exec .platformInArrival s = .next t ∧
            t.track = { s.track with
              entries := s.track.entries.map (fun x => if x.serial = e.serial then
                { e with stage := .onPlatform, attribution := some .positional, readOpen := true } else x)
              reads := before ++ { p with bound := some e.serial } :: after } ∧
            t.weigh.platform.length = s.weigh.platform.length + 1 ∧ ChangesOnly [.weigh, .track] s t) ∧
        (oldestOf .transit s = none →
          creates { blank with attribution := some .positional, readOpen := true }
            (before ++ { p with bound := some serial } :: after) 2)) ∧
      ((∀ q ∈ s.track.reads, q.bound ≠ none) → creates { blank with read := some .noRead } s.track.reads 1)) ∧
    (s.track.entries.length < 256 → u = s) ∧
    (256 ≤ s.track.entries.length → oldestOf .transit s = some v ∨
        (oldestOf .transit s = none ∧ s.track.entries.find? (fun x => decide (x.stage ≠ .onPlatform)) = some v) →
      u.track = { s.track with entries := s.track.entries.eraseP (fun x => decide (x.serial = v.serial)) } ∧
      (s.recipes.retiring = none →
        u.exch = (s.exch.logRecord (logWords v .dropped)).event .trackFull 3 (BitVec.ofNat 32 v.serial)
          (BitVec.ofNat 32 s.track.nextSerial) ∧ ChangesOnly [.track, .exch] s u) ∧
      ChangesOnly [.track, .recipes, .orders, .exch] s u)

/-- A PLATFORM_OUT is refused with EYE_SEQUENCE on an empty platform; else the oldest weighing closes and its result, net and
zone go with the time tag to the oldest ON_PLATFORM entry, which moves to WEIGHED and, with its read closed and no decision yet,
is decided, as the statement of the decision says; every other entry stays (R6, R54, R55). A platform that empties stops the jam
timer and sets the quiet start, and zero tracking runs where its other conditions hold (R6, R14). -/
def Obligations.PlatformOutClosesAWeighing : Prop :=
  ∀ (w : Weighing) (rest : List Weighing) (e : Entry) (s : State), s.takesCans = true →
    (s.weigh.platform = [] →
      ∃ t, exec .platformOutArrival s = .next t ∧ t.exch = s.exch.event .eyeSequence 1 s.exch.timeTag 0 ∧
        ChangesOnly [.exch] s t) ∧
    (s.weigh.platform = w :: rest → oldestOf .onPlatform s = some e →
      let res := weighResult (activeRecipe s) s.weigh.z s.cal.f w
        (windowOf (activeRecipe s) w.inTag s.exch.timeTag s.weigh.samples)
      let net := netOf (recipeOf s e.recipe) res
      let e' := { e with
        stage := .weighed, weighing := some res, net := net, zone := net.map (zoneOf (recipeOf s e.recipe))
        outTag := some s.exch.timeTag }
      let w0 := s.weigh
      ∃ t u, exec .platformOutArrival s = .next t ∧
        (e.readOpen = true ∨ e.decision ≠ none → t = u) ∧ (e.readOpen = false → e.decision = none → t = decideEntry 0 e' u) ∧
        u.track = { s.track with entries := s.track.entries.map (fun x => if x.serial = e.serial then e' else x) } ∧
        (rest ≠ [] → u.weigh = { w0 with platform := rest }) ∧
        (rest = [] →
          u.weigh = { w0 with platform := [], jam := .stopped, tracking := u.weigh.tracking, acc := u.weigh.acc } ∧
          u.weigh.acc.quietStart = s.exch.timeTag ∧
          (w0.tracking = false → u.weigh.acc = { sum := 0, n := 0, overload := false, quietStart := s.exch.timeTag }) ∧
          (u.weigh.tracking = true ↔ s.cal.state = .valid ∧ (s.part.state = .stopped ∨ s.part.state = .run) ∧
            w0.zeroSet = none ∧ s.cal.averaging = none)) ∧
        ChangesOnly [.weigh, .track] s u ∧ t.weigh = u.weigh ∧
        (e.readOpen = false → e.decision = none →
          ∃ x ∈ t.track.entries, x.decision.isSome = true ∧
            x = { e' with decision := x.decision, reasons := x.reasons, countedLot := x.countedLot }) ∧
        ChangesOnly [.weigh, .track, .valves, .dose, .recipes, .exch] s t)

/-- The window of a weighing holds exactly the samples whose span lies in settle..D − guard, and none when D is below settle +
guard (R10); its weigh fault is the first test of R11 that fails; a gross mass gives the net and the zone of R13's table, a
weigh fault neither. -/
def Obligations.AWeighingIsJudgedInOrder : Prop :=
  ∀ (r : Recipe) (inTag outTag : Word) (z : Int) (f : Nat) (w : Weighing) (l : List Sample)
    (mg : Nat),
    let d := (outTag - inTag).toNat
    let win := windowOf r inTag outTag l
    let spread := ∃ x ∈ win, ∃ y ∈ win, (r.stability : Int) < x.count - y.count
    let overload := ∃ x ∈ win, x.overload = true
    (∀ x, x ∈ win ↔ x ∈ l ∧ r.settle + r.guard ≤ d ∧ r.settle ≤ (x.tag - inTag).toNat ∧
      (x.tag - inTag).toNat ≤ d - r.guard) ∧
    (w.double = true → weighResult r z f w win = .fault .double) ∧
    (w.double = false → win.length < r.minSamples → weighResult r z f w win = .fault .short) ∧
    (w.double = false → r.minSamples ≤ win.length → overload → weighResult r z f w win = .fault .range) ∧
    (w.double = false → r.minSamples ≤ win.length → ¬overload → spread → weighResult r z f w win = .fault .unstable) ∧
    (w.double = false → r.minSamples ≤ win.length → ¬overload → ¬spread → w.interrupted = true →
      weighResult r z f w win = .fault .interrupted) ∧
    (r.softDev < r.hardDev →
      let net : Int := mg - r.containerTare
      netOf r (.gross mg) = some net ∧ (∀ k, netOf r (.fault k) = none) ∧
      (zoneOf r net = .hardLow ↔ net < r.nominal - r.hardDev) ∧
      (zoneOf r net = .softLow ↔ 0 < r.softDev ∧ (r.nominal : Int) - r.hardDev ≤ net ∧ net < r.nominal - r.softDev) ∧
      (zoneOf r net = .over ↔ (r.nominal : Int) + r.overDev ≤ net))

/-- A weighing that passes the tests of R11 gets its gross mass from the mean, rounded to nearest with ties away from zero, less
Z, times F over 65,536, rounded the same way; outside 0..2,000,000 the result is WEIGH_RANGE, and a weigh fault is logged with
gross 0 (R12). -/
def Obligations.TheGrossMassIsFormedExactly : Prop :=
  ∀ (r : Recipe) (z : Int) (f : Nat) (w : Weighing) (win : List Sample),
    w.double = false → w.interrupted = false → 1 ≤ r.minSamples → r.minSamples ≤ win.length →
    (∀ x ∈ win, x.overload = false) → (∀ x ∈ win, ∀ y ∈ win, x.count - y.count ≤ r.stability) →
    ∃ mean gross : Int, NearestAway (win.map (·.count)).sum win.length mean ∧ NearestAway ((mean - z) * f) 65536 gross ∧
      (0 ≤ gross ∧ gross ≤ 2000000 → weighResult r z f w win = .gross gross.toNat) ∧
      (¬(0 ≤ gross ∧ gross ≤ 2000000) → weighResult r z f w win = .fault .range) ∧
      (∀ (e : Entry) (d : Disposition) (k : WeighFault), e.weighing = some (.fault k) → (logWords e d).getD 3 0 = 0)

/-! ## The Can Track -/

/-- In CLEARING, LOADING and CONFIG the arrivals of the line do nothing, but for a PLATFORM_IN in CONFIG (R4, R39, R96, R137);
in CLEARING no character is received, and in LOADING and CONFIG a message, a frame and a damage change the assembler of their
link alone (R71, R82). -/
def Obligations.ArrivalsOutsideProductionAreIgnored : Prop :=
  ∀ (b : Byte) (brk : Bool) (c : LineChar) (s : State),
    s.part.state = .clearing ∨ s.part.state = .loading ∨ s.part.state = .config →
    exec .readerEyeArrival s = .next s ∧ exec .platformOutArrival s = .next s ∧ exec .rejectEyeArrival s = .next s ∧
    exec .confirmEyeArrival s = .next s ∧ exec .fillerIndexArrival s = .next s ∧
    (s.part.state ≠ .config → exec .platformInArrival s = .next s) ∧
    (s.part.state = .clearing →
      ∀ i ∈ [Instr.readerCharacter b, .readerOverlong b, .readerMessage, .readerFramingError brk, .fillerCharacter b,
        .fillerBufferOverrun b, .dischargeFrame b, .doseAckFrame b, .badFrameCompleted b, .fillerErroredCharacter c],
        exec i s = .next s) ∧
    (s.part.state ≠ .clearing →
      (∃ t, exec .readerMessage s = .next t ∧ (s.reader.receiver ≠ .heldLow → t.reader = { s.reader with asm := .idle }) ∧
        ChangesOnly [.reader] s t) ∧
      (∃ t, exec (.readerFramingError brk) s = .next t ∧
        (s.reader.receiver ≠ .heldLow → t.reader.receiver = if brk then .heldLow else .waiting) ∧
        ChangesOnly [.reader] s t) ∧
      (∀ i ∈ [Instr.dischargeFrame b, .doseAckFrame b, .badFrameCompleted b, .fillerErroredCharacter c],
        ∃ t, exec i s = .next t ∧
          (s.filler.receiver ≠ .heldLow → s.filler.asm = .check → t.filler.asm = .hunt ∧ t.filler.gap = none) ∧
          ChangesOnly [.filler] s t))

/-- A READER_EYE arrival appends an unbound pending read with its tag and read_timeout × 10 units, after resolving the oldest of
eight as NO_READ with READ_LIST_FULL (R43). With LINE_RUN high the oldest pending read whose deadline is 0 is resolved as
NO_READ: an unbound one binds by position, the oldest TRANSIT entry or a new UNTRACKED entry after every READ entry and before
the first TRANSIT one (R45, R48); a bound one completes its entry late, which keeps its attribution and is decided where it is
WEIGHED and undecided, as the statement of the decision says, and with the entry gone nothing more changes (R53, R55). With
LINE_RUN low no deadline expires (R57). That the command acts on the oldest of several is the model's choice (log 29). -/
def Obligations.PendingReadsComeAndExpire : Prop :=
  ∀ (before after rest : List PendingRead) (p : PendingRead) (e : Entry) (serial : Nat) (s : State),
    let u := makeRoom s
    let read := fun (x : Entry) => decide (x.stage ≠ .transit)
    let new : PendingRead := { eyeTag := s.exch.timeTag, left := (activeRecipe s).readTimeout * 10, bound := none }
    (s.takesCans = true → s.track.reads.length < 8 →
      ∃ t, exec .readerEyeArrival s = .next t ∧ t.track = { s.track with reads := s.track.reads ++ [new] } ∧
        ChangesOnly [.track] s t) ∧
    (s.takesCans = true → s.track.reads = p :: rest → rest.length = 7 → p.bound = none → oldestOf .transit s = some e →
      ∃ t, exec .readerEyeArrival s = .next t ∧ t.track.reads = rest ++ [new] ∧
        t.track.nextSerial = s.track.nextSerial ∧
        t.track.entries = s.track.entries.map (fun x => if x.serial = e.serial then
          { e with stage := .read, attribution := some .positional, read := some .noRead, readOpen := false } else x) ∧
        t.exch = s.exch.event .readListFull 0 p.eyeTag (BitVec.ofNat 32 e.serial) ∧ ChangesOnly [.track, .exch] s t) ∧
    (s.pins.lineRun = false → exec .readDeadlineExpiry s = .next s) ∧
    (s.pins.lineRun = true → s.track.reads = before ++ p :: after → (∀ q ∈ before, q.left ≠ 0) → p.left = 0 →
      (p.bound = none → oldestOf .transit s = some e →
        ∃ t, exec .readDeadlineExpiry s = .next t ∧ t.track.reads = before ++ after ∧
          t.track.entries = s.track.entries.map (fun x => if x.serial = e.serial then
            { e with stage := .read, attribution := some .positional, read := some .noRead, readOpen := false } else x) ∧
          t.track.nextSerial = s.track.nextSerial ∧ ChangesOnly [.track] s t) ∧
      (p.bound = none → oldestOf .transit s = none →
        ∃ t n, exec .readDeadlineExpiry s = .next t ∧ t.track.reads = before ++ after ∧
          t.track.entries = u.track.entries.takeWhile read ++ n :: u.track.entries.dropWhile read ∧
          n.serial = s.track.nextSerial ∧ n.origin = .untracked ∧ n.stage = .read ∧ n.recipe = .active ∧
          n.attribution = some .positional ∧ n.read = some .noRead ∧
          n.valve = none ∧ n.generation = none ∧ n.readOpen = false ∧
          n.weighing = none ∧ n.decision = none ∧ t.track.nextSerial = nextNumber s.track.nextSerial ∧
          t.exch = u.exch.event .untrackedCan 3 (BitVec.ofNat 32 s.track.nextSerial) 0 ∧
          ChangesOnly [.track, .recipes, .orders, .exch] s t) ∧
      (p.bound = some serial → entryOf serial s = none →
        ∃ t, exec .readDeadlineExpiry s = .next t ∧ t.track = { s.track with reads := before ++ after } ∧
          ChangesOnly [.track] s t) ∧
      (p.bound = some serial → entryOf serial s = some e → e.weighing = none ∨ e.decision ≠ none →
        ∃ t, exec .readDeadlineExpiry s = .next t ∧
          t.track = { s.track with
            reads := before ++ after
            entries := s.track.entries.map (fun x => if x.serial = serial then
              { e with read := some .noRead, readOpen := false } else x) } ∧
          ChangesOnly [.track] s t) ∧
      (p.bound = some serial → entryOf serial s = some e → e.stage = .weighed → e.weighing ≠ none → e.decision = none →
        let late := { e with read := some .noRead, readOpen := false }
        let b := { s with track := { s.track with
          reads := before ++ after, entries := s.track.entries.map (fun x => if x.serial = serial then late else x) } }
        ∃ t, exec .readDeadlineExpiry s = .next t ∧ t = decideEntry 0 late b ∧ t.track.reads = before ++ after ∧
          (∃ x ∈ t.track.entries, x.decision.isSome = true ∧
            x = { late with decision := x.decision, reasons := x.reasons, countedLot := x.countedLot }) ∧
          ChangesOnly [.track, .valves, .dose, .recipes, .exch] s t))

/-- A code message answers the oldest pending read: the first entry of the 32 oldest in TRANSIT that bears its mark is bound
EXACT, and the TRANSIT entries before it leave as LOST_IN_TRANSIT, each with its log record, with one event (R46, R49, R59,
R71). -/
def Obligations.ACodeBindsByItsMark : Prop :=
  ∀ (buffer text : List Byte) (mark : Nat) (g : Grade) (p : PendingRead) (rest : List PendingRead)
    (lost after : List Entry) (e : Entry) (s : State), s.takesCans = true → s.reader.receiver ≠ .heldLow →
    s.reader.asm = .collecting buffer → buffer ≠ [0x23#8] → parseCode buffer = .ok (.code text mark g) →
    s.track.reads = p :: rest → p.bound = none →
    s.track.entries.filter (fun x => decide (x.stage = .transit)) = lost ++ e :: after → lost.length < 32 →
    (∀ x ∈ lost, x.serial % 1000 ≠ mark) → e.serial % 1000 = mark → (s.track.entries.map (·.serial)).Nodup →
    s.recipes.retiring = none → e.recipe = .active →
    ∃ t, exec .readerMessage s = .next t ∧ t.reader = { s.reader with asm := .idle } ∧ t.track.reads = rest ∧
      t.track.nextSerial = s.track.nextSerial ∧
      t.track.entries = (s.track.entries.filter (fun x => decide (x ∉ lost))).map (fun x => if x.serial = e.serial then
        { e with
          stage := .read, attribution := some .exact, readOpen := false
          read := some (.code (decide (text = (activeRecipe s).lotText)) mark g) } else x) ∧
      t.exch = (match lost with
        | [] => s.exch
        | x :: _ => (lost.foldl (fun m y => m.logRecord (logWords y .lostInTransit)) s.exch).event .lostInTransit
            lost.length (BitVec.ofNat 32 x.serial) (BitVec.ofNat 32 e.serial)) ∧
      ChangesOnly [.reader, .track, .exch] s t

/-- A code that no entry of the 32 oldest in TRANSIT bears creates an UNMATCHED entry, after every READ entry and before the
first TRANSIT one, with MARK_UNMATCHED, room being made in a full track (R47, R49, R42). A code that answers a bound pending
read completes its entry late: EXACT where it bears the entry's mark, else MISMATCH, its read closed, and a WEIGHED undecided
entry decided, as the statement of the decision says; with the entry gone nothing more changes (R44, R53, R55). -/
def Obligations.ACodeWithoutAMatchOrLate : Prop :=
  ∀ (buffer text : List Byte) (mark serial : Nat) (g : Grade) (p : PendingRead) (rest : List PendingRead) (e : Entry)
    (s : State), s.takesCans = true → s.reader.receiver ≠ .heldLow → s.reader.asm = .collecting buffer →
    buffer ≠ [0x23#8] → parseCode buffer = .ok (.code text mark g) → s.track.reads = p :: rest →
    let u := makeRoom s
    let read := fun (x : Entry) => decide (x.stage ≠ .transit)
    let transit := s.track.entries.filter (fun x => decide (x.stage = .transit))
    let answers := fun (t : State) => t.reader = { s.reader with asm := .idle } ∧ t.track.reads = rest
    let attribution : Attribution := if e.origin = .filler ∧ serial % 1000 = mark then .exact else .mismatch
    let result : ReadResult := .code (decide (text = (recipeOf s e.recipe).lotText)) mark g
    (p.bound = none → (∀ x ∈ transit.take 32, x.serial % 1000 ≠ mark) →
      ∃ t n, exec .readerMessage s = .next t ∧ answers t ∧ (s.track.entries.length < 256 → u = s) ∧
        t.track.nextSerial = nextNumber s.track.nextSerial ∧
        t.track.entries = u.track.entries.takeWhile read ++ n :: u.track.entries.dropWhile read ∧
        n.serial = s.track.nextSerial ∧ n.origin = .unmatched ∧ n.stage = .read ∧ n.recipe = .active ∧
        n.attribution = some .mismatch ∧
        n.read = some (.code (decide (text = (activeRecipe s).lotText)) mark g) ∧ n.readOpen = false ∧
        n.valve = none ∧ n.generation = none ∧ n.genKnown = none ∧ n.weighing = none ∧ n.decision = none ∧
        t.exch = u.exch.event .markUnmatched mark (BitVec.ofNat 32 s.track.nextSerial)
          (BitVec.ofNat 32 (min 32 transit.length)) ∧
        ChangesOnly [.reader, .track, .recipes, .orders, .exch] s t) ∧
    (p.bound = some serial → entryOf serial s = none →
      ∃ t, exec .readerMessage s = .next t ∧ answers t ∧ t.track = { s.track with reads := rest } ∧
        ChangesOnly [.reader, .track] s t) ∧
    (p.bound = some serial → entryOf serial s = some e → e.weighing = none ∨ e.decision ≠ none →
      ∃ t, exec .readerMessage s = .next t ∧ answers t ∧ t.track.nextSerial = s.track.nextSerial ∧
        t.track.entries = s.track.entries.map (fun x => if x.serial = serial then
          { e with attribution := some attribution, read := some result, readOpen := false } else x) ∧
        ChangesOnly [.reader, .track] s t) ∧
    (p.bound = some serial → entryOf serial s = some e → e.stage = .weighed → e.weighing ≠ none →
      e.decision = none →
      let late := { e with attribution := some attribution, read := some result, readOpen := false }
      let b := { s with
        reader := { s.reader with asm := .idle }
        track := { s.track with
          reads := rest, entries := s.track.entries.map (fun x => if x.serial = serial then late else x) } }
      ∃ t, exec .readerMessage s = .next t ∧ t = decideEntry 0 late b ∧ answers t ∧
        t.track.nextSerial = s.track.nextSerial ∧
        (∃ x ∈ t.track.entries, x.decision.isSome = true ∧
          x = { late with decision := x.decision, reasons := x.reasons, countedLot := x.countedLot }) ∧
        ChangesOnly [.reader, .track, .valves, .dose, .recipes, .exch] s t)

/-! ## The reader link -/

/-- The reader link's assembler: a character other than CR and LF opens or extends the message up to 40, the 41st makes it
overlong and further ones are skipped; a framing error discards it, with READER_CHAR_ERROR once in a spell (R64, R66, R67, R63).
A CR in IDLE changes nothing; a no-code, damaged, overlong or garbled message each yields one NO_READ, after CODE_GARBLED for an
overlong or garbled one (R65 to R68, R70, R71). On an empty pending read list it raises CODE_UNSOLICITED; else it resolves the
oldest pending read as its deadline would resolve it, an unbound one by position with the oldest TRANSIT entry (R44, R45, R48,
R53). The end of a break lets the receiver wait for a character again (R63). -/
def Obligations.TheReaderAssemblesAMessage : Prop :=
  ∀ (c : Byte) (brk reported : Bool) (buffer : List Byte) (d : Damage) (step : Nat) (p : PendingRead)
    (rest : List PendingRead) (x : Entry) (s : State),
    let always := fun (ends : Exchange → Prop) =>
      (s.reader.asm = .collecting [0x23#8] → ends s.exch) ∧ (s.reader.asm = .skipping .charError reported → ends s.exch) ∧
      (s.reader.asm = .skipping .overlong reported → ends (s.exch.event .codeGarbled 2 0 41)) ∧
      (s.reader.asm = .collecting buffer → buffer ≠ [0x23#8] → parseCode buffer = .error step →
        ends (s.exch.event .codeGarbled 1 (BitVec.ofNat 32 step) (BitVec.ofNat 32 buffer.length)))
    (s.reader.receiver = .heldLow → ∃ t, exec (.breakEnd .reader) s = .next t ∧
      t.reader = { s.reader with receiver := .waiting } ∧ ChangesOnly [.reader] s t) ∧
    (s.takesCans = true → s.reader.receiver ≠ .heldLow → c ≠ 0x0D#8 → c ≠ 0x0A#8 →
      let asmIs := fun (a : ReaderAsm) (t : State) => t.reader = { s.reader with asm := a } ∧ ChangesOnly [.reader] s t
      let damaged := fun (a : ReaderAsm) (arg0 n : Nat) (t : State) =>
        t.reader = { s.reader with receiver := if brk then .heldLow else .waiting, asm := a } ∧
        t.exch = s.exch.event .readerCharError arg0 (BitVec.ofNat 32 n) 0 ∧ ChangesOnly [.reader, .exch] s t
      exec (.readerCharacter 0x0A#8) s = .next s ∧
      (s.reader.asm = .idle →
        (∃ t, exec (.readerCharacter c) s = .next t ∧ asmIs (.collecting [c]) t) ∧
        (∃ t, exec (.readerFramingError brk) s = .next t ∧ damaged (.skipping .charError true) 0 0 t)) ∧
      (s.reader.asm = .collecting buffer →
        (buffer.length < 40 → ∃ t, exec (.readerCharacter c) s = .next t ∧ asmIs (.collecting (buffer ++ [c])) t) ∧
        (buffer.length = 40 → ∃ t, exec (.readerOverlong c) s = .next t ∧ asmIs (.skipping .overlong false) t) ∧
        (∃ t, exec (.readerFramingError brk) s = .next t ∧ damaged (.skipping .charError true) 1 buffer.length t)) ∧
      (s.reader.asm = .skipping d false → exec (.readerCharacter c) s = .next s ∧
        ∃ t, exec (.readerFramingError brk) s = .next t ∧ damaged (.skipping d true) 2 0 t) ∧
      (s.reader.asm = .skipping d true →
        ∃ t, exec (.readerFramingError brk) s = .next t ∧
          t.reader = { s.reader with receiver := if brk then .heldLow else .waiting, asm := .skipping d true } ∧
          ChangesOnly [.reader] s t)) ∧
    (s.takesCans = true → s.reader.receiver ≠ .heldLow →
      (s.reader.asm = .idle → exec .readerMessage s = .next s) ∧
      (s.track.reads = [] → always (fun m => ∃ t, exec .readerMessage s = .next t ∧
        t.reader = { s.reader with asm := .idle } ∧ t.exch = m.event .codeUnsolicited 2 0 0 ∧
        ChangesOnly [.reader, .exch] s t)) ∧
      (s.track.reads = p :: rest → p.bound = none → oldestOf .transit s = some x →
        always (fun m => ∃ t, exec .readerMessage s = .next t ∧ t.reader = { s.reader with asm := .idle } ∧ t.exch = m ∧
          t.track = { s.track with
            reads := rest
            entries := s.track.entries.map (fun y => if y.serial = x.serial then
              { x with stage := .read, attribution := some .positional, read := some .noRead, readOpen := false } else y) } ∧
          ChangesOnly [.reader, .track, .exch] s t)) ∧
      (s.track.reads = p :: rest → always (fun m =>
        let due := { s with
          pins := { s.pins with lineRun := true }, reader := { s.reader with asm := .idle }, exch := m
          track := { s.track with reads := { p with left := 0 } :: rest } }
        ∃ t, exec .readDeadlineExpiry due = .next t ∧ exec .readerMessage s = .next { t with pins := s.pins })))

/-- A message is taken as a code exactly when it is a lot text of 1 to 12 printable characters other than ";", the mark's three
digits and a grade letter with ";" between them, and the code is the one it spells (R69, R70). -/
def Obligations.CodeMessagesAreParsedExactly : Prop :=
  ∀ (m text : List Byte) (mark : Nat) (g : Grade),
    let digit := fun (n : Nat) => BitVec.ofNat 8 (48 + n)
    let letter : Byte := match g with | .a => 0x41#8 | .b => 0x42#8 | .c => 0x43#8 | .d => 0x44#8 | .f => 0x46#8
    parseCode m = .ok (.code text mark g) ↔
      1 ≤ text.length ∧ text.length ≤ 12 ∧ (∀ c ∈ text, 0x20 ≤ c.toNat ∧ c.toNat ≤ 0x7E ∧ c ≠ 0x3B#8) ∧ mark ≤ 999 ∧
      m = text ++ [0x3B#8, digit (mark / 100), digit (mark / 10 % 10), digit (mark % 10), 0x3B#8, letter]

/-! ## The filler link -/

/-- The filler link's assembler takes lead byte, kind, length and payload in turn, keeping their sum and reloading the gap
timer; another byte in HUNT is skipped (R78, R79). A character is judged by its stop bit first, then by the number of ones among
its data bits and its parity bit, which is even in a good one (R75). What ends a frame before its time discards it and leaves
HUNT, each with its event: an errored character, a 73rd payload byte, the gap timer at its end, and a check byte that completes
a frame which fails the tests of sum, kind, length and result in this order (R75 to R77, R79 to R81). The end of a transmitted
frame starts the waiting frame or leaves the transmitter IDLE, not before its last byte is sent (R87; that the command does
nothing before is the model's reading, logs 3, 34). The end of a break lets the receiver wait for a character again (R75). An
empty buffer is written as zeros (log 32), and a good character that comes as the errored row is taken as the good character it
is (log 9). -/
def Obligations.TheFillerLinkTakesAndDiscardsFrames : Prop :=
  ∀ (c : LineChar) (b : Byte) (frame : List Byte) (spent : Nat) (s : State),
    let p := s.filler
    let ones := ((List.range 8).filter (fun k => c.data.getLsbD k)).length + (if c.parity then 1 else 0)
    let q := { p with asm := .hunt, kind := 0, len := 0, payload := [], sum := 0, gap := none }
    let bytes : Nat := match p.asm with | .hunt => 0 | .kind => 1 | .length => 2 | _ => 3 + p.payload.length
    let state : Nat := match p.asm with | .hunt => 0 | .kind => 1 | .length => 2 | .payload => 3 | .check => 4
    let reports := fun (test : Nat) => ∃ t, exec (.badFrameCompleted b) s = .next t ∧
      t.filler = q ∧
      t.exch = s.exch.event .fillerFrameBad test (BitVec.ofNat 32 p.kind.toNat) (BitVec.ofNat 32 p.len.toNat) ∧
      ChangesOnly [.filler, .exch] s t
    (s.part.state ≠ .clearing → s.filler.receiver ≠ .heldLow →
      let becomes := fun (q : FillerPort) => ∃ t, exec (.fillerCharacter b) s = .next t ∧ t.filler = q ∧
        ChangesOnly [.filler] s t
      (p.asm = .hunt → b ≠ 0xC3#8 → exec (.fillerCharacter b) s = .next s) ∧
      (p.asm = .hunt → b = 0xC3#8 →
        becomes { p with asm := .kind, kind := 0, len := 0, payload := [], sum := 0, gap := some 10 }) ∧
      (p.asm = .kind → becomes { p with asm := .length, kind := b, sum := p.sum + b, gap := some 10 }) ∧
      (p.asm = .length → b = 0 → becomes { p with asm := .check, len := b, sum := p.sum + b, gap := some 10 }) ∧
      (p.asm = .length → b ≠ 0 → becomes { p with asm := .payload, len := b, sum := p.sum + b, gap := some 10 }) ∧
      (p.asm = .payload → p.payload.length < 72 → p.payload.length + 1 = p.len.toNat →
        becomes { p with asm := .check, payload := p.payload ++ [b], sum := p.sum + b, gap := some 10 }) ∧
      (p.asm = .payload → p.payload.length < 72 → p.payload.length + 1 ≠ p.len.toNat →
        becomes { p with asm := .payload, payload := p.payload ++ [b], sum := p.sum + b, gap := some 10 })) ∧
    (s.takesCans = true → s.filler.receiver ≠ .heldLow →
      let errs := fun (code : Nat) (r : Receiver) => ∃ t, exec (.fillerErroredCharacter c) s = .next t ∧
        t.filler = { q with receiver := r } ∧
        t.exch = s.exch.event .fillerCharError code (BitVec.ofNat 32 state) (BitVec.ofNat 32 bytes) ∧
        ChangesOnly [.filler, .exch] s t
      (c.stopIdle = false → errs 2 (if c.held then .heldLow else .waiting)) ∧
      (c.stopIdle = true → ones % 2 = 1 → errs 1 .waiting) ∧
      (c.stopIdle = true → ones % 2 = 0 →
        exec (.fillerErroredCharacter c) s = exec (.fillerCharacter c.data) s) ∧
      (p.asm = .payload → 72 ≤ p.payload.length →
        ∃ t, exec (.fillerBufferOverrun b) s = .next t ∧ t.filler = q ∧
          t.exch = s.exch.event .fillerCharError 3 3 75 ∧ ChangesOnly [.filler, .exch] s t) ∧
      (p.gap = some 0 →
        ∃ t, exec .gapTimerExpiry s = .next t ∧ t.filler = q ∧
          t.exch = s.exch.event .fillerFrameBad 4
            (if p.asm = .hunt ∨ p.asm = .kind then 0 else BitVec.ofNat 32 p.kind.toNat) (BitVec.ofNat 32 bytes) ∧
          ChangesOnly [.filler, .exch] s t) ∧
      (p.asm = .check → p.sum + b ≠ 0 → reports 1) ∧
      (p.asm = .check → p.sum + b = 0 → p.kind ≠ 0x11#8 → p.kind ≠ 0x12#8 → reports 2) ∧
      (p.asm = .check → p.sum + b = 0 → p.kind = 0x11#8 ∨ p.kind = 0x12#8 → p.len ≠ 3 → reports 3) ∧
      (p.asm = .check → p.sum + b = 0 → p.kind = 0x12#8 → p.len = 3 → p.payload.getD 2 0 ≠ 1 → p.payload.getD 2 0 ≠ 2 →
        p.payload.getD 2 0 ≠ 3 → reports 5)) ∧
    (s.filler.tx = .sending frame spent → 1100 * frame.length ≤ spent →
      ∃ t, exec .transmitFrameEnd s = .next t ∧
        (s.filler.waiting = none → t.filler = { s.filler with tx := .idle }) ∧
        (∀ next, s.filler.waiting = some next → t.filler = { s.filler with tx := .sending next 0, waiting := none }) ∧
        ChangesOnly [.filler] s t) ∧
    (s.filler.tx = .sending frame spent → spent < 1100 * frame.length → exec .transmitFrameEnd s = .next s) ∧
    (s.filler.receiver = .heldLow → ∃ t, exec (.breakEnd .filler) s = .next t ∧
      t.filler = { s.filler with receiver := .waiting } ∧ ChangesOnly [.filler] s t) ∧
    (s.filler.receiver = .heldLow → ∀ b, exec (.fillerCharacter b) s = .next s)

/-- A good DISCHARGE appends one FILLER entry in TRANSIT at the end of the track, with the next serial, its generation,
gen_known, the recipe of R40 and its valve, which is absent with DISCHARGE_BAD when it is 0 or above V (R40, R83, R84). With 256
entries in the track the oldest TRANSIT entry is dropped first, with its record and TRACK_FULL 1; with none in TRANSIT the
discharge is not tracked, with TRACK_FULL 2 (R41). The emptied buffer is written as zeros (log 32). -/
def Obligations.ADischargeCreatesAnEntry : Prop :=
  ∀ (valve hi lo check : Byte) (s : State), s.takesCans = true → s.filler.receiver ≠ .heldLow → s.filler.asm = .check →
    s.filler.kind = 0x11#8 → s.filler.len = 3 → s.filler.payload = [valve, hi, lo] → s.filler.sum + check = 0 →
    (∀ r, s.recipes.active = some r → r.valveCount ≤ 128) → (∀ r, s.recipes.retiring = some r → r.valveCount ≤ 128) →
    s.recipes.active.isSome = true →
    let g : Gen := hi ++ lo
    let old := s.recipes.retiring.isSome = true ∧ ¬(g - s.recipes.boundary).toNat < 32768
    let ref : RecipeRef := if old then .retiring else .active
    let bad := valve = 0 ∨ (recipeOf s ref).valveCount < valve.toNat
    let frameEnds := fun (t : State) =>
      t.filler = { s.filler with asm := .hunt, kind := 0, len := 0, payload := [], sum := 0, gap := none } ∧
      t.track.reads = s.track.reads ∧ ChangesOnly [.filler, .track, .exch] s t
    let made := fun (e : Entry) =>
      e.serial = s.track.nextSerial ∧ e.origin = .filler ∧ e.stage = .transit ∧ e.generation = some g ∧ e.recipe = ref ∧
      e.dischargeTag = some s.exch.timeTag ∧ e.readOpen = false ∧ e.attribution = none ∧ e.decision = none ∧
      (e.genKnown = some true ↔ ∃ h, s.dose.served = some h ∧
        ((∃ m, s.dose.inflight = some m ∧ (m.generation - g).toNat < 32768) ∨
          (s.dose.inflight = none ∧ (h - g).toNat < 32768))) ∧
      (bad → e.valve = none) ∧ (¬bad → e.valve = some valve.toNat)
    let reports := fun (x : Exchange) (serial : Nat) (t : State) =>
      (bad → t.exch = x.event .dischargeBad valve.toNat (g.setWidth 32) (BitVec.ofNat 32 serial)) ∧ (¬bad → t.exch = x)
    (s.track.entries.length < 256 →
      ∃ t e, exec (.dischargeFrame check) s = .next t ∧ frameEnds t ∧ made e ∧
        t.track.entries = s.track.entries ++ [e] ∧ t.track.nextSerial = nextNumber s.track.nextSerial ∧
        reports s.exch s.track.nextSerial t) ∧
    (256 ≤ s.track.entries.length → oldestOf .transit s = none →
      ∃ t, exec (.dischargeFrame check) s = .next t ∧ frameEnds t ∧ t.track = s.track ∧
        reports (s.exch.event .trackFull 2 0 (g.setWidth 32)) 0 t) ∧
    (∀ v, 256 ≤ s.track.entries.length → oldestOf .transit s = some v → s.recipes.retiring = none →
      ∃ t e, exec (.dischargeFrame check) s = .next t ∧ frameEnds t ∧ made e ∧
        t.track.entries = s.track.entries.eraseP (fun x => decide (x.serial = v.serial)) ++ [e] ∧
        t.track.nextSerial = nextNumber s.track.nextSerial ∧
        reports ((s.exch.logRecord (logWords v .dropped)).event .trackFull 1 (BitVec.ofNat 32 v.serial) (g.setWidth 32))
          s.track.nextSerial t)

/-! ## Disposition and the reject station -/

/-- A decision gives an entry exactly the reasons of R91 that apply, UNDECIDED and FAULT_STOP where the reject eye adds them
(R97, R98), with SOFT_LIMIT where the allowance test of R92 is made and fails, REJECT exactly when one applies (R93), and counts
it into the open lot of its recipe, an accepted can's net into the net sum (R94). An ACCEPT that brings accepted of the active
lot to lot_can_limit closes that lot with cause LIMIT, the can counted in it, and opens the next (R163). The decided entry is
then offered to Valve Control (R94), after that close, which is the model's order (log 17). -/
def Obligations.ADecisionFollowsItsReasons : Prop :=
  ∀ (e : Entry) (l : Lot) (extra : BitVec 10) (s : State), e ∈ s.track.entries → lotOf s e.recipe = some l →
    extra = 0 ∨ extra = 0x100#10 ∨ extra = 0x300#10 →
    let r := recipeOf s e.recipe
    let plain := e.zone = some .hardLow ∨ (e.zone = some .over ∧ r.rejectOver = true) ∨
      (∃ k, e.weighing = some (.fault k)) ∨ (e.read = some .noRead ∧ r.codeRequired = true) ∨
      (∃ m g, e.read = some (.code false m g)) ∨
      ((∃ b m g, e.read = some (.code b m g) ∧ r.minGrade.code < g.code) ∧ r.codeRequired = true) ∨ e.origin = .untracked
    let tested := e.zone = some .softLow ∧ ¬plain ∧ extra = 0
    let t := decideEntry extra e s
    ChangesOnly [.track, .valves, .dose, .recipes, .exch] s t ∧
    ∃ x ∈ t.track.entries, x = { e with decision := x.decision, reasons := x.reasons, countedLot := some l.index } ∧
      (x.reasons.getLsbD 0 = true ↔ e.zone = some .hardLow) ∧
      (x.reasons.getLsbD 1 = true ↔ e.zone = some .over ∧ r.rejectOver = true) ∧
      (x.reasons.getLsbD 2 = true ↔ tested ∧ ¬l.softUsed < l.allowance) ∧
      (x.reasons.getLsbD 3 = true ↔ ∃ k, e.weighing = some (.fault k)) ∧
      (x.reasons.getLsbD 4 = true ↔ e.read = some .noRead ∧ r.codeRequired = true) ∧
      (x.reasons.getLsbD 5 = true ↔ ∃ m g, e.read = some (.code false m g)) ∧
      (x.reasons.getLsbD 6 = true ↔ (∃ b m g, e.read = some (.code b m g) ∧ r.minGrade.code < g.code) ∧
        r.codeRequired = true) ∧
      (x.reasons.getLsbD 7 = true ↔ e.origin = .untracked) ∧ x.reasons.getLsbD 8 = extra.getLsbD 8 ∧
      x.reasons.getLsbD 9 = extra.getLsbD 9 ∧
      (x.decision = some .reject ↔ x.reasons ≠ 0) ∧ (x.decision = some .accept ↔ x.reasons = 0) ∧
      (∃ b, ChangesOnly [.track, .recipes, .exch] s b ∧ b.track = t.track ∧ b.recipes = t.recipes ∧ t = offerCan x b) ∧
      let full := e.recipe = .active ∧ x.reasons = 0 ∧ (activeRecipe s).lotCanLimit ≠ 0 ∧
        (l.accepted + 1).toNat = (activeRecipe s).lotCanLimit
      (¬full →
        ∃ l', lotOf t e.recipe = some l' ∧ l'.index = l.index ∧ l'.decided = l.decided + 1 ∧
          (x.reasons = 0 → l'.accepted = l.accepted + 1 ∧ l'.rejected = l.rejected ∧ l'.reasons = l.reasons ∧
            (tested → l'.softUsed = l.softUsed + 1) ∧ (¬tested → l'.softUsed = l.softUsed) ∧
            (∀ n, e.net = some n → -9223372036854775808 ≤ l.netSum.toInt + n → l.netSum.toInt + n ≤ 9223372036854775807 →
              l'.netSum.toInt = l.netSum.toInt + n)) ∧
          (x.reasons ≠ 0 → l'.rejected = l.rejected + 1 ∧ l'.accepted = l.accepted ∧ l'.softUsed = l.softUsed ∧
            l'.netSum = l.netSum ∧
            (∀ k, k < l.reasons.length → l'.reasons.getD k 0 = l.reasons.getD k 0 + (if x.reasons.getLsbD k then 1 else 0)))) ∧
      (full →
        let file := 0x0300 + 32 * s.recipes.closedPos.val
        t.recipes.activeLot = some (freshLot s.recipes.nextLot (activeRecipe s) s.exch.timeTag) ∧
        t.recipes.nextLot = nextNumber s.recipes.nextLot ∧ t.recipes.closedPos = s.recipes.closedPos + 1 ∧
        t.recipes.retiringLot = s.recipes.retiringLot ∧ t.recipes.active = s.recipes.active ∧
        t.exch.read file = BitVec.ofNat 32 l.index ∧ t.exch.read (file + 5) = s.exch.timeTag ∧ t.exch.read (file + 6) = 3 ∧
        t.exch.read (file + 7) = l.decided + 1 ∧ t.exch.read (file + 8) = l.accepted + 1 ∧
        t.exch.read 0x00C1 = BitVec.ofNat 32 (activeRecipe s).lotMinutes ∧ t.exch.notice.getLsbD 3 = true)

/-- Every can that reaches the reject eye undecided, or in FAULT_STOP, or decided REJECT leaves it as a REJECT, drives
REJECT_DRIVE with its recipe's pulse and waits with confirm_window, the undecided one decided first, with UNDECIDED and in
FAULT_STOP with FAULT_STOP too, as the statement of the decision says; an accepted one passes without a fire and waits with
missing_window (R97 to R99). A can decided before that FAULT_STOP forces out is recounted in its counted lot if that is open,
and in no other (R98). With no WEIGHED entry UNTRACKED_CAN 4 is raised and ACTIVE's pulse fired (R100); the pulse ends with its
timer (R101), and the command does nothing before (the model's reading, log 3). -/
def Obligations.TheRejectEyeSettlesACan : Prop :=
  ∀ (e : Entry) (s : State),
    (s.takesCans = true → oldestOf .weighed s = some e → entryOf e.serial s = some e →
      (e.decision = none ∨ s.part.state = .faultStop ∨ e.decision = some .reject) →
      let r := recipeOf s e.recipe
      ∃ t, exec .rejectEyeArrival s = .next t ∧
        t.reject = { actuator := .firing (r.rejectPulse * 10), drive := true } ∧
        (∃ x ∈ t.track.entries, x.serial = e.serial ∧ x.stage = .pastReject ∧ x.decision = some .reject ∧
          x.deadline = some (r.confirmWindow * 10) ∧ x.readOpen = e.readOpen ∧ x.weighing = e.weighing ∧
          (s.part.state = .faultStop → x.reasons.getLsbD 9 = true) ∧
          (e.decision = none → x.reasons.getLsbD 8 = true)) ∧
        (e.decision = none →
          let b := decideEntry (if s.part.state = .faultStop then 0x300#10 else 0x100#10) e s
          ∃ x, entryOf e.serial b = some x ∧ t = { b with
            reject := { actuator := .firing (r.rejectPulse * 10), drive := true }
            track := { b.track with entries := b.track.entries.map (fun y => if y.serial = e.serial then
              { x with stage := .pastReject, deadline := some (r.confirmWindow * 10) } else y) } }) ∧
        (e.decision = some .reject → s.part.state ≠ .faultStop → ChangesOnly [.track, .reject] s t) ∧
        (e.decision ≠ none → s.part.state = .faultStop →
          ChangesOnly [.track, .reject, .recipes] s t ∧
          t.recipes = { s.recipes with activeLot := t.recipes.activeLot, retiringLot := t.recipes.retiringLot } ∧
          ∀ ref, (lotOf s ref = none → lotOf t ref = none) ∧
            ∀ l, lotOf s ref = some l → (e.countedLot ≠ some l.index → lotOf t ref = some l) ∧
              (e.countedLot = some l.index →
                ∃ l', lotOf t ref = some l' ∧ l'.index = l.index ∧ l'.decided = l.decided ∧ l'.softUsed = l.softUsed ∧
                  (∀ k, k < l.reasons.length →
                    l'.reasons.getD k 0 = l.reasons.getD k 0 + (if k = 9 then 1 else 0)) ∧
                  (e.decision = some .reject →
                    l'.accepted = l.accepted ∧ l'.rejected = l.rejected ∧ l'.netSum = l.netSum) ∧
                  (e.decision = some .accept → l'.accepted = l.accepted - 1 ∧ l'.rejected = l.rejected + 1 ∧
                    ∀ n, e.net = some n → -9223372036854775808 ≤ l.netSum.toInt - n →
                      l.netSum.toInt - n ≤ 9223372036854775807 → l'.netSum.toInt = l.netSum.toInt - n))) ∧
        ChangesOnly [.track, .reject, .valves, .dose, .recipes, .exch] s t) ∧
    (s.takesCans = true → s.part.state ≠ .faultStop → oldestOf .weighed s = some e → entryOf e.serial s = some e →
      e.decision = some .accept →
      ∃ t, exec .rejectEyeArrival s = .next t ∧
        t.track = { s.track with entries := s.track.entries.map (fun x => if x.serial = e.serial then
          { e with stage := .pastReject, deadline := some ((recipeOf s e.recipe).missingWindow * 10) } else x) } ∧
        ChangesOnly [.track] s t) ∧
    (s.takesCans = true → oldestOf .weighed s = none →
      ∃ t, exec .rejectEyeArrival s = .next t ∧ t.exch = s.exch.event .untrackedCan 4 0 0 ∧
        t.reject = { actuator := .firing ((activeRecipe s).rejectPulse * 10), drive := true } ∧
        ChangesOnly [.reject, .exch] s t) ∧
    (s.reject.actuator = .firing 0 →
      ∃ t, exec .pulseTimerExpiry s = .next t ∧ t.reject = { actuator := .idle, drive := false } ∧
        ChangesOnly [.reject] s t) ∧
    (∀ left, s.reject.actuator = .firing (left + 1) → exec .pulseTimerExpiry s = .next s)

/-- CONFIRM_EYE pairs with the oldest PAST_REJECT entry: an accepted one leaves as PASSED, a rejected one as REJECT_FAILED with
its event and, from STOPPED or RUN, FAULT_STOP; with none it raises EYE_SEQUENCE (R103, R104, R173). The log record stands
before the event (log 16). The window of a PAST_REJECT entry ends while LINE_RUN is high: a rejected entry leaves as REJECTED,
an accepted one as MISSING after CAN_MISSING; with LINE_RUN low no window ends (R105, R57). That the command acts on the oldest
of several is the model's choice (log 29). -/
def Obligations.AnEntryLeavesPastTheReject : Prop :=
  ∀ (before after : List Entry) (e : Entry) (s : State), s.recipes.retiring = none →
    let gone := { s.track with entries := s.track.entries.eraseP (fun x => decide (x.serial = e.serial)) }
    let told := (s.exch.logRecord (logWords e .rejectFailed)).event .rejectFailed (e.valve.getD 0)
      (BitVec.ofNat 32 e.serial) (e.outTag.getD 0)
    (s.takesCans = true →
      (oldestOf .pastReject s = none →
        ∃ t, exec .confirmEyeArrival s = .next t ∧ t.exch = s.exch.event .eyeSequence 3 s.exch.timeTag 0 ∧
          ChangesOnly [.exch] s t) ∧
      (oldestOf .pastReject s = some e → e.decision = some .accept →
        ∃ t, exec .confirmEyeArrival s = .next t ∧ t.track = gone ∧ t.exch = s.exch.logRecord (logWords e .passed) ∧
          ChangesOnly [.track, .exch] s t) ∧
      (oldestOf .pastReject s = some e → e.decision = some .reject → s.part.state = .faultStop →
        ∃ t, exec .confirmEyeArrival s = .next t ∧ t.track = gone ∧ t.exch = told ∧ ChangesOnly [.track, .exch] s t) ∧
      (oldestOf .pastReject s = some e → e.decision = some .reject → s.part.state ≠ .faultStop → s.weigh.zeroSet = none →
        s.cal.averaging = none → s.cal.store = .idle →
        ∃ t, exec .confirmEyeArrival s = .next t ∧ t.track = gone ∧
          t.part = { state := .faultStop, cause := some .rejectFailed, stopReq := true } ∧
          t.exch = (told.event .stateChange 5 (BitVec.ofNat 32 s.part.state.code) 6).raiseNotice .fault ∧
          t.weigh.jam = .stopped ∧ ChangesOnly [.part, .weigh, .track, .exch] s t)) ∧
    (s.track.entries = before ++ e :: after →
      (∀ x ∈ before, ¬(x.stage = .pastReject ∧ x.deadline = some 0)) → e.stage = .pastReject → e.deadline = some 0 →
      (∀ x ∈ before, x.serial ≠ e.serial) →
      (s.pins.lineRun = false → exec .pastRejectDeadlineExpiry s = .next s) ∧
      (s.pins.lineRun = true → e.decision = some .reject →
        ∃ t, exec .pastRejectDeadlineExpiry s = .next t ∧ t.track = { s.track with entries := before ++ after } ∧
          t.exch = s.exch.logRecord (logWords e .rejected) ∧ ChangesOnly [.track, .exch] s t) ∧
      (s.pins.lineRun = true → e.decision = some .accept →
        ∃ t, exec .pastRejectDeadlineExpiry s = .next t ∧ t.track = { s.track with entries := before ++ after } ∧
          t.exch = (s.exch.event .canMissing (e.valve.getD 0) (BitVec.ofNat 32 e.serial) (e.outTag.getD 0)).logRecord
            (logWords e .missing) ∧
          ChangesOnly [.track, .exch] s t))

/-! ## Valve Control -/

/-- A can that qualifies for its valve moves its average in AVERAGING, by the difference over 2^k rounded toward minus infinity
and clamped (R117); in WAIT_EFFECT it seeds the valve when not older than awaited_gen and is excluded otherwise, and where
awaited_gen is absent (R116, R124); the third HARD_LOW can in a row that otherwise qualifies makes the valve FAULTY (R115). It
is counted each time, and no other valve changes (R113). A can of a FILLER entry of attribution EXACT with a valve that does not
qualify, by part state, gen_known, recipe, weigh fault, generation, valve state or zone OVER, is counted and changes no average
(R113, R114); a can of any other entry changes nothing (R113). The can that brings n to sample_min or past it, once counted,
does what the statement of the block end says (R118; log 36). -/
def Obligations.AQualifyingCanActsOnItsValve : Prop :=
  ∀ (e : Entry) (v : Nat) (g h : Gen) (net : Int) (s : State),
    let x := valveAt s v
    let counted := { x with lastNet := e.net.getD x.lastNet, cansSeen := x.cansSeen + 1 }
    let err := 16 * (net - (activeRecipe s).target)
    let t := offerCan e s
    let suits := s.part.state = .run ∧ e.genKnown = some true ∧ e.recipe = .active ∧
      (∃ gross, e.weighing = some (.gross gross)) ∧ (∀ f, x.effectGen = some f → (g - f).toNat < 32768) ∧
      (x.state = .averaging ∨ x.state = .waitEffect)
    (e.origin ≠ .filler ∨ e.attribution ≠ some .exact ∨ e.valve = none → t = s) ∧
    (e.origin = .filler → e.attribution = some .exact → e.valve = some v → 1 ≤ v → v ≤ s.valves.table.length →
      e.generation = some g →
      (¬suits ∨ e.zone = some .over ∨ e.zone = none → valveAt t v = counted ∧ (∀ u, u ≠ v → valveAt t u = valveAt s u) ∧
        t.valves.loop = s.valves.loop ∧ ChangesOnly [.valves] s t) ∧
      (suits → e.net = some net →
        (x.state = .averaging → e.zone = some .good ∨ e.zone = some .softLow → x.n + 1 < (activeRecipe s).sampleMin →
          valveAt t v = { counted with
            avg := max (-16000000) (min 16000000 (x.avg + Int.fdiv (err - x.avg) (2 ^ (activeRecipe s).smoothing)))
            n := x.n + 1, hardLowRun := 0 } ∧
          (∀ u, u ≠ v → valveAt t u = valveAt s u) ∧ t.valves.loop = s.valves.loop ∧ ChangesOnly [.valves] s t) ∧
        (x.state = .averaging → e.zone = some .good ∨ e.zone = some .softLow → (activeRecipe s).sampleMin ≤ x.n + 1 →
          ∃ b, valveAt b v = { counted with hardLowRun := 0 } ∧ (∀ u, u ≠ v → valveAt b u = valveAt s u) ∧
            b.valves.table.length = s.valves.table.length ∧ b.valves.loop = s.valves.loop ∧
            b.valves.snapshots = s.valves.snapshots ∧ ChangesOnly [.valves] s b ∧ t = averageCan v net b) ∧
        (x.state = .waitEffect → x.awaitedGen = some h → e.zone = some .good ∨ e.zone = some .softLow →
          (g - h).toNat < 32768 →
          valveAt t v = { counted with
            state := .averaging, effectGen := some h, awaitedGen := none, hardLowRun := 0, n := 1
            avg := max (-16000000) (min 16000000 err) } ∧
          (∀ u, u ≠ v → valveAt t u = valveAt s u) ∧ ChangesOnly [.valves] s t) ∧
        (x.state = .waitEffect → x.awaitedGen = some h → e.zone = some .good ∨ e.zone = some .softLow →
          ¬(g - h).toNat < 32768 →
          valveAt t v = { counted with hardLowRun := 0 } ∧
          (∀ u, u ≠ v → valveAt t u = valveAt s u) ∧ ChangesOnly [.valves] s t) ∧
        (x.state = .waitEffect → x.awaitedGen = none → e.zone = some .good ∨ e.zone = some .softLow →
          valveAt t v = { counted with hardLowRun := 0 } ∧
          (∀ u, u ≠ v → valveAt t u = valveAt s u) ∧ ChangesOnly [.valves] s t) ∧
        (x.state = .averaging ∨ x.state = .waitEffect → e.zone = some .hardLow → x.hardLowRun = 2 →
          valveAt t v = { counted with hardLowRun := 3, state := .faulty, awaitedGen := none } ∧
          t.exch = s.exch.event .valveFaulty v (BitVec.ofNat 32 e.serial) (BitVec.ofInt 32 net) ∧
          (∀ u, u ≠ v → valveAt t u = valveAt s u) ∧ ChangesOnly [.valves, .exch] s t) ∧
        (x.state = .averaging ∨ x.state = .waitEffect → e.zone = some .hardLow → x.hardLowRun < 2 →
          valveAt t v = { counted with hardLowRun := x.hardLowRun + 1 } ∧
          (∀ u, u ≠ v → valveAt t u = valveAt s u) ∧ ChangesOnly [.valves] s t)))

/-- The correction of a block end is −avg × gain ÷ 1,600, rounded to nearest with ties toward zero, then clamped to ±step_limit
of the ACTIVE recipe (R119). -/
def Obligations.TheCorrectionIsRoundedAndClamped : Prop :=
  ∀ (s : State) (avg : Int),
    let r := activeRecipe s
    ∃ q : Int, NearestToward (-avg * r.gain) 1600 q ∧
      correction r avg = max (-(r.stepLimit : Int)) (min (r.stepLimit : Int) q)

/-- The can that ends a block puts the corrected wanted trim in the Dose Table and the valve in WAIT_EFFECT when the trim
changes, and raises TRIM_AT_LIMIT when it does not; a held loop, a link DOWN or an average within the deadband make no
correction (R118, R120, R121). A can ends a block when it brings n to sample_min or past it (log 36). -/
def Obligations.ABlockEndCorrectsTheTrim : Prop :=
  ∀ (v : Nat) (net : Int) (s : State), 1 ≤ v → v ≤ s.valves.table.length → v ≤ s.dose.trims.length →
    (activeRecipe s).sampleMin ≤ (valveAt s v).n + 1 →
    let r := activeRecipe s
    let x := valveAt s v
    let avg := averaged r x.avg net
    let w := (trimAt s v).wanted
    let w' := clampAbs r.trimLimit (w + correction r avg)
    let due := s.valves.loop = true ∧ s.dose.link ≠ .down ∧ 16 * r.deadband < avg.natAbs
    let t := averageCan v net s
    (¬due → valveAt t v = { x with avg := avg, n := 0 } ∧ ChangesOnly [.valves] s t) ∧
    (due → w' = w → valveAt t v = { x with avg := avg, n := 0 } ∧
      t.exch = s.exch.event .trimAtLimit v (BitVec.ofInt 32 (correction r avg)) (BitVec.ofInt 32 w) ∧
      ChangesOnly [.valves, .exch] s t) ∧
    (due → w' ≠ w → trimAt t v = { trimAt s v with wanted := w' } ∧
      valveAt t v = { x with
        avg := avg, n := 0, state := .waitEffect
        awaitedGen := if w' = (trimAt s v).served ∧ s.dose.inflight = none then s.dose.served else none } ∧
      (∀ u, u ≠ v → trimAt t u = trimAt s u) ∧ t.dose.inflight = s.dose.inflight ∧ ChangesOnly [.valves, .dose] s t) ∧
    (∀ u, u ≠ v → valveAt t u = valveAt s u)

/-! ## The Dose Unit -/

/-- A FILLER_INDEX pulse does nothing while the ack timer runs, builds and sends an update in UP where one is due, resends in
RETRY, and in DOWN counts and resends at the sixteenth (R137 to R141); a frame handed over while another is sent waits (R87).
The update of an UNSYNCED table lists the first 20 valves whose wanted trim is not 0, and the listed valves in WAIT_EFFECT take
generation 1 (R139, R122). The ack timer at its end keeps the message and moves UP to RETRY, and RETRY to DOWN with LINK_DOWN
(R142). -/
def Obligations.UpdatesAreSentAndTimeOut : Prop :=
  ∀ (m : Message) (s : State),
    let sends := fun (k : Message) (t : State) => t.filler = (match s.filler.tx with
      | .idle => { s.filler with tx := .sending (updateFrame k) 0 }
      | .sending _ _ => { s.filler with waiting := some (updateFrame k) })
    (s.takesCans = true → s.dose.ack ≠ none → exec .fillerIndexArrival s = .next s) ∧
    (s.takesCans = true → s.dose.ack = none → s.dose.link = .up → s.dose.inflight = none → s.dose.served = none →
      ∃ t k, exec .fillerIndexArrival s = .next t ∧ sends k t ∧
        t.dose = { s.dose with inflight := some k, ack := some 400 } ∧ k.generation = 1 ∧
        k.base = some (activeRecipe s).target ∧ k.limit = some (activeRecipe s).trimLimit ∧ k.clear = true ∧
        k.changeover = false ∧ k.list.length ≤ 20 ∧ k.list.Pairwise (fun a b => a.1 < b.1) ∧
        (∀ a ∈ k.list, 1 ≤ a.1 ∧ a.1 ≤ (activeRecipe s).valveCount ∧ a.2 = (trimAt s a.1).wanted ∧ a.2 ≠ 0) ∧
        (∀ v, 1 ≤ v → v ≤ (activeRecipe s).valveCount → (trimAt s v).wanted ≠ 0 →
          v ∈ k.list.map (·.1) ∨ (k.list.length = 20 ∧ ∀ a ∈ k.list, a.1 < v)) ∧
        t.valves.loop = s.valves.loop ∧ t.valves.snapshots = s.valves.snapshots ∧
        t.valves.table.length = s.valves.table.length ∧
        (∀ v, 1 ≤ v → v ≤ s.valves.table.length →
          valveAt t v = (if v ∈ k.list.map (·.1) ∧ (valveAt s v).state = .waitEffect then
            { valveAt s v with awaitedGen := some 1 } else valveAt s v)) ∧
        ChangesOnly [.filler, .dose, .valves] s t) ∧
    (s.takesCans = true → s.dose.ack = none → s.dose.link = .up → s.dose.inflight = none → s.dose.served.isSome = true →
      s.dose.changeover = none →
      (∀ v, 1 ≤ v → v ≤ (activeRecipe s).valveCount → (trimAt s v).wanted = (trimAt s v).served) →
      exec .fillerIndexArrival s = .next s) ∧
    (s.takesCans = true → s.dose.ack = none → s.dose.link = .retry → s.dose.inflight = some m →
      ∃ t, exec .fillerIndexArrival s = .next t ∧ sends m t ∧ t.dose = { s.dose with ack := some 400 } ∧
        ChangesOnly [.filler, .dose] s t) ∧
    (s.takesCans = true → s.dose.ack = none → s.dose.link = .down → s.dose.probe < 15 →
      ∃ t, exec .fillerIndexArrival s = .next t ∧ t.dose = { s.dose with probe := s.dose.probe + 1 } ∧
        ChangesOnly [.dose] s t) ∧
    (s.takesCans = true → s.dose.ack = none → s.dose.link = .down → s.dose.probe = 15 → s.dose.inflight = some m →
      ∃ t, exec .fillerIndexArrival s = .next t ∧ sends m t ∧ t.dose = { s.dose with ack := some 400, probe := 0 } ∧
        ChangesOnly [.filler, .dose] s t) ∧
    (s.dose.ack = some 0 → s.dose.inflight = some m → s.dose.link = .up → ∃ t, exec .ackTimerExpiry s = .next t ∧
      t.dose = { s.dose with ack := none, link := .retry } ∧ ChangesOnly [.dose] s t) ∧
    (s.dose.ack = some 0 → s.dose.inflight = some m → s.dose.link = .retry → ∃ t, exec .ackTimerExpiry s = .next t ∧
      t.dose = { s.dose with ack := none, link := .down, probe := 0 } ∧
      t.exch = s.exch.event .linkDown m.generation.toNat (BitVec.ofNat 32 m.list.length) (if m.changeover then 1 else 0) ∧
      ChangesOnly [.dose, .exch] s t) ∧
    (s.dose.ack = some 0 → s.dose.inflight = some m → s.dose.link = .down →
      ∃ t, exec .ackTimerExpiry s = .next t ∧ t.dose = { s.dose with ack := none } ∧
      ChangesOnly [.dose] s t)

/-- The update that a pulse builds while the table is SYNCED lists, in examination order from the valve after the round-robin
position, the first 20 valves whose trim differs from the served trim, each with that trim, and names the served generation plus
one, after a REFUSED ack too, which is the model's choice (log 38); with a changeover pending it carries the new base, limit and
clear flag, and the wanted trims clamped to the new limit, within both valve counts (R138 to R141). Each listed valve in
WAIT_EFFECT takes its generation (R122). -/
def Obligations.AnUpdateListsTheChangedValves : Prop :=
  ∀ (r : Recipe) (g : Gen) (s : State), s.takesCans = true → s.dose.ack = none → s.dose.link = .up →
    s.dose.inflight = none → s.dose.served = some g → s.recipes.active = some r →
    let start := if s.dose.rr = 0 ∨ r.valveCount ≤ s.dose.rr then 1 else s.dose.rr + 1
    let place := fun (v : Nat) => if start ≤ v then v - start else r.valveCount - start + v
    let lists := fun (l : List (Nat × Int)) (last : Nat) (carried : Nat → Int) =>
      l.length ≤ 20 ∧ l.Pairwise (fun a b => place a.1 < place b.1) ∧
      (∀ a ∈ l, 1 ≤ a.1 ∧ a.1 ≤ last ∧ a.2 = carried a.1 ∧ a.2 ≠ (trimAt s a.1).served) ∧
      (∀ v, 1 ≤ v → v ≤ last → carried v ≠ (trimAt s v).served →
        v ∈ l.map (·.1) ∨ (l.length = 20 ∧ ∀ a ∈ l, place a.1 < place v))
    let launches := fun (m : Message) (t : State) =>
      t.filler = (match s.filler.tx with
        | .idle => { s.filler with tx := .sending (updateFrame m) 0 }
        | .sending _ _ => { s.filler with waiting := some (updateFrame m) }) ∧
      t.dose = { s.dose with inflight := some m, ack := some 400 } ∧ t.valves.loop = s.valves.loop ∧
      t.valves.snapshots = s.valves.snapshots ∧ t.valves.table.length = s.valves.table.length ∧
      (∀ v, 1 ≤ v → v ≤ s.valves.table.length →
        valveAt t v = (if v ∈ m.list.map (·.1) ∧ (valveAt s v).state = .waitEffect then
          { valveAt s v with awaitedGen := some (g + 1) } else valveAt s v)) ∧
      ChangesOnly [.filler, .dose, .valves] s t
    (s.dose.changeover = none →
      (∃ v, 1 ≤ v ∧ v ≤ r.valveCount ∧ (trimAt s v).wanted ≠ (trimAt s v).served) →
      ∃ t m, exec .fillerIndexArrival s = .next t ∧ launches m t ∧
        m = { m with generation := g + 1, base := none, limit := none, clear := false, changeover := false } ∧
        m.list ≠ [] ∧ lists m.list r.valveCount (fun v => (trimAt s v).wanted)) ∧
    (∀ c, s.dose.changeover = some c →
      ∃ t m, exec .fillerIndexArrival s = .next t ∧ launches m t ∧
        m = { m with
          generation := g + 1, base := some c.base, limit := some c.limit, clear := c.clear, changeover := true } ∧
        (c.clear = true → m.list = []) ∧
        (c.clear = false → lists m.list (min r.valveCount c.valveCount)
          (fun v => max (-(c.limit : Int)) (min (c.limit : Int) (trimAt s v).wanted))))

/-- A message is sent as one frame: lead byte, kind, a length L of 4 plus 3, 2 and 3 a valve for what it carries, and a check
byte that makes the sum 0; two messages of the manual's ranges with the same frame carry the same settings (R77, R86). -/
def Obligations.UpdateFramesCarryTheirMessage : Prop :=
  ∀ m k : Message,
    let ranged := fun (x : Message) => (∀ b, x.base = some b → b ≤ 1600000) ∧ (∀ l, x.limit = some l → l ≤ 20000) ∧
      x.list.length ≤ 20 ∧ ∀ a ∈ x.list, 1 ≤ a.1 ∧ a.1 ≤ 128 ∧ -20000 ≤ a.2 ∧ a.2 ≤ 20000
    let len := 4 + 3 * flagNat m.base.isSome + 2 * flagNat m.limit.isSome + 3 * m.list.length
    (ranged m →
      (updateFrame m).length = len + 4 ∧ (updateFrame m).getD 0 0 = 0xC3#8 ∧ (updateFrame m).getD 1 0 = 0x21#8 ∧
      (updateFrame m).getD 2 0 = BitVec.ofNat 8 len ∧ 4 ≤ len ∧ len ≤ 69 ∧
      ((updateFrame m).drop 1).foldl (· + ·) 0 = (0 : Byte)) ∧
    (ranged m → ranged k → updateFrame m = updateFrame k →
      m.generation = k.generation ∧ m.base = k.base ∧ m.limit = k.limit ∧ m.clear = k.clear ∧ m.list = k.list)

/-- An APPLIED or DUPLICATE ack for the message in flight serves it: generation, base, limit and trims as R145 sets them, the
message gone, the link UP, with LINK_UP where it was DOWN; the wanted trims stay (R144, R145). A REFUSED ack for the message in
flight reverts its listed valves' wanted trims and raises DOSE_REFUSED, then LINK_UP where the link was DOWN; one that carries a
changeover also gives up the changeover pending and NEXT, and its order finishes FILLER_REFUSED with the generation (R147,
R159). An ack that answers no message in flight raises ACK_STRAY and changes nothing else (R144). -/
def Obligations.AnAckServesRefusesOrStrays : Prop :=
  ∀ (hi lo res check : Byte) (s : State), s.takesCans = true → s.filler.receiver ≠ .heldLow → s.filler.asm = .check →
    s.filler.kind = 0x12#8 → s.filler.len = 3 → s.filler.payload = [hi, lo, res] → s.filler.sum + check = 0 →
    let g : Gen := hi ++ lo
    (∀ m, res = 1 ∨ res = 2 → s.dose.inflight = some m → m.generation = g → m.changeover = false →
      let limit := m.limit.getD s.dose.limit
      ∃ t, exec (.doseAckFrame check) s = .next t ∧ t.dose.served = some m.generation ∧
        t.dose.base = m.base.getD s.dose.base ∧ t.dose.limit = limit ∧ t.dose.inflight = none ∧ t.dose.ack = none ∧
        t.dose.link = .up ∧ t.dose.probe = 0 ∧ t.dose.changeover = s.dose.changeover ∧
        (m.list = [] → t.dose.rr = s.dose.rr) ∧ (∀ a, m.list.getLast? = some a → t.dose.rr = a.1) ∧
        t.dose.trims.length = s.dose.trims.length ∧
        (∀ v, 1 ≤ v → v ≤ s.dose.trims.length → (trimAt t v).wanted = (trimAt s v).wanted ∧
          (trimAt t v).served = clampAbs limit (match m.list.find? (fun a => a.1 == v) with
            | some a => a.2
            | none => if m.clear then 0 else (trimAt s v).served)) ∧
        t.exch = (if s.dose.link = .down then s.exch.event .linkUp m.generation.toNat (res.setWidth 32) 0 else s.exch) ∧
        ChangesOnly [.filler, .dose, .valves, .exch] s t) ∧
    (∀ m, res = 3 → s.dose.inflight = some m → m.generation = g →
      ∃ t, exec (.doseAckFrame check) s = .next t ∧ t.dose.inflight = none ∧ t.dose.ack = none ∧ t.dose.link = .up ∧
        t.dose.probe = 0 ∧ t.dose.served = s.dose.served ∧ t.dose.base = s.dose.base ∧ t.dose.limit = s.dose.limit ∧
        t.dose.rr = s.dose.rr ∧
        (∀ v, 1 ≤ v → v ≤ s.dose.trims.length → (trimAt t v).served = (trimAt s v).served ∧
          (trimAt t v).wanted = (if v ∈ m.list.map (·.1) then (trimAt s v).served else (trimAt s v).wanted)) ∧
        (let e0 := s.exch.event .doseRefused g.toNat (BitVec.ofNat 32 m.list.length) (if m.changeover then 1 else 0)
          let e := if s.dose.link = .down then e0.event .linkUp g.toNat 3 0 else e0
          (m.changeover = false →
            t.exch = e ∧ t.dose.changeover = s.dose.changeover ∧ ChangesOnly [.filler, .dose, .valves, .exch] s t) ∧
          (m.changeover = true →
            t.dose.changeover = none ∧ t.recipes = { s.recipes with next := none, held := none } ∧
            (s.recipes.held = none → t.exch = e ∧ t.orders = s.orders) ∧
            (∀ slot, s.recipes.held = some slot → t.exch = e.finishSlot slot .fillerRefused (g.setWidth 32) ∧
              t.orders = { s.orders with taken := s.orders.taken.filter (fun x => decide (x.1 ≠ slot)) }) ∧
            ChangesOnly [.filler, .dose, .valves, .recipes, .orders, .exch] s t))) ∧
    (res = 1 ∨ res = 2 ∨ res = 3 → (∀ m, s.dose.inflight = some m → m.generation ≠ g) →
      ∃ t, exec (.doseAckFrame check) s = .next t ∧
        t.exch = s.exch.event .ackStray g.toNat (res.setWidth 32)
          (match s.dose.inflight with | none => 65536 | some m => m.generation.setWidth 32) ∧
        ChangesOnly [.filler, .exch] s t)

/-- The valves follow an ack. At a serve the waiting valves without awaited_gen whose wanted trim equals their new served trim
take the served generation (R123); then effect_gen and awaited_gen that stand 16,384 generations or more behind are given up or
moved up (R125). A refused update returns its listed waiting valves to AVERAGING, and where the table is SYNCED the others that
wait without awaited_gen with their trims equal take the served generation (R126). At a changeover swap the valves within the
new V start afresh, AVERAGING or WAIT_EFFECT as their trims agree, but for the LOCKED and FAULTY ones, and the valves above it
become IDLE (R127). -/
def Obligations.TheValvesFollowAnAck : Prop :=
  ∀ (hi lo res check : Byte) (m : Message) (v : Nat) (s : State), s.takesCans = true → s.filler.receiver ≠ .heldLow →
    s.filler.asm = .check → s.filler.kind = 0x12#8 → s.filler.len = 3 → s.filler.payload = [hi, lo, res] →
    s.filler.sum + check = 0 → s.dose.inflight = some m → m.generation = (hi ++ lo : BitVec 16) → 1 ≤ v →
    v ≤ s.valves.table.length →
    let g := m.generation
    let x := valveAt s v
    let far := fun (h : Gen) => 16384 ≤ (g - h).toNat
    let aged := fun (y : Valve) => { y with
      effectGen := match y.effectGen with
        | some h => if far h then none else some h
        | none => none
      awaitedGen := match y.awaitedGen with
        | some h => if y.state = .waitEffect ∧ far h then some g else some h
        | none => none }
    let takes := fun (y : Valve) (k : Gen) (t : State) =>
      if y.state = .waitEffect ∧ y.awaitedGen = none ∧ (trimAt t v).wanted = (trimAt t v).served then
        { y with awaitedGen := some k } else y
    (res = 1 ∨ res = 2 → m.changeover = false →
      ∃ t, exec (.doseAckFrame check) s = .next t ∧ valveAt t v = aged (takes x g t) ∧
        t.valves.table.length = s.valves.table.length ∧ t.valves.loop = s.valves.loop ∧
        t.valves.snapshots = s.valves.snapshots) ∧
    (res = 3 →
      let back := if x.state = .waitEffect ∧ v ∈ m.list.map (·.1) then
        { x with state := .averaging, n := 0, awaitedGen := none } else x
      ∃ t, exec (.doseAckFrame check) s = .next t ∧
        (s.dose.served = none → valveAt t v = back) ∧ (∀ h, s.dose.served = some h → valveAt t v = takes back h t) ∧
        t.valves.table.length = s.valves.table.length ∧ t.valves.loop = s.valves.loop ∧
        t.valves.snapshots = s.valves.snapshots) ∧
    (∀ r, res = 1 ∨ res = 2 → m.changeover = true → s.recipes.next = some r →
      let zeroed := { x with avg := 0, n := 0, hardLowRun := 0, effectGen := some g, awaitedGen := none }
      ∃ t, exec (.doseAckFrame check) s = .next t ∧
        (r.valveCount < v → valveAt t v = { zeroed with state := .idle, effectGen := none } ∧ (trimAt t v).wanted = 0) ∧
        (v ≤ r.valveCount → x.state = .locked ∨ x.state = .faulty → valveAt t v = aged x) ∧
        (v ≤ r.valveCount → x.state ≠ .locked → x.state ≠ .faulty →
          valveAt t v = { zeroed with
            state := if (trimAt t v).wanted = (trimAt t v).served then .averaging else .waitEffect }) ∧
        t.valves.table.length = s.valves.table.length ∧ t.valves.loop = s.valves.loop ∧
        t.valves.snapshots = s.valves.snapshots)

/-- The serve of the update that carries a changeover, by APPLIED or by DUPLICATE, makes the swap: ACTIVE retires, NEXT becomes
ACTIVE, the boundary generation is the message's, every entry and the active lot retire, a new lot opens, and CHANGEOVER_SWAP
tells it, after LINK_UP where the link was DOWN (R145, R146, R157, R161). On an empty track the drain ends at once: the retiring
lot closes with cause DRAINED, RETIRING is absent, the order held is DONE with the boundary generation, and RETIRING_DRAINED 1
follows (R158, R162). What a closed lot's record and events hold is said of the minute step; the memory spoken of is the
model's, in which the area words are computed and not stored (log 5). -/
def Obligations.AChangeoverSwapsTheRecipes : Prop :=
  ∀ (hi lo res check : Byte) (m : Message) (old new : Recipe) (l : Lot) (s : State), s.takesCans = true →
    s.filler.receiver ≠ .heldLow → s.filler.asm = .check → s.filler.kind = 0x12#8 → s.filler.len = 3 →
    s.filler.payload = [hi, lo, res] → res = 1 ∨ res = 2 → s.filler.sum + check = 0 → s.dose.inflight = some m →
    m.generation = (hi ++ lo : BitVec 16) → m.changeover = true → s.recipes.active = some old → s.recipes.next = some new →
    s.recipes.activeLot = some l →
    let up := if s.dose.link = .down then s.exch.event .linkUp m.generation.toNat (res.setWidth 32) 0 else s.exch
    let swapped := (up.write 0x00C1 [BitVec.ofNat 32 new.lotMinutes]).event .changeoverSwap m.generation.toNat
      (BitVec.ofNat 32 s.track.entries.length) (BitVec.ofNat 32 s.recipes.nextLot)
    let boundary := m.generation.setWidth 32
    let closed := (lotCloseEvents l old.nominal .drained (swapped.write (0x0300 + 32 * s.recipes.closedPos.val)
      (closedLotWords l s.exch.timeTag .drained old.nominal))).raiseNotice .lot
    let drained := fun (x : Exchange) => x.event .retiringDrained 1 boundary (BitVec.ofNat 32 l.index)
    ∃ t, exec (.doseAckFrame check) s = .next t ∧ t.recipes.active = some new ∧
      t.recipes.next = none ∧ t.recipes.boundary = m.generation ∧
      t.recipes.nextLot = nextNumber s.recipes.nextLot ∧ t.recipes.fine = 600 ∧
      (s.track.entries ≠ [] →
        t.recipes.retiring = some old ∧ t.recipes.retiringLot = some l ∧ t.recipes.held = s.recipes.held ∧
        t.recipes.closedPos = s.recipes.closedPos ∧ t.orders = s.orders ∧ t.exch = swapped) ∧
      (s.track.entries = [] →
        t.recipes.retiring = none ∧ t.recipes.retiringLot = none ∧ t.recipes.held = none ∧
        t.recipes.closedPos = s.recipes.closedPos + 1 ∧
        (s.recipes.held = none → t.orders = s.orders ∧ t.exch = drained closed) ∧
        (∀ slot, s.recipes.held = some slot → t.exch = drained (closed.finishSlot slot .done boundary) ∧
          t.orders = { s.orders with taken := s.orders.taken.filter (fun x => decide (x.1 ≠ slot)) })) ∧
      (∃ k, t.recipes.activeLot = some k ∧ k.index = s.recipes.nextLot ∧ k.text = new.lotText ∧
        k.start = s.exch.timeTag ∧ k.decided = 0 ∧ k.accepted = 0 ∧ k.rejected = 0 ∧ k.softUsed = 0 ∧
        k.allowance = new.softAllowance ∧ k.netSum = 0) ∧
      t.track = { s.track with entries := s.track.entries.map (fun e => { e with recipe := .retiring }) } ∧
      t.dose.changeover = none ∧ t.dose.inflight = none ∧ t.dose.served = some m.generation ∧
      (∀ v, 1 ≤ v → v ≤ s.dose.trims.length → (trimAt t v).wanted =
        (if new.valveCount < v ∨ new.clearTrims = true then 0 else clampAbs new.trimLimit (trimAt s v).wanted)) ∧
      (∀ v, 1 ≤ v → v ≤ s.valves.table.length → new.valveCount < v →
        (valveAt t v).state = .idle ∧ (valveAt t v).n = 0 ∧ (valveAt t v).avg = 0) ∧
      ChangesOnly [.filler, .dose, .valves, .track, .recipes, .orders, .exch] s t

/-! ## Lots and orders -/

/-- The fine count at its end is set to 600 and the minute step counts the lot minutes word down, or at 0 closes the active lot
with cause TIMER and opens the next (R161, R164, R165). That a count-down leaves the phase below the fine count is the model's
choice (log 4). A closed lot is filed at the write position with end time tag and cause, its mean the net sum over accepted
truncated toward zero, with LOT_CLOSED, with LOT_MEAN_LOW where the mean is present and below nominal, and with the notice LOT
(R160, R162). A mean outside 32 bits is free (log 13), and the memory spoken of is the model's (log 5). -/
def Obligations.AMinuteStepCountsOrClosesTheLot : Prop :=
  ∀ (r : Recipe) (l : Lot) (s : State), s.part.state = .run → s.recipes.active = some r → r.lotMinutes ≠ 0 →
    s.recipes.fine = 0 → s.recipes.activeLot = some l →
    let word := s.exch.read 0x00C1
    let file := 0x0300 + 32 * s.recipes.closedPos.val
    let mean := Int.tdiv l.netSum.toInt l.accepted.toNat
    let low := l.accepted ≠ 0 ∧ mean < r.nominal
    (word ≠ 0 →
      ∃ t, exec .lotMinuteStep s = .next t ∧ t.recipes = { s.recipes with fine := 600 } ∧
        t.exch.read 0x00C1 = word - 1 ∧ KeepsMemoryOutside 0x00C1 1 s.exch t.exch ∧
        t.exch = { s.exch with mem := t.exch.mem } ∧ ChangesOnly [.recipes, .exch] s t) ∧
    (word = 0 → -2147483648 ≤ mean → mean ≤ 2147483647 →
      let filed := s.exch.write file (closedLotWords l s.exch.timeTag .timer r.nominal)
      let told := filed.event .lotClosed 2 (BitVec.ofNat 32 l.index) l.accepted
      let told2 := if low then told.event .lotMeanLow l.index (BitVec.ofInt 32 mean) (BitVec.ofNat 32 r.nominal) else told
      let at' := fun k => filed.read (file + k)
      (closedLotWords l s.exch.timeTag .timer r.nominal).length = 32 ∧ at' 0 = BitVec.ofNat 32 l.index ∧
      (∀ k, k < 12 → (at' (1 + k / 4)).toNat / 256 ^ (3 - k % 4) % 256 = (l.text.getD k 0).toNat) ∧ at' 4 = l.start ∧
      at' 5 = s.exch.timeTag ∧ at' 6 = 2 ∧ at' 7 = l.decided ∧ at' 8 = l.accepted ∧ at' 9 = l.rejected ∧
      (∀ k, k < 10 → at' (10 + k) = l.reasons.getD k 0) ∧ at' 20 = BitVec.ofNat 32 l.softUsed ∧
      at' 21 = BitVec.ofNat 32 l.allowance ∧ at' 22 = l.netSum.extractLsb' 32 32 ∧ at' 23 = l.netSum.setWidth 32 ∧
      at' 24 = (if l.accepted = 0 then 0 else BitVec.ofInt 32 mean) ∧
      at' 25 = (if l.accepted = 0 then 0 else if low then 3 else 1) ∧ (∀ k, 26 ≤ k → k < 32 → at' k = 0) ∧
      ∃ t, exec .lotMinuteStep s = .next t ∧
        t.recipes.activeLot = some (freshLot s.recipes.nextLot r s.exch.timeTag) ∧
        t.recipes = { s.recipes with
          activeLot := t.recipes.activeLot, nextLot := nextNumber s.recipes.nextLot, fine := 600
          finePhase := t.recipes.finePhase, closedPos := s.recipes.closedPos + 1 } ∧
        t.exch = (told2.raiseNotice .lot).write 0x00C1 [BitVec.ofNat 32 r.lotMinutes] ∧
        ChangesOnly [.recipes, .exch] s t)

/-- The checks of R183 run in order, against its table of kinds, codes and allowed part states, and the first that fails
finishes the order with its reason and detail. -/
def Obligations.TheFirstFailedCheckRefusesAnOrder : Prop :=
  ∀ (slot : Slot) (code : Nat) (allowed : List PartState) (s : State),
    let word := fun n => s.exch.read (0x0040 + 16 * slot.val + n)
    let line : List PartState := [.config, .stopped, .run, .faultStop]
    let kinds : List (Nat × List PartState) := [
      (1, [.config, .stopped, .run]),  -- CHANGEOVER
      (2, [.stopped, .run]),           -- LOT_CLOSE
      (3, [.stopped]),                 -- ZERO_SET
      (4, [.config, .stopped]),        -- CAL_ZERO
      (5, [.config, .stopped]),        -- CAL_SPAN
      (6, line),                       -- VALVE_LOCK
      (7, line),                       -- VALVE_RELEASE
      (8, line),                       -- VALVE_TRIM
      (9, line),                       -- LOOP_SET
      (10, line),                      -- SNAPSHOT
      (11, [.stopped, .faultStop]),    -- TRACK_FLUSH
      (12, [.faultStop])]              -- FAULT_CLEAR
    let arg := (word 2).toNat
    let ok2 := s.part.state ∈ allowed
    let ok3 := code = 4 ∨ code = 5 → s.pins.calSwitch = true
    let ok4 := (code = 3 → s.cal.state = .valid) ∧ (code = 5 → s.cal.state ≠ .none)
    let ok5 := (code = 4 → arg ≤ 200000) ∧ (code = 5 → 1000 ≤ arg ∧ arg ≤ 2000000) ∧ (code = 9 → arg ≤ 1) ∧
      (code = 6 ∨ code = 7 ∨ code = 8 → ∃ r, s.recipes.active = some r ∧ 1 ≤ arg ∧ arg ≤ r.valveCount)
    let busy := s.weigh.zeroSet.isSome = true ∨ s.cal.held.isSome = true ∨ s.cal.store ≠ .idle
    let t := takeOrder slot s
    (¬(1 ≤ (word 1).toNat ∧ (word 1).toNat ≤ 12) → t = finishOrder slot .badKind (word 1) s) ∧
    ((word 1).toNat = code → (code, allowed) ∈ kinds →
      (¬ok2 → t = finishOrder slot .wrongState (BitVec.ofNat 32 s.part.state.code) s) ∧
      (ok2 → ¬ok3 → t = finishOrder slot .switchOff 0 s) ∧
      (ok2 → ok3 → ¬ok4 → t = finishOrder slot .calInvalid (BitVec.ofNat 32 s.cal.state.code) s) ∧
      (ok2 → ok3 → ok4 → ¬ok5 → t = finishOrder slot .badArg 1 s) ∧
      (ok2 → ok3 → ok4 → ok5 → code = 3 ∨ code = 4 ∨ code = 5 → busy → t = finishOrder slot .busy 0 s))

/-- The scan examines slots 0 to 7 in order: a slot is taken exactly when its word 0 then holds POSTED and it is not taken, each
take on the state that the ones before left, and the scan timer is loaded with 5 ms again (R181). In CLEARING and LOADING no
scan is made (R181), nor before the timer stands at its end, which is the model's reading (log 3). A posted VALVE_RELEASE within
V so taken returns a LOCKED or FAULTY valve to AVERAGING with avg, n and hard_low_run 0 and leaves one in AVERAGING or
WAIT_EFFECT; it is DONE with the state before (R130, R182, R185). The operand of the scan, CAL_SWITCH turned on, is the model's
(log 7) and changes nothing itself but the pin. -/
def Obligations.TheScanTakesThePostedOrders : Prop :=
  ∀ (slot : Slot) (v : Nat) (r : Recipe) (on : Bool) (s : State),
    let word := fun (u : State) (k n : Nat) => u.exch.read (0x0040 + 16 * k + n)
    let noted := { s with pins := { s.pins with calSwitch := s.pins.calSwitch || on } }
    let online := s.part.state = .config ∨ s.takesCans = true
    (s.orders.scan ≠ some 0 ∨ s.part.state = .clearing ∨ s.part.state = .loading → exec (.orderScan on) s = .next noted) ∧
    (s.orders.scan = some 0 → online →
      ∃ u : Nat → State, u 0 = { noted with orders := { s.orders with scan := some 50 } } ∧
        (∀ k : Slot,
          let posted := word (u k.val) k.val 0 = 1 ∧ ∀ x ∈ (u k.val).orders.taken, x.1 ≠ k
          (posted → u (k.val + 1) = takeOrder k (u k.val)) ∧ (¬posted → u (k.val + 1) = u k.val)) ∧
        exec (.orderScan on) s = .next (u 8) ∧ (u 8).orders.scan = some 50 ∧ (u 8).pins = noted.pins) ∧
    (s.orders.scan = some 0 → online → word s slot.val 0 = 1 → word s slot.val 1 = 7 →
      word s slot.val 2 = BitVec.ofNat 32 v → (∀ other : Slot, other ≠ slot → word s other.val 0 ≠ 1) → s.orders.taken = [] →
      s.recipes.active = some r → 1 ≤ v → v ≤ r.valveCount → r.valveCount ≤ 128 → s.valves.table.length = 128 →
      ((valveAt s v).state ≠ .waitEffect → (valveAt s v).awaitedGen = none) →
      let x := valveAt s v
      ∃ t, exec (.orderScan on) s = .next t ∧
        (x.state = .locked ∨ x.state = .faulty →
          valveAt t v = { x with state := .averaging, avg := 0, n := 0, hardLowRun := 0 } ∧ (valveAt t v).awaitedGen = none) ∧
        (x.state = .averaging ∨ x.state = .waitEffect → valveAt t v = x) ∧
        (∀ u, u ≠ v → valveAt t u = valveAt s u) ∧ t.valves.table.length = s.valves.table.length ∧
        t.valves.loop = s.valves.loop ∧ t.valves.snapshots = s.valves.snapshots ∧ t.pins = noted.pins ∧
        t.exch = s.exch.finishSlot slot .done (BitVec.ofNat 32 x.state.code) ∧ t.orders.taken = [] ∧
        t.orders.scan = some 50 ∧ ChangesOnly [.pins, .valves, .orders, .exch] s t)

/-- VALVE_LOCK makes a valve LOCKED from any state (R129); VALVE_TRIM writes its wanted trim, clamped to the trim limit, and
puts a valve of the loop in WAIT_EFFECT (R131, R121); LOOP_SET sets the loop setting (R132); SNAPSHOT raises the count and
writes header and entries (R133). Each is DONE with its detail. -/
def Obligations.TheValveOrdersAreCarriedOut : Prop :=
  ∀ (slot : Slot) (v : Nat) (r : Recipe) (s : State), s.part.state = .config ∨ s.takesCans = true →
    s.recipes.active = some r → r.valveCount ≤ 128 → 1 ≤ v → v ≤ r.valveCount → s.valves.table.length = 128 →
    s.dose.trims.length = 128 →
    let line := 0x0040 + 16 * slot.val
    let word := fun n => s.exch.read (line + n)
    let x := valveAt s v
    let t := takeOrder slot s
    let done := fun (detail : Word) => t.exch = s.exch.finishSlot slot .done detail
    (word 1 = 6 → word 2 = BitVec.ofNat 32 v →
      valveAt t v = { x with state := .locked, awaitedGen := none } ∧ (∀ u, u ≠ v → valveAt t u = valveAt s u) ∧
      done (BitVec.ofNat 32 x.state.code) ∧ ChangesOnly [.valves, .orders, .exch] s t) ∧
    (word 1 = 8 → word 2 = BitVec.ofNat 32 v →
      let w : Int := max (-(r.trimLimit : Int)) (min (r.trimLimit : Int) (word 3).toInt)
      trimAt t v = { trimAt s v with wanted := w } ∧ (∀ u, u ≠ v → trimAt t u = trimAt s u) ∧
      t.dose = { s.dose with trims := t.dose.trims } ∧
      (x.state = .locked ∨ x.state = .faulty → t.valves = s.valves) ∧
      (x.state = .averaging ∨ x.state = .waitEffect →
        valveAt t v = { x with
          state := .waitEffect, n := 0
          awaitedGen := if w = (trimAt s v).served ∧ s.dose.inflight = none then s.dose.served else none } ∧
        ∀ u, u ≠ v → valveAt t u = valveAt s u) ∧
      done (BitVec.ofInt 32 w) ∧ ChangesOnly [.valves, .dose, .orders, .exch] s t) ∧
    (word 1 = 9 → (word 2).toNat ≤ 1 →
      t.valves = { s.valves with loop := decide (word 2 = 1) } ∧
      done (if s.valves.loop then 1 else 0) ∧ ChangesOnly [.valves, .orders, .exch] s t) ∧
    (word 1 = 10 →
      let count := s.valves.snapshots + 1
      let entry := fun (n : Nat) => t.exch.read (0x0610 + 8 * (v - 1) + n)
      t.valves = { s.valves with snapshots := count } ∧
      t.exch.read 0x0600 = count ∧ t.exch.read 0x0601 = s.exch.timeTag ∧
      t.exch.read 0x0602 = BitVec.ofNat 32 s.part.state.code ∧ t.exch.read 0x0603 = BitVec.ofNat 32 r.valveCount ∧
      t.exch.read 0x0604 = (if s.valves.loop then 1 else 0) ∧ t.exch.read 0x0605 = (if s.dose.served.isSome then 1 else 0) ∧
      t.exch.read 0x0606 = BitVec.ofNat 32 s.dose.link.code ∧ t.exch.read 0x0607 = (s.dose.served.getD 0).setWidth 32 ∧
      (x.n ≤ 255 → x.hardLowRun ≤ 3 →
        (entry 0).toNat % 8 = x.state.code ∧ (entry 0).toNat / 256 % 256 = x.n ∧
        (entry 0).toNat / 65536 % 4 = x.hardLowRun ∧ (entry 0).getLsbD 20 = x.effectGen.isSome ∧
        (entry 0).getLsbD 21 = x.awaitedGen.isSome) ∧
      entry 1 = BitVec.ofInt 32 x.avg ∧ (entry 2).toNat % 65536 = (x.effectGen.getD 0).toNat ∧
      (entry 2).toNat / 65536 = (x.awaitedGen.getD 0).toNat ∧ entry 3 = BitVec.ofInt 32 x.lastNet ∧
      entry 4 = x.cansSeen ∧ entry 5 = BitVec.ofInt 32 (trimAt s v).wanted ∧ entry 6 = BitVec.ofInt 32 (trimAt s v).served ∧
      (s.dose.inflight = none → (x.n ≤ 255 → x.hardLowRun ≤ 3 → (entry 0).getLsbD 22 = false) ∧ entry 7 = 0) ∧
      (∀ m a, s.dose.inflight = some m → m.list = [(v, a)] →
        (x.n ≤ 255 → x.hardLowRun ≤ 3 → (entry 0).getLsbD 22 = true) ∧ entry 7 = BitVec.ofInt 32 a) ∧
      t.exch.read line = 3 ∧ t.exch.read (line + 9) = count ∧
      (∀ a, ¬(0x0600 ≤ a ∧ a < 0x0608) → ¬(0x0610 ≤ a ∧ a < 0x0A10) → ¬(line ≤ a ∧ a < line + 16) →
        t.exch.read a = s.exch.read a) ∧
      ChangesOnly [.valves, .orders, .exch] s t)

/-- ZERO_SET and CAL_ZERO on an occupied platform are refused DISTURBED, else an order of the calibration class starts its
averaging, stops zero tracking and is held (R19, R25); LOT_CLOSE closes the active lot with cause ORDER and opens the next
(R163, R161, R162); FAULT_CLEAR leaves FAULT_STOP for the state LINE_RUN gives, with the cause and STOP_REQ gone, STATE_CHANGE
of reason FAULT_CLEAR, and the order DONE with the code of the cause, and enters it again at once where the converter is SILENT
(R175, R2). What a closed lot's record and events hold is said of the minute step; the memory spoken of is the model's
(log 5). -/
def Obligations.TheOtherOrdersAreCarriedOut : Prop :=
  ∀ (slot : Slot) (r : Recipe) (l : Lot) (s : State),
    let line := 0x0040 + 16 * slot.val
    let word := fun n => s.exch.read (line + n)
    let fresh : Averaging := { sum := 0, n := 0, low := none, high := none, overload := false }
    let idle := s.weigh.zeroSet = none ∧ s.cal.held = none ∧ s.cal.store = .idle
    let t := takeOrder slot s
    let starts := fun (w : Weigh) (o : Owner) =>
      t.weigh = { w with tracking := false, acc := t.weigh.acc } ∧ t.weigh.acc.n = 0 ∧ t.weigh.acc.sum = 0 ∧
      t.orders = { s.orders with taken := s.orders.taken ++ [(slot, o)] } ∧ t.exch = s.exch.write line [2]
    (word 1 = 3 → s.part.state = .stopped → s.cal.state = .valid → idle →
      (s.weigh.platform ≠ [] → t = finishOrder slot .disturbed 0 s) ∧
      (s.weigh.platform = [] →
        starts { s.weigh with zeroSet := some { slot := slot, avg := fresh } } .weigh ∧
        ChangesOnly [.weigh, .orders, .exch] s t)) ∧
    (word 1 = 4 → s.part.state = .config ∨ s.part.state = .stopped → s.pins.calSwitch = true → (word 2).toNat ≤ 200000 →
      idle →
      (s.weigh.platform ≠ [] → t = finishOrder slot .disturbed 0 s) ∧
      (s.weigh.platform = [] →
        t.cal = { s.cal with
          held := some slot, averaging := some { kind := .zero, arg := (word 2).toNat, avg := fresh } } ∧
        starts s.weigh .calibration ∧ ChangesOnly [.weigh, .cal, .orders, .exch] s t)) ∧
    (word 1 = 5 → s.part.state = .config ∨ s.part.state = .stopped → s.pins.calSwitch = true → s.cal.state ≠ .none →
      1000 ≤ (word 2).toNat → (word 2).toNat ≤ 2000000 → idle →
      t.cal = { s.cal with
        held := some slot, averaging := some { kind := .span, arg := (word 2).toNat, avg := fresh } } ∧
      starts s.weigh .calibration ∧ ChangesOnly [.weigh, .cal, .orders, .exch] s t) ∧
    (word 1 = 2 → s.part.state = .stopped ∨ s.part.state = .run → s.recipes.active = some r →
      s.recipes.activeLot = some l →
      t.recipes = { s.recipes with
        activeLot := some (freshLot s.recipes.nextLot r s.exch.timeTag), nextLot := nextNumber s.recipes.nextLot
        fine := 600, finePhase := t.recipes.finePhase, closedPos := s.recipes.closedPos + 1 } ∧
      t.exch = ((((lotCloseEvents l r.nominal .order (s.exch.write (0x0300 + 32 * s.recipes.closedPos.val)
        (closedLotWords l s.exch.timeTag .order r.nominal))).raiseNotice .lot).write 0x00C1
        [BitVec.ofNat 32 r.lotMinutes]).finishSlot slot .done (BitVec.ofNat 32 l.index)) ∧
      ChangesOnly [.recipes, .orders, .exch] s t) ∧
    (word 1 = 12 → s.part.state = .faultStop →
      let new : PartState := if s.pins.lineRun then .run else .stopped
      let cleared := (s.exch.event .stateChange new.code 5 9).finishSlot slot .done
        (BitVec.ofNat 32 (causeCode s.part.cause))
      t.weigh.platform = s.weigh.platform ∧ t.weigh.z = s.weigh.z ∧
      (s.weigh.converter = .live →
        t.part = { state := new, cause := none, stopReq := false } ∧ t.exch = cleared ∧
        t.weigh.jam = (if s.pins.lineRun = true ∧ s.weigh.platform ≠ [] then
          .running ((activeRecipe s).maxDwell * 10) (activeRecipe s).maxDwell else .stopped) ∧
        ChangesOnly [.part, .weigh, .orders, .exch] s t) ∧
      (s.weigh.converter = .silent → s.weigh.zeroSet = none → s.cal.held = none → s.cal.averaging = none →
        t.part = { state := .faultStop, cause := some .converterFault, stopReq := true } ∧ t.weigh.jam = .stopped ∧
        t.exch = (cleared.event .stateChange 5 (BitVec.ofNat 32 new.code) 8).raiseNotice .fault ∧
        ChangesOnly [.part, .weigh, .orders, .exch] s t))

/-- The drain ends when the last RETIRING entry leaves: the retiring lot closes with cause DRAINED, RETIRING becomes absent, the
order held is DONE with B, and RETIRING_DRAINED 1 is raised; while another RETIRING entry remains nothing of it happens (R158,
R162, R166). TRACK_FLUSH removes every entry as FLUSHED, the pending reads and the open weighings, and ends a drain with cause
FLUSH and RETIRING_DRAINED 2 (R60, R9, R159). What a closed lot's record and events hold is said of the minute step; the memory
spoken of is the model's (log 5). -/
def Obligations.TheDrainEndsAtTheLastEntryOrAFlush : Prop :=
  ∀ (before after : List Entry) (e : Entry) (r : Recipe) (l : Lot) (held slot : Slot) (s : State),
    let b := s.recipes.boundary.setWidth 32
    let records := s.track.entries.foldl (fun m x => m.logRecord (logWords x .flushed)) s.exch
    let ends := fun (x : Exchange) (cause : LotCause) (how : Nat) =>
      (((lotCloseEvents l r.nominal cause (x.write (0x0300 + 32 * s.recipes.closedPos.val)
        (closedLotWords l s.exch.timeTag cause r.nominal))).raiseNotice .lot).finishSlot held .done b).event .retiringDrained
        how b (BitVec.ofNat 32 l.index)
    let cleared := { s.recipes with
      retiring := none, retiringLot := none, held := none, closedPos := s.recipes.closedPos + 1 }
    (s.takesCans = true → s.track.entries = before ++ e :: after → (∀ x ∈ before, x.stage ≠ .pastReject) →
      (∀ x ∈ before, x.serial ≠ e.serial) → e.stage = .pastReject → e.decision = some .accept →
      s.recipes.retiring = some r → s.recipes.retiringLot = some l → s.recipes.held = some held →
      ∃ t, exec .confirmEyeArrival s = .next t ∧ t.track = { s.track with entries := before ++ after } ∧
        ((∃ x ∈ before ++ after, x.recipe = .retiring) →
          t.exch = s.exch.logRecord (logWords e .passed) ∧ ChangesOnly [.track, .exch] s t) ∧
        ((∀ x ∈ before ++ after, x.recipe ≠ .retiring) →
          t.exch = ends (s.exch.logRecord (logWords e .passed)) .drained 1 ∧ t.recipes = cleared ∧
          t.orders = { s.orders with taken := s.orders.taken.filter (fun x => decide (x.1 ≠ held)) } ∧
          ChangesOnly [.track, .recipes, .orders, .exch] s t)) ∧
    (s.exch.read (0x0040 + 16 * slot.val + 1) = 11 → s.part.state = .stopped ∨ s.part.state = .faultStop →
      let t := takeOrder slot s
      let n := BitVec.ofNat 32 s.track.entries.length
      t.track = { s.track with entries := [], reads := [] } ∧ t.weigh.platform = [] ∧ t.weigh.jam = .stopped ∧
      t.weigh.z = s.weigh.z ∧ t.weigh.samples = s.weigh.samples ∧ t.weigh.zeroSet = s.weigh.zeroSet ∧
      (s.recipes.retiring = none →
        t.exch = records.finishSlot slot .done n ∧ ChangesOnly [.track, .weigh, .orders, .exch] s t) ∧
      (s.recipes.retiring = some r → s.recipes.retiringLot = some l → s.recipes.held = some held →
        t.exch = (ends records .flush 2).finishSlot slot .done n ∧ t.recipes = cleared ∧
        (∀ x, x ∈ t.orders.taken ↔ x ∈ s.orders.taken ∧ x.1 ≠ held ∧ x.1 ≠ slot) ∧
        ChangesOnly [.track, .weigh, .recipes, .orders, .exch] s t))

/-- A CHANGEOVER is refused BUSY while one is held or a recipe retires (R154). With a valid staged recipe it becomes, in STOPPED
and RUN, NEXT and the changeover pending and stays TAKEN (R149, R156). In CONFIG the recipe is in force at once: an open lot
closes with cause ORDER, the Dose Table becomes UNSYNCED, the valves and the wanted trims are set against the new V, limit and
clear_trims (R111), a lot opens, the order is DONE with its index, and with the calibration VALID the part leaves for the state
LINE_RUN gives (R155, R171). What a closed lot's record and events hold is said of the minute step, which valid recipes there
are is another statement's, and the memory spoken of is the model's (log 5). -/
def Obligations.AChangeoverIsTaken : Prop :=
  ∀ (slot : Slot) (s : State), s.exch.read (0x0040 + 16 * slot.val + 1) = 1 →
    let staged := fun k => s.exch.read (0x0100 + k)
    let r := recipeCopy staged
    let free := s.recipes.held = none ∧ s.recipes.retiring = none ∧ recipeFailure staged = none
    let t := takeOrder slot s
    (s.part.state = .config ∨ s.part.state = .stopped ∨ s.part.state = .run →
      s.recipes.held ≠ none ∨ s.recipes.retiring ≠ none → t = finishOrder slot .busy 0 s) ∧
    (s.part.state = .stopped ∨ s.part.state = .run → free →
      t.recipes = { s.recipes with next := some r, held := some slot } ∧
      t.dose = { s.dose with changeover := some ⟨r.target, r.trimLimit, r.clearTrims, r.valveCount⟩ } ∧
      t.orders = { s.orders with taken := s.orders.taken ++ [(slot, .recipeAndLot)] } ∧
      t.exch = s.exch.write (0x0040 + 16 * slot.val) [2] ∧ ChangesOnly [.recipes, .dose, .orders, .exch] s t) ∧
    (s.part.state = .config → free → s.weigh.converter = .live → s.cal.averaging = none →
      let line : PartState := if s.pins.lineRun then .run else .stopped
      let closed := match s.recipes.activeLot with
        | none => s.exch
        | some l => (lotCloseEvents l (activeRecipe s).nominal .order (s.exch.write (0x0300 + 32 * s.recipes.closedPos.val)
            (closedLotWords l s.exch.timeTag .order (activeRecipe s).nominal))).raiseNotice .lot
      let done := (closed.write 0x00C1 [BitVec.ofNat 32 r.lotMinutes]).finishSlot slot .done
        (BitVec.ofNat 32 s.recipes.nextLot)
      t.recipes = { s.recipes with
        active := some r, activeLot := some (freshLot s.recipes.nextLot r s.exch.timeTag)
        nextLot := nextNumber s.recipes.nextLot, fine := 600, finePhase := t.recipes.finePhase
        closedPos := if s.recipes.activeLot.isSome then s.recipes.closedPos + 1 else s.recipes.closedPos } ∧
      t.dose = { s.dose with served := none, base := 0, limit := 0, rr := 0, trims := t.dose.trims } ∧
      t.dose.trims.length = s.dose.trims.length ∧
      (∀ v, 1 ≤ v → v ≤ s.dose.trims.length → (trimAt t v).served = 0 ∧ (trimAt t v).wanted =
        (if r.valveCount < v ∨ r.clearTrims = true then 0 else clampAbs r.trimLimit (trimAt s v).wanted)) ∧
      (∀ v, 1 ≤ v → v ≤ s.valves.table.length →
        let x := valveAt s v
        let zeroed := { x with avg := 0, n := 0, hardLowRun := 0, effectGen := none, awaitedGen := none }
        valveAt t v = (if r.valveCount < v then { zeroed with state := .idle }
          else if x.state = .locked ∨ x.state = .faulty then x else { zeroed with state := .averaging })) ∧
      t.valves.loop = s.valves.loop ∧ t.valves.snapshots = s.valves.snapshots ∧
      t.orders = { s.orders with taken := s.orders.taken.filter (fun x => decide (x.1 ≠ slot)) } ∧
      (s.cal.state = .valid →
        t.part = { s.part with state := line } ∧ t.exch = done.event .stateChange line.code 2 3) ∧
      (s.cal.state ≠ .valid → t.part = s.part ∧ t.weigh = s.weigh ∧ t.exch = done) ∧
      t.weigh.platform = s.weigh.platform ∧ t.weigh.z = s.weigh.z ∧
      ChangesOnly [.part, .weigh, .valves, .dose, .recipes, .orders, .exch] s t)

/-- A CHANGEOVER reads the 31 fields of the staged recipe in the order of their numbers against the accepted values of the
recipe table; the first that fails refuses the order BAD_RECIPE with its number (R153, R154). A recipe that passes every check
is copied whole (R153). -/
def Obligations.TheStagedRecipeIsChecked : Prop :=
  ∀ (slot : Slot) (n : Nat) (s : State), s.part.state = .config ∨ s.part.state = .stopped ∨ s.part.state = .run →
    s.exch.read (0x0040 + 16 * slot.val + 1) = 1 → s.recipes.held = none → s.recipes.retiring = none →
    let word := fun k => s.exch.read (0x0100 + k)
    let byte := fun k => (word (1 + k / 4)).toNat / 256 ^ (3 - k % 4) % 256
    let f := fun k => (word (k + 2)).toNat
    let text := ∃ c, 1 ≤ c ∧ c ≤ 12 ∧ (∀ k, k < c → 0x20 ≤ byte k ∧ byte k ≤ 0x7E) ∧ (∀ k, c ≤ k → k < 12 → byte k = 0)
    let ok := fun k => match k with
      | 1 => text
      | 2 => 1000 ≤ f 2 ∧ f 2 ≤ 1500000
      | 3 => f 2 ≤ f 3 ∧ f 3 ≤ f 2 + 100000
      | 4 => f 4 ≤ 200000
      | 5 => 1 ≤ f 5 ∧ f 5 ≤ 500000 ∧ f 5 < f 2
      | 6 => f 6 < f 5
      | 7 => 1 ≤ f 7 ∧ f 7 ≤ 500000
      | 8 => f 8 ≤ 1
      | 9 => f 9 ≤ 65535
      | 10 => f 10 ≤ 4000000000
      | 11 => f 11 ≤ 10080
      | 12 => 8 ≤ f 12 ∧ f 12 ≤ 128
      | 13 => 1 ≤ f 13 ∧ f 13 ≤ 6
      | 14 => 1 ≤ f 14 ∧ f 14 ≤ 64
      | 15 => f 15 ≤ 10000
      | 16 => 1 ≤ f 16 ∧ f 16 ≤ 100
      | 17 => 1 ≤ f 17 ∧ f 17 ≤ 5000
      | 18 => f 18 ≤ 20000
      | 19 => f 19 ≤ 1
      | 20 => f 20 ≤ 500
      | 21 => f 21 ≤ 500
      | 22 => 2 ≤ f 22 ∧ f 22 ≤ 64
      | 23 => 1 ≤ f 23 ∧ f 23 ≤ 1000000
      | 24 => 20 ≤ f 24 ∧ f 24 ≤ 2000 ∧ f 20 + f 21 < f 24 * 10
      | 25 => 5 ≤ f 25 ∧ f 25 ≤ 500
      | 26 => f 26 ≤ 1
      | 27 => 1 ≤ f 27 ∧ f 27 ≤ 4
      | 28 => 5 ≤ f 28 ∧ f 28 ≤ 50
      | 29 => 10 ≤ f 29 ∧ f 29 ≤ 1000
      | 30 => 50 ≤ f 30 ∧ f 30 ≤ 5000
      | 31 => 1 ≤ f 31 ∧ f 31 ≤ 20000
      | _ => True
    let grade : Nat → Grade := fun k => match k with | 1 => .a | 2 => .b | 3 => .c | _ => .d
    let t := takeOrder slot s
    (1 ≤ n → n ≤ 31 → (∀ k, 1 ≤ k → k < n → ok k) → ¬ok n → t = finishOrder slot .badRecipe (BitVec.ofNat 32 n) s) ∧
    ((∀ k, 1 ≤ k → k ≤ 31 → ok k) →
      ∃ r, (s.part.state = .config → t.recipes.active = some r) ∧ (s.part.state ≠ .config → t.recipes.next = some r) ∧
        (∀ k, k < 12 → (r.lotText.getD k 0).toNat = byte k) ∧ r.lotText.length ≤ 12 ∧ (∀ c ∈ r.lotText, c ≠ 0) ∧
        r = { r with
          nominal := f 2, target := f 3, containerTare := f 4, hardDev := f 5, softDev := f 6, overDev := f 7
          rejectOver := decide (f 8 = 1), softAllowance := f 9, lotCanLimit := f 10, lotMinutes := f 11, valveCount := f 12
          smoothing := f 13, sampleMin := f 14, deadband := f 15, gain := f 16, stepLimit := f 17, trimLimit := f 18
          clearTrims := decide (f 19 = 1), settle := f 20, guard := f 21, minSamples := f 22, stability := f 23
          maxDwell := f 24, readTimeout := f 25, codeRequired := decide (f 26 = 1), minGrade := grade (f 27)
          rejectPulse := f 28, confirmWindow := f 29, missingWindow := f 30, zeroBand := f 31 } ∧
        r.rest.length = 94 ∧ (∀ k, k < 94 → r.rest.getD k 0 = word (34 + k)))

/-! ## Rules over every step -/

/-- The state after full reset meets every condition that the steps keep. -/
def Obligations.TheResetStateIsLegal : Prop :=
  let s := State.reset
  PartLegal s ∧ HeldLegal s ∧ Configured s ∧ RecipesLegal s ∧ ChangeoverLegal s ∧ RetiringLegal s ∧ CalLegal s ∧ JamLegal s ∧
  TrackingLegal s ∧ ListsBounded s ∧ TrackLegal s ∧ NextSerialFree s ∧ LotsLegal s ∧ ValvesLegal s ∧ DoseLegal s ∧
  TakenLegal s ∧ MemoryLegal s ∧ AttnLegal s ∧ DriveLegal s ∧ ReaderTxLegal s

/-- Every step keeps the exchange memory in its canonical form, ATTN as NOTICE and NOTICE_MASK give it (R195), REJECT_DRIVE as
the driver's state gives it (R101) and TX of the reader link at the idle level (R63), and while a source holds the reset every
block at its full reset value (R169; when a source lets go is the model's reading, log 28). A step is a command, or on an empty
queue a unit of time (log 1). -/
def Obligations.EveryStepKeepsTheMemoryAndTheOutputs : Prop :=
  ∀ s t : State, step s = .next t →
    (MemoryLegal s → MemoryLegal t) ∧ (AttnLegal s → AttnLegal t) ∧ (DriveLegal s → DriveLegal t) ∧
    (ReaderTxLegal s → ReaderTxLegal t) ∧ (HeldLegal s → HeldLegal t)

/-- Every step keeps STOP_REQ and the cause to FAULT_STOP and RUN and STOPPED to their LINE_RUN level (R172, R175); a part that
takes cans keeps a VALID calibration and an ACTIVE recipe, a changeover its NEXT recipe, and a RETIRING entry its recipe (R152,
R171). -/
def Obligations.EveryStepKeepsThePartConfigured : Prop :=
  ∀ s t : State, PartLegal s → Configured s → ChangeoverLegal s → RetiringLegal s → step s = .next t →
    PartLegal t ∧ Configured t ∧ ChangeoverLegal t ∧ RetiringLegal t

/-- Every step keeps Z within zero_limit of Zc and the values of the calibration as its state gives them (R18, R23), the jam
timer to an occupied platform in RUN (R8), zero tracking to the conditions of R14, and the lists within their bounds: 64
samples, four weighings and eight pending reads (R1, R5, R43). -/
def Obligations.EveryStepKeepsTheWeighChannel : Prop :=
  ∀ s t : State, CalLegal s → JamLegal s → TrackingLegal s → ListsBounded s → step s = .next t →
    CalLegal t ∧ JamLegal t ∧ TrackingLegal t ∧ ListsBounded t

/-- Every step keeps the Can Track to 256 entries (R41), in the order of their stages (R37), with one serial each (R38) and one
entry ON_PLATFORM for each open weighing (R54), from a state whose next serial no entry bears; that an entry may stay for a
whole wrap of the serials is left open by R38 (log 35). -/
def Obligations.EveryStepKeepsTheCanTrack : Prop :=
  ∀ s t : State, TrackLegal s → NextSerialFree s → s.weigh.platform.length ≤ 4 → step s = .next t → TrackLegal t

/-- Every step keeps the taken slots to those the owning units hold, each once, with at most one order of the calibration class,
so that at most two slots are taken (R186). -/
def Obligations.EveryStepKeepsTheTakenOrders : Prop :=
  ∀ s t : State, TakenLegal s → step s = .next t → TakenLegal t ∧ t.orders.taken.length ≤ 2

/-- Every step keeps soft_used within the allowance and decided as accepted plus rejected in every open lot (R92, R94, R98),
every recipe in the ranges of the recipe table (R153), the valves legal, n in 0..64 among it (R110, R115, R117, R118), and the
message in flight with the ack timer and the link state (R137). -/
def Obligations.EveryStepKeepsLotsValvesAndDoses : Prop :=
  ∀ s t : State, step s = .next t →
    (LotsLegal s → LotsLegal t) ∧ (RecipesLegal s → RecipesLegal t) ∧ (DoseLegal s → DoseLegal t) ∧
    (ValvesLegal s → RecipesLegal s → Configured s → ValvesLegal t)

/-- The part state changes only as Part Control's transition table gives: by these commands and in these directions (R169 to
R176, the transition table of Part States and Line Stop). -/
def Obligations.ThePartStateMovesOnlyByItsEvents : Prop :=
  ∀ (c : Instr) (s t : State), c.wellFormed = true → PartLegal s → JamLegal s → exec c s = .next t →
    t.part.state = s.part.state ∨ c = .fullReset ∨
    (c = .clearingComplete ∧ s.part.state = .clearing ∧ t.part.state = .loading) ∨
    ((∃ bytes, c = .storeReadEnd bytes) ∧ s.part.state = .loading ∧ t.part.state = .config) ∨
    ((∃ count, c = .sampleArrival count) ∧ s.part.state = .config ∧ (t.part.state = .stopped ∨ t.part.state = .run)) ∨
    ((∃ on, c = .orderScan on) ∧ (s.part.state = .config ∨ s.part.state = .faultStop) ∧
      (t.part.state = .stopped ∨ t.part.state = .run ∨ t.part.state = .faultStop)) ∨
    (c = .lineRunRise ∧ s.part.state = .stopped ∧ t.part.state = .run) ∨
    (c = .lineRunFall ∧ s.part.state = .run ∧ t.part.state = .stopped) ∨
    ((c = .converterWatchExpiry ∨ c = .jamTimerExpiry ∨ c = .confirmEyeArrival) ∧
      (s.part.state = .stopped ∨ s.part.state = .run) ∧ t.part.state = .faultStop) ∨
    ((∃ value, c = .restart value) ∧ s.part.state ≠ .clearing ∧ s.part.state ≠ .loading ∧ t.part.state ≠ .clearing ∧
      t.part.state ≠ .loading)

/-- The calibration change count never falls but at a full reset and at the LOADING read. Zc, F and zero_limit change only at a
sample that completes a calibration and only with the count, which then rises by one or stands at its maximum (R31). -/
def Obligations.TheChangeCountNeverFalls : Prop :=
  ∀ (c : Instr) (s t : State), s.cal.changeCount ≤ 4294967295 → c ≠ .fullReset → (∀ bytes, c ≠ .storeReadEnd bytes) →
    exec c s = .next t →
    s.cal.changeCount ≤ t.cal.changeCount ∧ t.cal.changeCount ≤ 4294967295 ∧
    ((∀ count, c ≠ .sampleArrival count) ∨ (∀ a, s.cal.averaging = some a → a.avg.n < 255) →
      t.cal.changeCount = s.cal.changeCount ∧ t.cal.zc = s.cal.zc ∧ t.cal.f = s.cal.f ∧
      t.cal.zeroLimit = s.cal.zeroLimit ∧ t.cal.state = s.cal.state) ∧
    (t.cal.zc ≠ s.cal.zc ∨ t.cal.f ≠ s.cal.f ∨ t.cal.zeroLimit ≠ s.cal.zeroLimit →
      t.cal.changeCount = if s.cal.changeCount = 4294967295 then 4294967295 else s.cal.changeCount + 1)
end

