-- ==== Sys2Proof/Laws/FramesShared.lean ====
section
/-! SUPPORT. What each operation of the shared operations, the lots and the track leaves unchanged: one lemma an operation, naming every block that the
operation never writes. -/

namespace Sys2Proof.Machine

@[simp] theorem raiseNotice_frame (n : Notice) (s : State) :
    (raiseNotice n s).pins = s.pins ∧ (raiseNotice n s).part = s.part ∧ (raiseNotice n s).weigh = s.weigh ∧
    (raiseNotice n s).cal = s.cal ∧ (raiseNotice n s).track = s.track ∧ (raiseNotice n s).reader = s.reader ∧
    (raiseNotice n s).filler = s.filler ∧ (raiseNotice n s).reject = s.reject ∧ (raiseNotice n s).valves = s.valves ∧
    (raiseNotice n s).dose = s.dose ∧ (raiseNotice n s).recipes = s.recipes ∧ (raiseNotice n s).orders = s.orders ∧
    (raiseNotice n s).pending = s.pending := by
  unfold raiseNotice
  simp

@[simp] theorem raiseEvent_frame (k : EventKind) (arg0 : Nat) (arg1 arg2 : Word) (s : State) :
    (raiseEvent k arg0 arg1 arg2 s).pins = s.pins ∧ (raiseEvent k arg0 arg1 arg2 s).part = s.part ∧
    (raiseEvent k arg0 arg1 arg2 s).weigh = s.weigh ∧ (raiseEvent k arg0 arg1 arg2 s).cal = s.cal ∧
    (raiseEvent k arg0 arg1 arg2 s).track = s.track ∧ (raiseEvent k arg0 arg1 arg2 s).reader = s.reader ∧
    (raiseEvent k arg0 arg1 arg2 s).filler = s.filler ∧ (raiseEvent k arg0 arg1 arg2 s).reject = s.reject ∧
    (raiseEvent k arg0 arg1 arg2 s).valves = s.valves ∧ (raiseEvent k arg0 arg1 arg2 s).dose = s.dose ∧
    (raiseEvent k arg0 arg1 arg2 s).recipes = s.recipes ∧ (raiseEvent k arg0 arg1 arg2 s).orders = s.orders ∧
    (raiseEvent k arg0 arg1 arg2 s).pending = s.pending := by
  unfold raiseEvent
  simp

@[simp] theorem raiseLineEvent_frame (k : EventKind) (arg0 : Nat) (arg1 arg2 : Word) (s : State) :
    (raiseLineEvent k arg0 arg1 arg2 s).pins = s.pins ∧ (raiseLineEvent k arg0 arg1 arg2 s).part = s.part ∧
    (raiseLineEvent k arg0 arg1 arg2 s).weigh = s.weigh ∧ (raiseLineEvent k arg0 arg1 arg2 s).cal = s.cal ∧
    (raiseLineEvent k arg0 arg1 arg2 s).track = s.track ∧ (raiseLineEvent k arg0 arg1 arg2 s).reader = s.reader ∧
    (raiseLineEvent k arg0 arg1 arg2 s).filler = s.filler ∧ (raiseLineEvent k arg0 arg1 arg2 s).reject = s.reject ∧
    (raiseLineEvent k arg0 arg1 arg2 s).valves = s.valves ∧ (raiseLineEvent k arg0 arg1 arg2 s).dose = s.dose ∧
    (raiseLineEvent k arg0 arg1 arg2 s).recipes = s.recipes ∧ (raiseLineEvent k arg0 arg1 arg2 s).orders = s.orders ∧
    (raiseLineEvent k arg0 arg1 arg2 s).pending = s.pending := by
  unfold raiseLineEvent
  (repeat' split) <;> simp

@[simp] theorem finishOrder_frame (slot : Slot) (o : Outcome) (detail : Word) (s : State) :
    (finishOrder slot o detail s).pins = s.pins ∧ (finishOrder slot o detail s).part = s.part ∧
    (finishOrder slot o detail s).weigh = s.weigh ∧ (finishOrder slot o detail s).cal = s.cal ∧
    (finishOrder slot o detail s).track = s.track ∧ (finishOrder slot o detail s).reader = s.reader ∧
    (finishOrder slot o detail s).filler = s.filler ∧ (finishOrder slot o detail s).reject = s.reject ∧
    (finishOrder slot o detail s).valves = s.valves ∧ (finishOrder slot o detail s).dose = s.dose ∧
    (finishOrder slot o detail s).recipes = s.recipes ∧ (finishOrder slot o detail s).pending = s.pending := by
  unfold finishOrder
  simp

@[simp] theorem holdOrder_frame (slot : Slot) (owner : Owner) (s : State) :
    (holdOrder slot owner s).pins = s.pins ∧ (holdOrder slot owner s).part = s.part ∧
    (holdOrder slot owner s).weigh = s.weigh ∧ (holdOrder slot owner s).cal = s.cal ∧
    (holdOrder slot owner s).track = s.track ∧ (holdOrder slot owner s).reader = s.reader ∧
    (holdOrder slot owner s).filler = s.filler ∧ (holdOrder slot owner s).reject = s.reject ∧
    (holdOrder slot owner s).valves = s.valves ∧ (holdOrder slot owner s).dose = s.dose ∧
    (holdOrder slot owner s).recipes = s.recipes ∧ (holdOrder slot owner s).pending = s.pending := by
  unfold holdOrder
  simp

@[simp] theorem refreshZero_frame (s : State) :
    (refreshZero s).pins = s.pins ∧ (refreshZero s).part = s.part ∧ (refreshZero s).cal = s.cal ∧
    (refreshZero s).track = s.track ∧ (refreshZero s).reader = s.reader ∧ (refreshZero s).filler = s.filler ∧
    (refreshZero s).reject = s.reject ∧ (refreshZero s).valves = s.valves ∧ (refreshZero s).dose = s.dose ∧
    (refreshZero s).recipes = s.recipes ∧ (refreshZero s).orders = s.orders ∧ (refreshZero s).exch = s.exch ∧
    (refreshZero s).pending = s.pending := by
  unfold refreshZero
  (repeat' split) <;> simp

@[simp] theorem changePart_frame (new : PartState) (why : ChangeReason) (s : State) :
    (changePart new why s).pins = s.pins ∧ (changePart new why s).cal = s.cal ∧
    (changePart new why s).track = s.track ∧ (changePart new why s).reader = s.reader ∧
    (changePart new why s).filler = s.filler ∧ (changePart new why s).reject = s.reject ∧
    (changePart new why s).valves = s.valves ∧ (changePart new why s).dose = s.dose ∧
    (changePart new why s).recipes = s.recipes ∧ (changePart new why s).orders = s.orders ∧
    (changePart new why s).pending = s.pending := by
  unfold changePart
  simp

@[simp] theorem endZeroSet_frame (o : Outcome) (detail : Word) (s : State) :
    (endZeroSet o detail s).pins = s.pins ∧ (endZeroSet o detail s).part = s.part ∧
    (endZeroSet o detail s).cal = s.cal ∧ (endZeroSet o detail s).track = s.track ∧
    (endZeroSet o detail s).reader = s.reader ∧ (endZeroSet o detail s).filler = s.filler ∧
    (endZeroSet o detail s).reject = s.reject ∧ (endZeroSet o detail s).valves = s.valves ∧
    (endZeroSet o detail s).dose = s.dose ∧ (endZeroSet o detail s).recipes = s.recipes ∧
    (endZeroSet o detail s).pending = s.pending := by
  unfold endZeroSet
  (repeat' split) <;> simp

@[simp] theorem finishHeldCal_frame (o : Outcome) (detail : Word) (s : State) :
    (finishHeldCal o detail s).pins = s.pins ∧ (finishHeldCal o detail s).part = s.part ∧
    (finishHeldCal o detail s).weigh = s.weigh ∧ (finishHeldCal o detail s).track = s.track ∧
    (finishHeldCal o detail s).reader = s.reader ∧ (finishHeldCal o detail s).filler = s.filler ∧
    (finishHeldCal o detail s).reject = s.reject ∧ (finishHeldCal o detail s).valves = s.valves ∧
    (finishHeldCal o detail s).dose = s.dose ∧ (finishHeldCal o detail s).recipes = s.recipes ∧
    (finishHeldCal o detail s).pending = s.pending := by
  unfold finishHeldCal
  (repeat' split) <;> simp

@[simp] theorem endCalAveraging_frame (o : Outcome) (detail : Word) (s : State) :
    (endCalAveraging o detail s).pins = s.pins ∧ (endCalAveraging o detail s).part = s.part ∧
    (endCalAveraging o detail s).track = s.track ∧ (endCalAveraging o detail s).reader = s.reader ∧
    (endCalAveraging o detail s).filler = s.filler ∧ (endCalAveraging o detail s).reject = s.reject ∧
    (endCalAveraging o detail s).valves = s.valves ∧ (endCalAveraging o detail s).dose = s.dose ∧
    (endCalAveraging o detail s).recipes = s.recipes ∧ (endCalAveraging o detail s).pending = s.pending := by
  unfold endCalAveraging
  (repeat' split) <;> simp

@[simp] theorem abortStoreOrder_frame (s : State) :
    (abortStoreOrder s).pins = s.pins ∧ (abortStoreOrder s).part = s.part ∧ (abortStoreOrder s).weigh = s.weigh ∧
    (abortStoreOrder s).track = s.track ∧ (abortStoreOrder s).reader = s.reader ∧
    (abortStoreOrder s).filler = s.filler ∧ (abortStoreOrder s).reject = s.reject ∧
    (abortStoreOrder s).valves = s.valves ∧ (abortStoreOrder s).dose = s.dose ∧
    (abortStoreOrder s).recipes = s.recipes ∧ (abortStoreOrder s).pending = s.pending := by
  unfold abortStoreOrder
  (repeat' split) <;> simp

@[simp] theorem enterFaultStop_frame (c : Cause) (s : State) :
    (enterFaultStop c s).pins = s.pins ∧ (enterFaultStop c s).track = s.track ∧
    (enterFaultStop c s).reader = s.reader ∧ (enterFaultStop c s).filler = s.filler ∧
    (enterFaultStop c s).reject = s.reject ∧ (enterFaultStop c s).valves = s.valves ∧
    (enterFaultStop c s).dose = s.dose ∧ (enterFaultStop c s).recipes = s.recipes ∧
    (enterFaultStop c s).pending = s.pending := by
  unfold enterFaultStop
  simp

@[simp] theorem handCause_frame (c : Cause) (s : State) :
    (handCause c s).pins = s.pins ∧ (handCause c s).track = s.track ∧ (handCause c s).reader = s.reader ∧
    (handCause c s).filler = s.filler ∧ (handCause c s).reject = s.reject ∧ (handCause c s).valves = s.valves ∧
    (handCause c s).dose = s.dose ∧ (handCause c s).recipes = s.recipes ∧ (handCause c s).pending = s.pending := by
  unfold handCause
  (repeat' split) <;> simp

@[simp] theorem silentCheck_frame (s : State) :
    (silentCheck s).pins = s.pins ∧ (silentCheck s).track = s.track ∧ (silentCheck s).reader = s.reader ∧
    (silentCheck s).filler = s.filler ∧ (silentCheck s).reject = s.reject ∧ (silentCheck s).valves = s.valves ∧
    (silentCheck s).dose = s.dose ∧ (silentCheck s).recipes = s.recipes ∧ (silentCheck s).pending = s.pending := by
  unfold silentCheck
  (repeat' split) <;> simp

@[simp] theorem readinessTest_frame (s : State) :
    (readinessTest s).pins = s.pins ∧ (readinessTest s).track = s.track ∧ (readinessTest s).reader = s.reader ∧
    (readinessTest s).filler = s.filler ∧ (readinessTest s).reject = s.reject ∧ (readinessTest s).valves = s.valves ∧
    (readinessTest s).dose = s.dose ∧ (readinessTest s).recipes = s.recipes ∧ (readinessTest s).pending = s.pending := by
  unfold readinessTest
  (repeat' split) <;> simp

@[simp] theorem setLot_frame (ref : RecipeRef) (l : Option Lot) (s : State) :
    (setLot ref l s).pins = s.pins ∧ (setLot ref l s).part = s.part ∧ (setLot ref l s).weigh = s.weigh ∧
    (setLot ref l s).cal = s.cal ∧ (setLot ref l s).track = s.track ∧ (setLot ref l s).reader = s.reader ∧
    (setLot ref l s).filler = s.filler ∧ (setLot ref l s).reject = s.reject ∧ (setLot ref l s).valves = s.valves ∧
    (setLot ref l s).dose = s.dose ∧ (setLot ref l s).orders = s.orders ∧ (setLot ref l s).exch = s.exch ∧
    (setLot ref l s).pending = s.pending := by
  unfold setLot
  (repeat' split) <;> simp

@[simp] theorem openLot_frame (s : State) :
    (openLot s).pins = s.pins ∧ (openLot s).part = s.part ∧ (openLot s).weigh = s.weigh ∧ (openLot s).cal = s.cal ∧
    (openLot s).track = s.track ∧ (openLot s).reader = s.reader ∧ (openLot s).filler = s.filler ∧
    (openLot s).reject = s.reject ∧ (openLot s).valves = s.valves ∧ (openLot s).dose = s.dose ∧
    (openLot s).orders = s.orders ∧ (openLot s).pending = s.pending := by
  unfold openLot
  simp

@[simp] theorem fileLot_frame (l : Lot) (r : Recipe) (c : LotCause) (s : State) :
    (fileLot l r c s).pins = s.pins ∧ (fileLot l r c s).part = s.part ∧ (fileLot l r c s).weigh = s.weigh ∧
    (fileLot l r c s).cal = s.cal ∧ (fileLot l r c s).track = s.track ∧ (fileLot l r c s).reader = s.reader ∧
    (fileLot l r c s).filler = s.filler ∧ (fileLot l r c s).reject = s.reject ∧ (fileLot l r c s).valves = s.valves ∧
    (fileLot l r c s).dose = s.dose ∧ (fileLot l r c s).orders = s.orders ∧ (fileLot l r c s).pending = s.pending := by
  unfold fileLot
  simp

@[simp] theorem closeActiveLot_frame (c : LotCause) (s : State) :
    (closeActiveLot c s).pins = s.pins ∧ (closeActiveLot c s).part = s.part ∧ (closeActiveLot c s).weigh = s.weigh ∧
    (closeActiveLot c s).cal = s.cal ∧ (closeActiveLot c s).track = s.track ∧
    (closeActiveLot c s).reader = s.reader ∧ (closeActiveLot c s).filler = s.filler ∧
    (closeActiveLot c s).reject = s.reject ∧ (closeActiveLot c s).valves = s.valves ∧
    (closeActiveLot c s).dose = s.dose ∧ (closeActiveLot c s).orders = s.orders ∧
    (closeActiveLot c s).pending = s.pending := by
  unfold closeActiveLot
  (repeat' split) <;> simp

@[simp] theorem closeRetiringLot_frame (c : LotCause) (s : State) :
    (closeRetiringLot c s).pins = s.pins ∧ (closeRetiringLot c s).part = s.part ∧
    (closeRetiringLot c s).weigh = s.weigh ∧ (closeRetiringLot c s).cal = s.cal ∧
    (closeRetiringLot c s).track = s.track ∧ (closeRetiringLot c s).reader = s.reader ∧
    (closeRetiringLot c s).filler = s.filler ∧ (closeRetiringLot c s).reject = s.reject ∧
    (closeRetiringLot c s).valves = s.valves ∧ (closeRetiringLot c s).dose = s.dose ∧
    (closeRetiringLot c s).orders = s.orders ∧ (closeRetiringLot c s).pending = s.pending := by
  unfold closeRetiringLot
  (repeat' split) <;> simp

@[simp] theorem reopenActiveLot_frame (c : LotCause) (s : State) :
    (reopenActiveLot c s).pins = s.pins ∧ (reopenActiveLot c s).part = s.part ∧
    (reopenActiveLot c s).weigh = s.weigh ∧ (reopenActiveLot c s).cal = s.cal ∧
    (reopenActiveLot c s).track = s.track ∧ (reopenActiveLot c s).reader = s.reader ∧
    (reopenActiveLot c s).filler = s.filler ∧ (reopenActiveLot c s).reject = s.reject ∧
    (reopenActiveLot c s).valves = s.valves ∧ (reopenActiveLot c s).dose = s.dose ∧
    (reopenActiveLot c s).orders = s.orders ∧ (reopenActiveLot c s).pending = s.pending := by
  unfold reopenActiveLot
  simp

@[simp] theorem finishHeldChangeover_frame (o : Outcome) (detail : Word) (s : State) :
    (finishHeldChangeover o detail s).pins = s.pins ∧ (finishHeldChangeover o detail s).part = s.part ∧
    (finishHeldChangeover o detail s).weigh = s.weigh ∧ (finishHeldChangeover o detail s).cal = s.cal ∧
    (finishHeldChangeover o detail s).track = s.track ∧ (finishHeldChangeover o detail s).reader = s.reader ∧
    (finishHeldChangeover o detail s).filler = s.filler ∧ (finishHeldChangeover o detail s).reject = s.reject ∧
    (finishHeldChangeover o detail s).valves = s.valves ∧ (finishHeldChangeover o detail s).dose = s.dose ∧
    (finishHeldChangeover o detail s).pending = s.pending := by
  unfold finishHeldChangeover
  (repeat' split) <;> simp

@[simp] theorem endDrain_frame (c : LotCause) (how : Nat) (s : State) :
    (endDrain c how s).pins = s.pins ∧ (endDrain c how s).part = s.part ∧ (endDrain c how s).weigh = s.weigh ∧
    (endDrain c how s).cal = s.cal ∧ (endDrain c how s).track = s.track ∧ (endDrain c how s).reader = s.reader ∧
    (endDrain c how s).filler = s.filler ∧ (endDrain c how s).reject = s.reject ∧
    (endDrain c how s).valves = s.valves ∧ (endDrain c how s).dose = s.dose ∧ (endDrain c how s).pending = s.pending := by
  unfold endDrain
  simp

@[simp] theorem drainCheck_frame (s : State) :
    (drainCheck s).pins = s.pins ∧ (drainCheck s).part = s.part ∧ (drainCheck s).weigh = s.weigh ∧
    (drainCheck s).cal = s.cal ∧ (drainCheck s).track = s.track ∧ (drainCheck s).reader = s.reader ∧
    (drainCheck s).filler = s.filler ∧ (drainCheck s).reject = s.reject ∧ (drainCheck s).valves = s.valves ∧
    (drainCheck s).dose = s.dose ∧ (drainCheck s).pending = s.pending := by
  unfold drainCheck
  (repeat' split) <;> simp

@[simp] theorem setEntry_frame (e : Entry) (s : State) :
    (setEntry e s).pins = s.pins ∧ (setEntry e s).part = s.part ∧ (setEntry e s).weigh = s.weigh ∧
    (setEntry e s).cal = s.cal ∧ (setEntry e s).reader = s.reader ∧ (setEntry e s).filler = s.filler ∧
    (setEntry e s).reject = s.reject ∧ (setEntry e s).valves = s.valves ∧ (setEntry e s).dose = s.dose ∧
    (setEntry e s).recipes = s.recipes ∧ (setEntry e s).orders = s.orders ∧ (setEntry e s).exch = s.exch ∧
    (setEntry e s).pending = s.pending := by
  unfold setEntry
  simp

@[simp] theorem createEntry_frame (e : Entry) (s : State) :
    (createEntry e s).pins = s.pins ∧ (createEntry e s).part = s.part ∧ (createEntry e s).weigh = s.weigh ∧
    (createEntry e s).cal = s.cal ∧ (createEntry e s).reader = s.reader ∧ (createEntry e s).filler = s.filler ∧
    (createEntry e s).reject = s.reject ∧ (createEntry e s).valves = s.valves ∧ (createEntry e s).dose = s.dose ∧
    (createEntry e s).recipes = s.recipes ∧ (createEntry e s).orders = s.orders ∧ (createEntry e s).exch = s.exch ∧
    (createEntry e s).pending = s.pending := by
  unfold createEntry
  simp

@[simp] theorem removeEntry_frame (e : Entry) (d : Disposition) (s : State) :
    (removeEntry e d s).pins = s.pins ∧ (removeEntry e d s).part = s.part ∧ (removeEntry e d s).weigh = s.weigh ∧
    (removeEntry e d s).cal = s.cal ∧ (removeEntry e d s).reader = s.reader ∧ (removeEntry e d s).filler = s.filler ∧
    (removeEntry e d s).reject = s.reject ∧ (removeEntry e d s).valves = s.valves ∧
    (removeEntry e d s).dose = s.dose ∧ (removeEntry e d s).recipes = s.recipes ∧
    (removeEntry e d s).orders = s.orders ∧ (removeEntry e d s).pending = s.pending := by
  unfold removeEntry
  simp

@[simp] theorem removeWithDrain_frame (e : Entry) (d : Disposition) (s : State) :
    (removeWithDrain e d s).pins = s.pins ∧ (removeWithDrain e d s).part = s.part ∧
    (removeWithDrain e d s).weigh = s.weigh ∧ (removeWithDrain e d s).cal = s.cal ∧
    (removeWithDrain e d s).reader = s.reader ∧ (removeWithDrain e d s).filler = s.filler ∧
    (removeWithDrain e d s).reject = s.reject ∧ (removeWithDrain e d s).valves = s.valves ∧
    (removeWithDrain e d s).dose = s.dose ∧ (removeWithDrain e d s).pending = s.pending := by
  unfold removeWithDrain
  simp

@[simp] theorem flushEntries_frame (s : State) :
    (flushEntries s).pins = s.pins ∧ (flushEntries s).part = s.part ∧ (flushEntries s).weigh = s.weigh ∧
    (flushEntries s).cal = s.cal ∧ (flushEntries s).reader = s.reader ∧ (flushEntries s).filler = s.filler ∧
    (flushEntries s).reject = s.reject ∧ (flushEntries s).valves = s.valves ∧ (flushEntries s).dose = s.dose ∧
    (flushEntries s).recipes = s.recipes ∧ (flushEntries s).orders = s.orders ∧ (flushEntries s).pending = s.pending := by
  unfold flushEntries
  generalize s.track.entries = l
  induction l generalizing s with
  | nil => simp
  | cons e l ih => simpa using ih (removeEntry e .flushed s)

@[simp] theorem makeRoom_frame (s : State) :
    (makeRoom s).pins = s.pins ∧ (makeRoom s).part = s.part ∧ (makeRoom s).weigh = s.weigh ∧
    (makeRoom s).cal = s.cal ∧ (makeRoom s).reader = s.reader ∧ (makeRoom s).filler = s.filler ∧
    (makeRoom s).reject = s.reject ∧ (makeRoom s).valves = s.valves ∧ (makeRoom s).dose = s.dose ∧
    (makeRoom s).pending = s.pending := by
  unfold makeRoom
  (repeat' split) <;> simp

end Sys2Proof.Machine
end

