-- ==== Sys2Proof/Laws/FramesUnits.lean ====
section
/-! SUPPORT. What each operation of the blocks' units leaves unchanged: one lemma an operation, naming every block that the
operation never writes. -/

namespace Sys2Proof.Machine

@[simp] theorem setValve_frame (v : Nat) (x : Valve) (s : State) :
    (setValve v x s).pins = s.pins ∧ (setValve v x s).part = s.part ∧ (setValve v x s).weigh = s.weigh ∧
    (setValve v x s).cal = s.cal ∧ (setValve v x s).track = s.track ∧ (setValve v x s).reader = s.reader ∧
    (setValve v x s).filler = s.filler ∧ (setValve v x s).reject = s.reject ∧ (setValve v x s).dose = s.dose ∧
    (setValve v x s).recipes = s.recipes ∧ (setValve v x s).orders = s.orders ∧ (setValve v x s).exch = s.exch ∧
    (setValve v x s).pending = s.pending := by
  unfold setValve
  simp

@[simp] theorem setWanted_frame (v : Nat) (w : Int) (s : State) :
    (setWanted v w s).pins = s.pins ∧ (setWanted v w s).part = s.part ∧ (setWanted v w s).weigh = s.weigh ∧
    (setWanted v w s).cal = s.cal ∧ (setWanted v w s).track = s.track ∧ (setWanted v w s).reader = s.reader ∧
    (setWanted v w s).filler = s.filler ∧ (setWanted v w s).reject = s.reject ∧ (setWanted v w s).valves = s.valves ∧
    (setWanted v w s).recipes = s.recipes ∧ (setWanted v w s).orders = s.orders ∧ (setWanted v w s).exch = s.exch ∧
    (setWanted v w s).pending = s.pending := by
  unfold setWanted
  simp

@[simp] theorem mapValves_frame (f : Nat → Valve → Valve) (s : State) :
    (mapValves f s).pins = s.pins ∧ (mapValves f s).part = s.part ∧ (mapValves f s).weigh = s.weigh ∧
    (mapValves f s).cal = s.cal ∧ (mapValves f s).track = s.track ∧ (mapValves f s).reader = s.reader ∧
    (mapValves f s).filler = s.filler ∧ (mapValves f s).reject = s.reject ∧ (mapValves f s).dose = s.dose ∧
    (mapValves f s).recipes = s.recipes ∧ (mapValves f s).orders = s.orders ∧ (mapValves f s).exch = s.exch ∧
    (mapValves f s).pending = s.pending := by
  unfold mapValves
  simp

@[simp] theorem mapTrims_frame (f : Nat → Trim → Trim) (s : State) :
    (mapTrims f s).pins = s.pins ∧ (mapTrims f s).part = s.part ∧ (mapTrims f s).weigh = s.weigh ∧
    (mapTrims f s).cal = s.cal ∧ (mapTrims f s).track = s.track ∧ (mapTrims f s).reader = s.reader ∧
    (mapTrims f s).filler = s.filler ∧ (mapTrims f s).reject = s.reject ∧ (mapTrims f s).valves = s.valves ∧
    (mapTrims f s).recipes = s.recipes ∧ (mapTrims f s).orders = s.orders ∧ (mapTrims f s).exch = s.exch ∧
    (mapTrims f s).pending = s.pending := by
  unfold mapTrims
  simp

@[simp] theorem waitAfterWrite_frame (v : Nat) (wanted : Int) (s : State) :
    (waitAfterWrite v wanted s).pins = s.pins ∧ (waitAfterWrite v wanted s).part = s.part ∧
    (waitAfterWrite v wanted s).weigh = s.weigh ∧ (waitAfterWrite v wanted s).cal = s.cal ∧
    (waitAfterWrite v wanted s).track = s.track ∧ (waitAfterWrite v wanted s).reader = s.reader ∧
    (waitAfterWrite v wanted s).filler = s.filler ∧ (waitAfterWrite v wanted s).reject = s.reject ∧
    (waitAfterWrite v wanted s).recipes = s.recipes ∧ (waitAfterWrite v wanted s).orders = s.orders ∧
    (waitAfterWrite v wanted s).exch = s.exch ∧ (waitAfterWrite v wanted s).pending = s.pending := by
  unfold waitAfterWrite
  simp

@[simp] theorem applyCorrection_frame (v : Nat) (s : State) :
    (applyCorrection v s).pins = s.pins ∧ (applyCorrection v s).part = s.part ∧
    (applyCorrection v s).weigh = s.weigh ∧ (applyCorrection v s).cal = s.cal ∧
    (applyCorrection v s).track = s.track ∧ (applyCorrection v s).reader = s.reader ∧
    (applyCorrection v s).filler = s.filler ∧ (applyCorrection v s).reject = s.reject ∧
    (applyCorrection v s).recipes = s.recipes ∧ (applyCorrection v s).orders = s.orders ∧
    (applyCorrection v s).pending = s.pending := by
  unfold applyCorrection
  dsimp only
  (repeat' split) <;> simp

@[simp] theorem averageCan_frame (v : Nat) (net : Int) (s : State) :
    (averageCan v net s).pins = s.pins ∧ (averageCan v net s).part = s.part ∧ (averageCan v net s).weigh = s.weigh ∧
    (averageCan v net s).cal = s.cal ∧ (averageCan v net s).track = s.track ∧
    (averageCan v net s).reader = s.reader ∧ (averageCan v net s).filler = s.filler ∧
    (averageCan v net s).reject = s.reject ∧ (averageCan v net s).recipes = s.recipes ∧
    (averageCan v net s).orders = s.orders ∧ (averageCan v net s).pending = s.pending := by
  unfold averageCan
  dsimp only
  (repeat' split) <;> simp

@[simp] theorem takeQualifying_frame (v : Nat) (gen : Gen) (net : Int) (s : State) :
    (takeQualifying v gen net s).pins = s.pins ∧ (takeQualifying v gen net s).part = s.part ∧
    (takeQualifying v gen net s).weigh = s.weigh ∧ (takeQualifying v gen net s).cal = s.cal ∧
    (takeQualifying v gen net s).track = s.track ∧ (takeQualifying v gen net s).reader = s.reader ∧
    (takeQualifying v gen net s).filler = s.filler ∧ (takeQualifying v gen net s).reject = s.reject ∧
    (takeQualifying v gen net s).recipes = s.recipes ∧ (takeQualifying v gen net s).orders = s.orders ∧
    (takeQualifying v gen net s).pending = s.pending := by
  unfold takeQualifying
  dsimp only
  (repeat' split) <;> simp

@[simp] theorem hardLowCan_frame (v : Nat) (e : Entry) (net : Int) (s : State) :
    (hardLowCan v e net s).pins = s.pins ∧ (hardLowCan v e net s).part = s.part ∧
    (hardLowCan v e net s).weigh = s.weigh ∧ (hardLowCan v e net s).cal = s.cal ∧
    (hardLowCan v e net s).track = s.track ∧ (hardLowCan v e net s).reader = s.reader ∧
    (hardLowCan v e net s).filler = s.filler ∧ (hardLowCan v e net s).reject = s.reject ∧
    (hardLowCan v e net s).dose = s.dose ∧ (hardLowCan v e net s).recipes = s.recipes ∧
    (hardLowCan v e net s).orders = s.orders ∧ (hardLowCan v e net s).pending = s.pending := by
  unfold hardLowCan
  dsimp only
  (repeat' split) <;> simp

@[simp] theorem countCan_frame (v : Nat) (e : Entry) (s : State) :
    (countCan v e s).pins = s.pins ∧ (countCan v e s).part = s.part ∧ (countCan v e s).weigh = s.weigh ∧
    (countCan v e s).cal = s.cal ∧ (countCan v e s).track = s.track ∧ (countCan v e s).reader = s.reader ∧
    (countCan v e s).filler = s.filler ∧ (countCan v e s).reject = s.reject ∧ (countCan v e s).dose = s.dose ∧
    (countCan v e s).recipes = s.recipes ∧ (countCan v e s).orders = s.orders ∧ (countCan v e s).exch = s.exch ∧
    (countCan v e s).pending = s.pending := by
  unfold countCan
  simp

@[simp] theorem offerCan_frame (e : Entry) (s : State) :
    (offerCan e s).pins = s.pins ∧ (offerCan e s).part = s.part ∧ (offerCan e s).weigh = s.weigh ∧
    (offerCan e s).cal = s.cal ∧ (offerCan e s).track = s.track ∧ (offerCan e s).reader = s.reader ∧
    (offerCan e s).filler = s.filler ∧ (offerCan e s).reject = s.reject ∧ (offerCan e s).recipes = s.recipes ∧
    (offerCan e s).orders = s.orders ∧ (offerCan e s).pending = s.pending := by
  unfold offerCan
  dsimp only
  (repeat' split) <;> simp

@[simp] theorem firstSend_frame (g : Gen) (list : List (Nat × Int)) (s : State) :
    (firstSend g list s).pins = s.pins ∧ (firstSend g list s).part = s.part ∧ (firstSend g list s).weigh = s.weigh ∧
    (firstSend g list s).cal = s.cal ∧ (firstSend g list s).track = s.track ∧
    (firstSend g list s).reader = s.reader ∧ (firstSend g list s).filler = s.filler ∧
    (firstSend g list s).reject = s.reject ∧ (firstSend g list s).dose = s.dose ∧
    (firstSend g list s).recipes = s.recipes ∧ (firstSend g list s).orders = s.orders ∧
    (firstSend g list s).exch = s.exch ∧ (firstSend g list s).pending = s.pending := by
  unfold firstSend
  simp

@[simp] theorem awaitServed_frame (g : Gen) (s : State) :
    (awaitServed g s).pins = s.pins ∧ (awaitServed g s).part = s.part ∧ (awaitServed g s).weigh = s.weigh ∧
    (awaitServed g s).cal = s.cal ∧ (awaitServed g s).track = s.track ∧ (awaitServed g s).reader = s.reader ∧
    (awaitServed g s).filler = s.filler ∧ (awaitServed g s).reject = s.reject ∧ (awaitServed g s).dose = s.dose ∧
    (awaitServed g s).recipes = s.recipes ∧ (awaitServed g s).orders = s.orders ∧ (awaitServed g s).exch = s.exch ∧
    (awaitServed g s).pending = s.pending := by
  unfold awaitServed
  simp

@[simp] theorem ageValves_frame (g : Gen) (s : State) :
    (ageValves g s).pins = s.pins ∧ (ageValves g s).part = s.part ∧ (ageValves g s).weigh = s.weigh ∧
    (ageValves g s).cal = s.cal ∧ (ageValves g s).track = s.track ∧ (ageValves g s).reader = s.reader ∧
    (ageValves g s).filler = s.filler ∧ (ageValves g s).reject = s.reject ∧ (ageValves g s).dose = s.dose ∧
    (ageValves g s).recipes = s.recipes ∧ (ageValves g s).orders = s.orders ∧ (ageValves g s).exch = s.exch ∧
    (ageValves g s).pending = s.pending := by
  unfold ageValves
  simp

@[simp] theorem refusedUpdate_frame (list : List (Nat × Int)) (s : State) :
    (refusedUpdate list s).pins = s.pins ∧ (refusedUpdate list s).part = s.part ∧
    (refusedUpdate list s).weigh = s.weigh ∧ (refusedUpdate list s).cal = s.cal ∧
    (refusedUpdate list s).track = s.track ∧ (refusedUpdate list s).reader = s.reader ∧
    (refusedUpdate list s).filler = s.filler ∧ (refusedUpdate list s).reject = s.reject ∧
    (refusedUpdate list s).dose = s.dose ∧ (refusedUpdate list s).recipes = s.recipes ∧
    (refusedUpdate list s).orders = s.orders ∧ (refusedUpdate list s).exch = s.exch ∧
    (refusedUpdate list s).pending = s.pending := by
  unfold refusedUpdate
  dsimp only
  (repeat' split) <;> simp

@[simp] theorem rewantTrims_frame (r : Recipe) (s : State) :
    (rewantTrims r s).pins = s.pins ∧ (rewantTrims r s).part = s.part ∧ (rewantTrims r s).weigh = s.weigh ∧
    (rewantTrims r s).cal = s.cal ∧ (rewantTrims r s).track = s.track ∧ (rewantTrims r s).reader = s.reader ∧
    (rewantTrims r s).filler = s.filler ∧ (rewantTrims r s).reject = s.reject ∧ (rewantTrims r s).valves = s.valves ∧
    (rewantTrims r s).recipes = s.recipes ∧ (rewantTrims r s).orders = s.orders ∧ (rewantTrims r s).exch = s.exch ∧
    (rewantTrims r s).pending = s.pending := by
  unfold rewantTrims
  simp

@[simp] theorem valvesAtConfigChangeover_frame (r : Recipe) (s : State) :
    (valvesAtConfigChangeover r s).pins = s.pins ∧ (valvesAtConfigChangeover r s).part = s.part ∧
    (valvesAtConfigChangeover r s).weigh = s.weigh ∧ (valvesAtConfigChangeover r s).cal = s.cal ∧
    (valvesAtConfigChangeover r s).track = s.track ∧ (valvesAtConfigChangeover r s).reader = s.reader ∧
    (valvesAtConfigChangeover r s).filler = s.filler ∧ (valvesAtConfigChangeover r s).reject = s.reject ∧
    (valvesAtConfigChangeover r s).dose = s.dose ∧ (valvesAtConfigChangeover r s).recipes = s.recipes ∧
    (valvesAtConfigChangeover r s).orders = s.orders ∧ (valvesAtConfigChangeover r s).exch = s.exch ∧
    (valvesAtConfigChangeover r s).pending = s.pending := by
  unfold valvesAtConfigChangeover
  simp

@[simp] theorem valvesAtSwap_frame (r : Recipe) (b : Gen) (s : State) :
    (valvesAtSwap r b s).pins = s.pins ∧ (valvesAtSwap r b s).part = s.part ∧ (valvesAtSwap r b s).weigh = s.weigh ∧
    (valvesAtSwap r b s).cal = s.cal ∧ (valvesAtSwap r b s).track = s.track ∧
    (valvesAtSwap r b s).reader = s.reader ∧ (valvesAtSwap r b s).filler = s.filler ∧
    (valvesAtSwap r b s).reject = s.reject ∧ (valvesAtSwap r b s).dose = s.dose ∧
    (valvesAtSwap r b s).recipes = s.recipes ∧ (valvesAtSwap r b s).orders = s.orders ∧
    (valvesAtSwap r b s).exch = s.exch ∧ (valvesAtSwap r b s).pending = s.pending := by
  unfold valvesAtSwap
  simp

@[simp] theorem valvesAtRestart_frame (s : State) :
    (valvesAtRestart s).pins = s.pins ∧ (valvesAtRestart s).part = s.part ∧ (valvesAtRestart s).weigh = s.weigh ∧
    (valvesAtRestart s).cal = s.cal ∧ (valvesAtRestart s).track = s.track ∧ (valvesAtRestart s).reader = s.reader ∧
    (valvesAtRestart s).filler = s.filler ∧ (valvesAtRestart s).reject = s.reject ∧
    (valvesAtRestart s).dose = s.dose ∧ (valvesAtRestart s).recipes = s.recipes ∧
    (valvesAtRestart s).orders = s.orders ∧ (valvesAtRestart s).exch = s.exch ∧
    (valvesAtRestart s).pending = s.pending := by
  unfold valvesAtRestart
  simp

@[simp] theorem lotLimitCheck_frame (ref : RecipeRef) (d : Decision) (s : State) :
    (lotLimitCheck ref d s).pins = s.pins ∧ (lotLimitCheck ref d s).part = s.part ∧
    (lotLimitCheck ref d s).weigh = s.weigh ∧ (lotLimitCheck ref d s).cal = s.cal ∧
    (lotLimitCheck ref d s).track = s.track ∧ (lotLimitCheck ref d s).reader = s.reader ∧
    (lotLimitCheck ref d s).filler = s.filler ∧ (lotLimitCheck ref d s).reject = s.reject ∧
    (lotLimitCheck ref d s).valves = s.valves ∧ (lotLimitCheck ref d s).dose = s.dose ∧
    (lotLimitCheck ref d s).orders = s.orders ∧ (lotLimitCheck ref d s).pending = s.pending := by
  unfold lotLimitCheck
  (repeat' split) <;> simp

@[simp] theorem decideEntry_frame (extra : BitVec 10) (e : Entry) (s : State) :
    (decideEntry extra e s).pins = s.pins ∧ (decideEntry extra e s).part = s.part ∧
    (decideEntry extra e s).weigh = s.weigh ∧ (decideEntry extra e s).cal = s.cal ∧
    (decideEntry extra e s).reader = s.reader ∧ (decideEntry extra e s).filler = s.filler ∧
    (decideEntry extra e s).reject = s.reject ∧ (decideEntry extra e s).orders = s.orders ∧
    (decideEntry extra e s).pending = s.pending := by
  unfold decideEntry
  simp

@[simp] theorem decideIfDue_frame (e : Entry) (s : State) :
    (decideIfDue e s).pins = s.pins ∧ (decideIfDue e s).part = s.part ∧ (decideIfDue e s).weigh = s.weigh ∧
    (decideIfDue e s).cal = s.cal ∧ (decideIfDue e s).reader = s.reader ∧ (decideIfDue e s).filler = s.filler ∧
    (decideIfDue e s).reject = s.reject ∧ (decideIfDue e s).orders = s.orders ∧ (decideIfDue e s).pending = s.pending := by
  unfold decideIfDue
  (repeat' split) <;> simp

@[simp] theorem recountLot_frame (e : Entry) (ref : RecipeRef) (s : State) :
    (recountLot e ref s).pins = s.pins ∧ (recountLot e ref s).part = s.part ∧ (recountLot e ref s).weigh = s.weigh ∧
    (recountLot e ref s).cal = s.cal ∧ (recountLot e ref s).track = s.track ∧
    (recountLot e ref s).reader = s.reader ∧ (recountLot e ref s).filler = s.filler ∧
    (recountLot e ref s).reject = s.reject ∧ (recountLot e ref s).valves = s.valves ∧
    (recountLot e ref s).dose = s.dose ∧ (recountLot e ref s).orders = s.orders ∧
    (recountLot e ref s).exch = s.exch ∧ (recountLot e ref s).pending = s.pending := by
  unfold recountLot
  (repeat' split) <;> simp

@[simp] theorem forceEntry_frame (e : Entry) (s : State) :
    (forceEntry e s).pins = s.pins ∧ (forceEntry e s).part = s.part ∧ (forceEntry e s).weigh = s.weigh ∧
    (forceEntry e s).cal = s.cal ∧ (forceEntry e s).reader = s.reader ∧ (forceEntry e s).filler = s.filler ∧
    (forceEntry e s).reject = s.reject ∧ (forceEntry e s).valves = s.valves ∧ (forceEntry e s).dose = s.dose ∧
    (forceEntry e s).orders = s.orders ∧ (forceEntry e s).exch = s.exch ∧ (forceEntry e s).pending = s.pending := by
  unfold forceEntry
  simp

@[simp] theorem settleAtEye_frame (e : Entry) (s : State) :
    (settleAtEye e s).pins = s.pins ∧ (settleAtEye e s).part = s.part ∧ (settleAtEye e s).weigh = s.weigh ∧
    (settleAtEye e s).cal = s.cal ∧ (settleAtEye e s).reader = s.reader ∧ (settleAtEye e s).filler = s.filler ∧
    (settleAtEye e s).reject = s.reject ∧ (settleAtEye e s).orders = s.orders ∧ (settleAtEye e s).pending = s.pending := by
  unfold settleAtEye
  (repeat' split) <;> simp

@[simp] theorem fire_frame (pulse : Nat) (s : State) :
    (fire pulse s).pins = s.pins ∧ (fire pulse s).part = s.part ∧ (fire pulse s).weigh = s.weigh ∧
    (fire pulse s).cal = s.cal ∧ (fire pulse s).track = s.track ∧ (fire pulse s).reader = s.reader ∧
    (fire pulse s).filler = s.filler ∧ (fire pulse s).valves = s.valves ∧ (fire pulse s).dose = s.dose ∧
    (fire pulse s).recipes = s.recipes ∧ (fire pulse s).orders = s.orders ∧ (fire pulse s).exch = s.exch ∧
    (fire pulse s).pending = s.pending := by
  unfold fire
  simp

@[simp] theorem passEye_frame (e : Entry) (s : State) :
    (passEye e s).pins = s.pins ∧ (passEye e s).part = s.part ∧ (passEye e s).weigh = s.weigh ∧
    (passEye e s).cal = s.cal ∧ (passEye e s).reader = s.reader ∧ (passEye e s).filler = s.filler ∧
    (passEye e s).valves = s.valves ∧ (passEye e s).dose = s.dose ∧ (passEye e s).recipes = s.recipes ∧
    (passEye e s).orders = s.orders ∧ (passEye e s).exch = s.exch ∧ (passEye e s).pending = s.pending := by
  unfold passEye
  dsimp only
  (repeat' split) <;> simp

@[simp] theorem zeroStep_frame (cand : Int) (s : State) :
    (zeroStep cand s).pins = s.pins ∧ (zeroStep cand s).part = s.part ∧ (zeroStep cand s).cal = s.cal ∧
    (zeroStep cand s).track = s.track ∧ (zeroStep cand s).reader = s.reader ∧ (zeroStep cand s).filler = s.filler ∧
    (zeroStep cand s).reject = s.reject ∧ (zeroStep cand s).valves = s.valves ∧ (zeroStep cand s).dose = s.dose ∧
    (zeroStep cand s).recipes = s.recipes ∧ (zeroStep cand s).orders = s.orders ∧
    (zeroStep cand s).pending = s.pending := by
  unfold zeroStep
  dsimp only
  (repeat' split) <;> simp

@[simp] theorem zeroRefuse_frame (cand : Int) (s : State) :
    (zeroRefuse cand s).pins = s.pins ∧ (zeroRefuse cand s).part = s.part ∧ (zeroRefuse cand s).cal = s.cal ∧
    (zeroRefuse cand s).track = s.track ∧ (zeroRefuse cand s).reader = s.reader ∧
    (zeroRefuse cand s).filler = s.filler ∧ (zeroRefuse cand s).reject = s.reject ∧
    (zeroRefuse cand s).valves = s.valves ∧ (zeroRefuse cand s).dose = s.dose ∧
    (zeroRefuse cand s).recipes = s.recipes ∧ (zeroRefuse cand s).orders = s.orders ∧
    (zeroRefuse cand s).pending = s.pending := by
  unfold zeroRefuse
  dsimp only
  (repeat' split) <;> simp

@[simp] theorem takeCandidate_frame (cand : Int) (s : State) :
    (takeCandidate cand s).pins = s.pins ∧ (takeCandidate cand s).part = s.part ∧
    (takeCandidate cand s).cal = s.cal ∧ (takeCandidate cand s).track = s.track ∧
    (takeCandidate cand s).reader = s.reader ∧ (takeCandidate cand s).filler = s.filler ∧
    (takeCandidate cand s).reject = s.reject ∧ (takeCandidate cand s).valves = s.valves ∧
    (takeCandidate cand s).dose = s.dose ∧ (takeCandidate cand s).recipes = s.recipes ∧
    (takeCandidate cand s).orders = s.orders ∧ (takeCandidate cand s).pending = s.pending := by
  unfold takeCandidate
  (repeat' split) <;> simp

@[simp] theorem zeroTrackSample_frame (x : Sample) (s : State) :
    (zeroTrackSample x s).pins = s.pins ∧ (zeroTrackSample x s).part = s.part ∧ (zeroTrackSample x s).cal = s.cal ∧
    (zeroTrackSample x s).track = s.track ∧ (zeroTrackSample x s).reader = s.reader ∧
    (zeroTrackSample x s).filler = s.filler ∧ (zeroTrackSample x s).reject = s.reject ∧
    (zeroTrackSample x s).valves = s.valves ∧ (zeroTrackSample x s).dose = s.dose ∧
    (zeroTrackSample x s).recipes = s.recipes ∧ (zeroTrackSample x s).orders = s.orders ∧
    (zeroTrackSample x s).pending = s.pending := by
  unfold zeroTrackSample
  dsimp only
  (repeat' split) <;> simp

@[simp] theorem finishZeroSet_frame (slot : Slot) (o : Outcome) (detail : Int) (s : State) :
    (finishZeroSet slot o detail s).pins = s.pins ∧ (finishZeroSet slot o detail s).part = s.part ∧
    (finishZeroSet slot o detail s).cal = s.cal ∧ (finishZeroSet slot o detail s).track = s.track ∧
    (finishZeroSet slot o detail s).reader = s.reader ∧ (finishZeroSet slot o detail s).filler = s.filler ∧
    (finishZeroSet slot o detail s).reject = s.reject ∧ (finishZeroSet slot o detail s).valves = s.valves ∧
    (finishZeroSet slot o detail s).dose = s.dose ∧ (finishZeroSet slot o detail s).recipes = s.recipes ∧
    (finishZeroSet slot o detail s).pending = s.pending := by
  unfold finishZeroSet
  simp

@[simp] theorem completeZeroSet_frame (z : ZeroSet) (s : State) :
    (completeZeroSet z s).pins = s.pins ∧ (completeZeroSet z s).part = s.part ∧ (completeZeroSet z s).cal = s.cal ∧
    (completeZeroSet z s).track = s.track ∧ (completeZeroSet z s).reader = s.reader ∧
    (completeZeroSet z s).filler = s.filler ∧ (completeZeroSet z s).reject = s.reject ∧
    (completeZeroSet z s).valves = s.valves ∧ (completeZeroSet z s).dose = s.dose ∧
    (completeZeroSet z s).recipes = s.recipes ∧ (completeZeroSet z s).pending = s.pending := by
  unfold completeZeroSet
  dsimp only
  (repeat' split) <;> simp

@[simp] theorem zeroSetSample_frame (x : Sample) (s : State) :
    (zeroSetSample x s).pins = s.pins ∧ (zeroSetSample x s).part = s.part ∧ (zeroSetSample x s).cal = s.cal ∧
    (zeroSetSample x s).track = s.track ∧ (zeroSetSample x s).reader = s.reader ∧
    (zeroSetSample x s).filler = s.filler ∧ (zeroSetSample x s).reject = s.reject ∧
    (zeroSetSample x s).valves = s.valves ∧ (zeroSetSample x s).dose = s.dose ∧
    (zeroSetSample x s).recipes = s.recipes ∧ (zeroSetSample x s).pending = s.pending := by
  unfold zeroSetSample
  dsimp only
  (repeat' split) <;> simp

@[simp] theorem beginStoreWrite_frame (kind : CalKind) (s : State) :
    (beginStoreWrite kind s).pins = s.pins ∧ (beginStoreWrite kind s).part = s.part ∧
    (beginStoreWrite kind s).weigh = s.weigh ∧ (beginStoreWrite kind s).track = s.track ∧
    (beginStoreWrite kind s).reader = s.reader ∧ (beginStoreWrite kind s).filler = s.filler ∧
    (beginStoreWrite kind s).reject = s.reject ∧ (beginStoreWrite kind s).valves = s.valves ∧
    (beginStoreWrite kind s).dose = s.dose ∧ (beginStoreWrite kind s).recipes = s.recipes ∧
    (beginStoreWrite kind s).orders = s.orders ∧ (beginStoreWrite kind s).pending = s.pending := by
  unfold beginStoreWrite
  simp

@[simp] theorem storeSaved_frame (s : State) :
    (storeSaved s).pins = s.pins ∧ (storeSaved s).part = s.part ∧ (storeSaved s).weigh = s.weigh ∧
    (storeSaved s).track = s.track ∧ (storeSaved s).reader = s.reader ∧ (storeSaved s).filler = s.filler ∧
    (storeSaved s).reject = s.reject ∧ (storeSaved s).valves = s.valves ∧ (storeSaved s).dose = s.dose ∧
    (storeSaved s).recipes = s.recipes ∧ (storeSaved s).pending = s.pending := by
  unfold storeSaved
  simp

@[simp] theorem storeFailed_frame (how : Nat) (s : State) :
    (storeFailed how s).pins = s.pins ∧ (storeFailed how s).part = s.part ∧ (storeFailed how s).weigh = s.weigh ∧
    (storeFailed how s).track = s.track ∧ (storeFailed how s).reader = s.reader ∧
    (storeFailed how s).filler = s.filler ∧ (storeFailed how s).reject = s.reject ∧
    (storeFailed how s).valves = s.valves ∧ (storeFailed how s).dose = s.dose ∧
    (storeFailed how s).recipes = s.recipes ∧ (storeFailed how s).pending = s.pending := by
  unfold storeFailed
  simp

@[simp] theorem setCalState_frame (c : CalState) (s : State) :
    (setCalState c s).pins = s.pins ∧ (setCalState c s).track = s.track ∧ (setCalState c s).reader = s.reader ∧
    (setCalState c s).filler = s.filler ∧ (setCalState c s).reject = s.reject ∧ (setCalState c s).valves = s.valves ∧
    (setCalState c s).dose = s.dose ∧ (setCalState c s).recipes = s.recipes ∧ (setCalState c s).pending = s.pending := by
  unfold setCalState
  simp

@[simp] theorem setCalZero_frame (mean : Int) (limit : Nat) (s : State) :
    (setCalZero mean limit s).pins = s.pins ∧ (setCalZero mean limit s).track = s.track ∧
    (setCalZero mean limit s).reader = s.reader ∧ (setCalZero mean limit s).filler = s.filler ∧
    (setCalZero mean limit s).reject = s.reject ∧ (setCalZero mean limit s).valves = s.valves ∧
    (setCalZero mean limit s).dose = s.dose ∧ (setCalZero mean limit s).recipes = s.recipes ∧
    (setCalZero mean limit s).pending = s.pending := by
  unfold setCalZero
  dsimp only
  (repeat' split) <;> simp

@[simp] theorem setCalSpan_frame (f : Nat) (s : State) :
    (setCalSpan f s).pins = s.pins ∧ (setCalSpan f s).track = s.track ∧ (setCalSpan f s).reader = s.reader ∧
    (setCalSpan f s).filler = s.filler ∧ (setCalSpan f s).reject = s.reject ∧ (setCalSpan f s).valves = s.valves ∧
    (setCalSpan f s).dose = s.dose ∧ (setCalSpan f s).recipes = s.recipes ∧ (setCalSpan f s).pending = s.pending := by
  unfold setCalSpan
  dsimp only
  (repeat' split) <;> simp

@[simp] theorem completeCal_frame (c : CalAveraging) (s0 : State) :
    (completeCal c s0).pins = s0.pins ∧ (completeCal c s0).track = s0.track ∧ (completeCal c s0).reader = s0.reader ∧
    (completeCal c s0).filler = s0.filler ∧ (completeCal c s0).reject = s0.reject ∧
    (completeCal c s0).valves = s0.valves ∧ (completeCal c s0).dose = s0.dose ∧
    (completeCal c s0).recipes = s0.recipes ∧ (completeCal c s0).pending = s0.pending := by
  unfold completeCal
  dsimp only
  (repeat' split) <;> simp

@[simp] theorem calSample_frame (x : Sample) (s : State) :
    (calSample x s).pins = s.pins ∧ (calSample x s).track = s.track ∧ (calSample x s).reader = s.reader ∧
    (calSample x s).filler = s.filler ∧ (calSample x s).reject = s.reject ∧ (calSample x s).valves = s.valves ∧
    (calSample x s).dose = s.dose ∧ (calSample x s).recipes = s.recipes ∧ (calSample x s).pending = s.pending := by
  unfold calSample
  dsimp only
  (repeat' split) <;> simp

@[simp] theorem emptyPlatform_frame (s : State) :
    (emptyPlatform s).pins = s.pins ∧ (emptyPlatform s).part = s.part ∧ (emptyPlatform s).cal = s.cal ∧
    (emptyPlatform s).track = s.track ∧ (emptyPlatform s).reader = s.reader ∧ (emptyPlatform s).filler = s.filler ∧
    (emptyPlatform s).reject = s.reject ∧ (emptyPlatform s).valves = s.valves ∧ (emptyPlatform s).dose = s.dose ∧
    (emptyPlatform s).recipes = s.recipes ∧ (emptyPlatform s).orders = s.orders ∧ (emptyPlatform s).exch = s.exch ∧
    (emptyPlatform s).pending = s.pending := by
  unfold emptyPlatform
  simp

@[simp] theorem createAtReader_frame (origin : Origin) (a : Attribution) (m : ReadMessage) (s : State) :
    (createAtReader origin a m s).pins = s.pins ∧ (createAtReader origin a m s).part = s.part ∧
    (createAtReader origin a m s).weigh = s.weigh ∧ (createAtReader origin a m s).cal = s.cal ∧
    (createAtReader origin a m s).reader = s.reader ∧ (createAtReader origin a m s).filler = s.filler ∧
    (createAtReader origin a m s).reject = s.reject ∧ (createAtReader origin a m s).valves = s.valves ∧
    (createAtReader origin a m s).dose = s.dose ∧ (createAtReader origin a m s).recipes = s.recipes ∧
    (createAtReader origin a m s).orders = s.orders ∧ (createAtReader origin a m s).exch = s.exch ∧
    (createAtReader origin a m s).pending = s.pending := by
  unfold createAtReader
  simp

@[simp] theorem bindByPosition_frame (s : State) :
    (bindByPosition s).1.pins = s.pins ∧ (bindByPosition s).1.part = s.part ∧ (bindByPosition s).1.weigh = s.weigh ∧
    (bindByPosition s).1.cal = s.cal ∧ (bindByPosition s).1.reader = s.reader ∧
    (bindByPosition s).1.filler = s.filler ∧ (bindByPosition s).1.reject = s.reject ∧
    (bindByPosition s).1.valves = s.valves ∧ (bindByPosition s).1.dose = s.dose ∧
    (bindByPosition s).1.pending = s.pending := by
  unfold bindByPosition
  dsimp only
  (repeat' split) <;> simp

@[simp] theorem lostEvent_frame (lost : List Entry) (found : Entry) (s : State) :
    (lostEvent lost found s).pins = s.pins ∧ (lostEvent lost found s).part = s.part ∧
    (lostEvent lost found s).weigh = s.weigh ∧ (lostEvent lost found s).cal = s.cal ∧
    (lostEvent lost found s).track = s.track ∧ (lostEvent lost found s).reader = s.reader ∧
    (lostEvent lost found s).filler = s.filler ∧ (lostEvent lost found s).reject = s.reject ∧
    (lostEvent lost found s).valves = s.valves ∧ (lostEvent lost found s).dose = s.dose ∧
    (lostEvent lost found s).recipes = s.recipes ∧ (lostEvent lost found s).orders = s.orders ∧
    (lostEvent lost found s).pending = s.pending := by
  unfold lostEvent
  (repeat' split) <;> simp

@[simp] theorem loseEntries_frame (lost : List Entry) (s : State) :
    (loseEntries lost s).pins = s.pins ∧ (loseEntries lost s).part = s.part ∧ (loseEntries lost s).weigh = s.weigh ∧
    (loseEntries lost s).cal = s.cal ∧ (loseEntries lost s).reader = s.reader ∧
    (loseEntries lost s).filler = s.filler ∧ (loseEntries lost s).reject = s.reject ∧
    (loseEntries lost s).valves = s.valves ∧ (loseEntries lost s).dose = s.dose ∧
    (loseEntries lost s).pending = s.pending := by
  unfold loseEntries
  induction lost generalizing s with
  | nil => simp
  | cons e l ih => simpa using ih (removeWithDrain e .lostInTransit s)

@[simp] theorem bindByMark_frame (text : List Byte) (mark : Nat) (grade : Grade) (s : State) :
    (bindByMark text mark grade s).1.pins = s.pins ∧ (bindByMark text mark grade s).1.part = s.part ∧
    (bindByMark text mark grade s).1.weigh = s.weigh ∧ (bindByMark text mark grade s).1.cal = s.cal ∧
    (bindByMark text mark grade s).1.reader = s.reader ∧ (bindByMark text mark grade s).1.filler = s.filler ∧
    (bindByMark text mark grade s).1.reject = s.reject ∧ (bindByMark text mark grade s).1.valves = s.valves ∧
    (bindByMark text mark grade s).1.dose = s.dose ∧ (bindByMark text mark grade s).1.pending = s.pending := by
  unfold bindByMark
  dsimp only
  (repeat' split) <;> simp

@[simp] theorem resolveLate_frame (serial : Nat) (m : ReadMessage) (s : State) :
    (resolveLate serial m s).1.pins = s.pins ∧ (resolveLate serial m s).1.part = s.part ∧
    (resolveLate serial m s).1.weigh = s.weigh ∧ (resolveLate serial m s).1.cal = s.cal ∧
    (resolveLate serial m s).1.reader = s.reader ∧ (resolveLate serial m s).1.filler = s.filler ∧
    (resolveLate serial m s).1.reject = s.reject ∧ (resolveLate serial m s).1.orders = s.orders ∧
    (resolveLate serial m s).1.pending = s.pending := by
  unfold resolveLate
  dsimp only
  (repeat' split) <;> simp

@[simp] theorem resolveRead_frame (p : PendingRead) (m : ReadMessage) (s : State) :
    (resolveRead p m s).1.pins = s.pins ∧ (resolveRead p m s).1.part = s.part ∧
    (resolveRead p m s).1.weigh = s.weigh ∧ (resolveRead p m s).1.cal = s.cal ∧
    (resolveRead p m s).1.reader = s.reader ∧ (resolveRead p m s).1.filler = s.filler ∧
    (resolveRead p m s).1.reject = s.reject ∧ (resolveRead p m s).1.pending = s.pending := by
  unfold resolveRead
  (repeat' split) <;> simp

@[simp] theorem setReads_frame (l : List PendingRead) (s : State) :
    (setReads l s).pins = s.pins ∧ (setReads l s).part = s.part ∧ (setReads l s).weigh = s.weigh ∧
    (setReads l s).cal = s.cal ∧ (setReads l s).reader = s.reader ∧ (setReads l s).filler = s.filler ∧
    (setReads l s).reject = s.reject ∧ (setReads l s).valves = s.valves ∧ (setReads l s).dose = s.dose ∧
    (setReads l s).recipes = s.recipes ∧ (setReads l s).orders = s.orders ∧ (setReads l s).exch = s.exch ∧
    (setReads l s).pending = s.pending := by
  unfold setReads
  simp

@[simp] theorem unsolicited_frame (m : ReadMessage) (s : State) :
    (unsolicited m s).pins = s.pins ∧ (unsolicited m s).part = s.part ∧ (unsolicited m s).weigh = s.weigh ∧
    (unsolicited m s).cal = s.cal ∧ (unsolicited m s).track = s.track ∧ (unsolicited m s).reader = s.reader ∧
    (unsolicited m s).filler = s.filler ∧ (unsolicited m s).reject = s.reject ∧ (unsolicited m s).valves = s.valves ∧
    (unsolicited m s).dose = s.dose ∧ (unsolicited m s).recipes = s.recipes ∧ (unsolicited m s).orders = s.orders ∧
    (unsolicited m s).pending = s.pending := by
  unfold unsolicited
  (repeat' split) <;> simp

@[simp] theorem takeReadResult_frame (m : ReadMessage) (s : State) :
    (takeReadResult m s).pins = s.pins ∧ (takeReadResult m s).part = s.part ∧ (takeReadResult m s).weigh = s.weigh ∧
    (takeReadResult m s).cal = s.cal ∧ (takeReadResult m s).reader = s.reader ∧
    (takeReadResult m s).filler = s.filler ∧ (takeReadResult m s).reject = s.reject ∧
    (takeReadResult m s).pending = s.pending := by
  unfold takeReadResult
  (repeat' split) <;> simp

@[simp] theorem makeReadRoom_frame (s : State) :
    (makeReadRoom s).pins = s.pins ∧ (makeReadRoom s).part = s.part ∧ (makeReadRoom s).weigh = s.weigh ∧
    (makeReadRoom s).cal = s.cal ∧ (makeReadRoom s).reader = s.reader ∧ (makeReadRoom s).filler = s.filler ∧
    (makeReadRoom s).reject = s.reject ∧ (makeReadRoom s).pending = s.pending := by
  unfold makeReadRoom
  dsimp only
  (repeat' split) <;> simp

@[simp] theorem bindEarly_frame (s : State) :
    (bindEarly s).pins = s.pins ∧ (bindEarly s).part = s.part ∧ (bindEarly s).weigh = s.weigh ∧
    (bindEarly s).cal = s.cal ∧ (bindEarly s).reader = s.reader ∧ (bindEarly s).filler = s.filler ∧
    (bindEarly s).reject = s.reject ∧ (bindEarly s).valves = s.valves ∧ (bindEarly s).dose = s.dose ∧
    (bindEarly s).pending = s.pending := by
  unfold bindEarly
  dsimp only
  (repeat' split) <;> simp

@[simp] theorem createAtPlatform_frame (s : State) :
    (createAtPlatform s).pins = s.pins ∧ (createAtPlatform s).part = s.part ∧ (createAtPlatform s).weigh = s.weigh ∧
    (createAtPlatform s).cal = s.cal ∧ (createAtPlatform s).reader = s.reader ∧
    (createAtPlatform s).filler = s.filler ∧ (createAtPlatform s).reject = s.reject ∧
    (createAtPlatform s).valves = s.valves ∧ (createAtPlatform s).dose = s.dose ∧
    (createAtPlatform s).pending = s.pending := by
  unfold createAtPlatform
  simp

@[simp] theorem trackPlatformIn_frame (s : State) :
    (trackPlatformIn s).pins = s.pins ∧ (trackPlatformIn s).part = s.part ∧ (trackPlatformIn s).weigh = s.weigh ∧
    (trackPlatformIn s).cal = s.cal ∧ (trackPlatformIn s).reader = s.reader ∧ (trackPlatformIn s).filler = s.filler ∧
    (trackPlatformIn s).reject = s.reject ∧ (trackPlatformIn s).valves = s.valves ∧
    (trackPlatformIn s).dose = s.dose ∧ (trackPlatformIn s).pending = s.pending := by
  unfold trackPlatformIn
  (repeat' split) <;> simp

@[simp] theorem trackPlatformOut_frame (w : WeighResult) (s : State) :
    (trackPlatformOut w s).pins = s.pins ∧ (trackPlatformOut w s).part = s.part ∧
    (trackPlatformOut w s).weigh = s.weigh ∧ (trackPlatformOut w s).cal = s.cal ∧
    (trackPlatformOut w s).reader = s.reader ∧ (trackPlatformOut w s).filler = s.filler ∧
    (trackPlatformOut w s).reject = s.reject ∧ (trackPlatformOut w s).orders = s.orders ∧
    (trackPlatformOut w s).pending = s.pending := by
  unfold trackPlatformOut
  dsimp only
  (repeat' split) <;> simp

@[simp] theorem sendMessage_frame (m : Message) (s : State) :
    (sendMessage m s).pins = s.pins ∧ (sendMessage m s).part = s.part ∧ (sendMessage m s).weigh = s.weigh ∧
    (sendMessage m s).cal = s.cal ∧ (sendMessage m s).track = s.track ∧ (sendMessage m s).reader = s.reader ∧
    (sendMessage m s).reject = s.reject ∧ (sendMessage m s).valves = s.valves ∧
    (sendMessage m s).recipes = s.recipes ∧ (sendMessage m s).orders = s.orders ∧ (sendMessage m s).exch = s.exch ∧
    (sendMessage m s).pending = s.pending := by
  unfold sendMessage
  simp

@[simp] theorem resend_frame (s : State) :
    (resend s).pins = s.pins ∧ (resend s).part = s.part ∧ (resend s).weigh = s.weigh ∧ (resend s).cal = s.cal ∧
    (resend s).track = s.track ∧ (resend s).reader = s.reader ∧ (resend s).reject = s.reject ∧
    (resend s).valves = s.valves ∧ (resend s).recipes = s.recipes ∧ (resend s).orders = s.orders ∧
    (resend s).exch = s.exch ∧ (resend s).pending = s.pending := by
  unfold resend
  (repeat' split) <;> simp

@[simp] theorem launch_frame (m : Message) (s : State) :
    (launch m s).pins = s.pins ∧ (launch m s).part = s.part ∧ (launch m s).weigh = s.weigh ∧
    (launch m s).cal = s.cal ∧ (launch m s).track = s.track ∧ (launch m s).reader = s.reader ∧
    (launch m s).reject = s.reject ∧ (launch m s).recipes = s.recipes ∧ (launch m s).orders = s.orders ∧
    (launch m s).exch = s.exch ∧ (launch m s).pending = s.pending := by
  unfold launch
  simp

@[simp] theorem buildAtPulse_frame (s : State) :
    (buildAtPulse s).pins = s.pins ∧ (buildAtPulse s).part = s.part ∧ (buildAtPulse s).weigh = s.weigh ∧
    (buildAtPulse s).cal = s.cal ∧ (buildAtPulse s).track = s.track ∧ (buildAtPulse s).reader = s.reader ∧
    (buildAtPulse s).reject = s.reject ∧ (buildAtPulse s).recipes = s.recipes ∧ (buildAtPulse s).orders = s.orders ∧
    (buildAtPulse s).exch = s.exch ∧ (buildAtPulse s).pending = s.pending := by
  unfold buildAtPulse
  (repeat' split) <;> simp

@[simp] theorem probeAtPulse_frame (s : State) :
    (probeAtPulse s).pins = s.pins ∧ (probeAtPulse s).part = s.part ∧ (probeAtPulse s).weigh = s.weigh ∧
    (probeAtPulse s).cal = s.cal ∧ (probeAtPulse s).track = s.track ∧ (probeAtPulse s).reader = s.reader ∧
    (probeAtPulse s).reject = s.reject ∧ (probeAtPulse s).valves = s.valves ∧ (probeAtPulse s).recipes = s.recipes ∧
    (probeAtPulse s).orders = s.orders ∧ (probeAtPulse s).exch = s.exch ∧ (probeAtPulse s).pending = s.pending := by
  unfold probeAtPulse
  (repeat' split) <;> simp

@[simp] theorem unsync_frame (s : State) :
    (unsync s).pins = s.pins ∧ (unsync s).part = s.part ∧ (unsync s).weigh = s.weigh ∧ (unsync s).cal = s.cal ∧
    (unsync s).track = s.track ∧ (unsync s).reader = s.reader ∧ (unsync s).filler = s.filler ∧
    (unsync s).reject = s.reject ∧ (unsync s).valves = s.valves ∧ (unsync s).recipes = s.recipes ∧
    (unsync s).orders = s.orders ∧ (unsync s).exch = s.exch ∧ (unsync s).pending = s.pending := by
  unfold unsync
  simp

@[simp] theorem doseAtRestart_frame (s : State) :
    (doseAtRestart s).pins = s.pins ∧ (doseAtRestart s).part = s.part ∧ (doseAtRestart s).weigh = s.weigh ∧
    (doseAtRestart s).cal = s.cal ∧ (doseAtRestart s).track = s.track ∧ (doseAtRestart s).reader = s.reader ∧
    (doseAtRestart s).filler = s.filler ∧ (doseAtRestart s).reject = s.reject ∧ (doseAtRestart s).valves = s.valves ∧
    (doseAtRestart s).recipes = s.recipes ∧ (doseAtRestart s).orders = s.orders ∧ (doseAtRestart s).exch = s.exch ∧
    (doseAtRestart s).pending = s.pending := by
  unfold doseAtRestart
  simp

@[simp] theorem swapSlots_frame (b : Gen) (s : State) :
    (swapSlots b s).pins = s.pins ∧ (swapSlots b s).part = s.part ∧ (swapSlots b s).weigh = s.weigh ∧
    (swapSlots b s).cal = s.cal ∧ (swapSlots b s).track = s.track ∧ (swapSlots b s).reader = s.reader ∧
    (swapSlots b s).filler = s.filler ∧ (swapSlots b s).reject = s.reject ∧ (swapSlots b s).valves = s.valves ∧
    (swapSlots b s).dose = s.dose ∧ (swapSlots b s).orders = s.orders ∧ (swapSlots b s).exch = s.exch ∧
    (swapSlots b s).pending = s.pending := by
  unfold swapSlots
  simp

@[simp] theorem markRetiring_frame (s : State) :
    (markRetiring s).pins = s.pins ∧ (markRetiring s).part = s.part ∧ (markRetiring s).weigh = s.weigh ∧
    (markRetiring s).cal = s.cal ∧ (markRetiring s).reader = s.reader ∧ (markRetiring s).filler = s.filler ∧
    (markRetiring s).reject = s.reject ∧ (markRetiring s).valves = s.valves ∧ (markRetiring s).dose = s.dose ∧
    (markRetiring s).recipes = s.recipes ∧ (markRetiring s).orders = s.orders ∧ (markRetiring s).exch = s.exch ∧
    (markRetiring s).pending = s.pending := by
  unfold markRetiring
  simp

@[simp] theorem retireLot_frame (s : State) :
    (retireLot s).pins = s.pins ∧ (retireLot s).part = s.part ∧ (retireLot s).weigh = s.weigh ∧
    (retireLot s).cal = s.cal ∧ (retireLot s).track = s.track ∧ (retireLot s).reader = s.reader ∧
    (retireLot s).filler = s.filler ∧ (retireLot s).reject = s.reject ∧ (retireLot s).valves = s.valves ∧
    (retireLot s).dose = s.dose ∧ (retireLot s).orders = s.orders ∧ (retireLot s).exch = s.exch ∧
    (retireLot s).pending = s.pending := by
  unfold retireLot
  simp

@[simp] theorem swap_frame (b : Gen) (s : State) :
    (swap b s).pins = s.pins ∧ (swap b s).part = s.part ∧ (swap b s).weigh = s.weigh ∧ (swap b s).cal = s.cal ∧
    (swap b s).reader = s.reader ∧ (swap b s).filler = s.filler ∧ (swap b s).reject = s.reject ∧
    (swap b s).pending = s.pending := by
  unfold swap
  simp

@[simp] theorem serveValues_frame (m : Message) (s : State) :
    (serveValues m s).pins = s.pins ∧ (serveValues m s).part = s.part ∧ (serveValues m s).weigh = s.weigh ∧
    (serveValues m s).cal = s.cal ∧ (serveValues m s).track = s.track ∧ (serveValues m s).reader = s.reader ∧
    (serveValues m s).filler = s.filler ∧ (serveValues m s).reject = s.reject ∧ (serveValues m s).valves = s.valves ∧
    (serveValues m s).recipes = s.recipes ∧ (serveValues m s).orders = s.orders ∧ (serveValues m s).exch = s.exch ∧
    (serveValues m s).pending = s.pending := by
  unfold serveValues
  simp

@[simp] theorem linkUpEvent_frame (before : LinkState) (g : Gen) (code : Nat) (s : State) :
    (linkUpEvent before g code s).pins = s.pins ∧ (linkUpEvent before g code s).part = s.part ∧
    (linkUpEvent before g code s).weigh = s.weigh ∧ (linkUpEvent before g code s).cal = s.cal ∧
    (linkUpEvent before g code s).track = s.track ∧ (linkUpEvent before g code s).reader = s.reader ∧
    (linkUpEvent before g code s).filler = s.filler ∧ (linkUpEvent before g code s).reject = s.reject ∧
    (linkUpEvent before g code s).valves = s.valves ∧ (linkUpEvent before g code s).dose = s.dose ∧
    (linkUpEvent before g code s).recipes = s.recipes ∧ (linkUpEvent before g code s).orders = s.orders ∧
    (linkUpEvent before g code s).pending = s.pending := by
  unfold linkUpEvent
  (repeat' split) <;> simp

@[simp] theorem serve_frame (m : Message) (res : AckResult) (s : State) :
    (serve m res s).pins = s.pins ∧ (serve m res s).part = s.part ∧ (serve m res s).weigh = s.weigh ∧
    (serve m res s).cal = s.cal ∧ (serve m res s).reader = s.reader ∧ (serve m res s).filler = s.filler ∧
    (serve m res s).reject = s.reject ∧ (serve m res s).pending = s.pending := by
  unfold serve
  dsimp only
  (repeat' split) <;> simp

@[simp] theorem revertTrims_frame (list : List (Nat × Int)) (s : State) :
    (revertTrims list s).pins = s.pins ∧ (revertTrims list s).part = s.part ∧ (revertTrims list s).weigh = s.weigh ∧
    (revertTrims list s).cal = s.cal ∧ (revertTrims list s).track = s.track ∧
    (revertTrims list s).reader = s.reader ∧ (revertTrims list s).filler = s.filler ∧
    (revertTrims list s).reject = s.reject ∧ (revertTrims list s).valves = s.valves ∧
    (revertTrims list s).recipes = s.recipes ∧ (revertTrims list s).orders = s.orders ∧
    (revertTrims list s).exch = s.exch ∧ (revertTrims list s).pending = s.pending := by
  unfold revertTrims
  simp

@[simp] theorem refuseChangeover_frame (g : Gen) (s : State) :
    (refuseChangeover g s).pins = s.pins ∧ (refuseChangeover g s).part = s.part ∧
    (refuseChangeover g s).weigh = s.weigh ∧ (refuseChangeover g s).cal = s.cal ∧
    (refuseChangeover g s).track = s.track ∧ (refuseChangeover g s).reader = s.reader ∧
    (refuseChangeover g s).filler = s.filler ∧ (refuseChangeover g s).reject = s.reject ∧
    (refuseChangeover g s).valves = s.valves ∧ (refuseChangeover g s).pending = s.pending := by
  unfold refuseChangeover
  simp

@[simp] theorem refuse_frame (m : Message) (s : State) :
    (refuse m s).pins = s.pins ∧ (refuse m s).part = s.part ∧ (refuse m s).weigh = s.weigh ∧
    (refuse m s).cal = s.cal ∧ (refuse m s).track = s.track ∧ (refuse m s).reader = s.reader ∧
    (refuse m s).filler = s.filler ∧ (refuse m s).reject = s.reject ∧ (refuse m s).pending = s.pending := by
  unfold refuse
  dsimp only
  (repeat' split) <;> simp

@[simp] theorem strayAck_frame (g : Gen) (res : AckResult) (s : State) :
    (strayAck g res s).pins = s.pins ∧ (strayAck g res s).part = s.part ∧ (strayAck g res s).weigh = s.weigh ∧
    (strayAck g res s).cal = s.cal ∧ (strayAck g res s).track = s.track ∧ (strayAck g res s).reader = s.reader ∧
    (strayAck g res s).filler = s.filler ∧ (strayAck g res s).reject = s.reject ∧
    (strayAck g res s).valves = s.valves ∧ (strayAck g res s).dose = s.dose ∧
    (strayAck g res s).recipes = s.recipes ∧ (strayAck g res s).orders = s.orders ∧
    (strayAck g res s).pending = s.pending := by
  unfold strayAck
  (repeat' split) <;> simp

@[simp] theorem takeAck_frame (g : Gen) (res : AckResult) (s : State) :
    (takeAck g res s).pins = s.pins ∧ (takeAck g res s).part = s.part ∧ (takeAck g res s).weigh = s.weigh ∧
    (takeAck g res s).cal = s.cal ∧ (takeAck g res s).reader = s.reader ∧ (takeAck g res s).filler = s.filler ∧
    (takeAck g res s).reject = s.reject ∧ (takeAck g res s).pending = s.pending := by
  unfold takeAck
  (repeat' split) <;> simp

@[simp] theorem dischargeBad_frame (valve : Byte) (g : Gen) (ref : RecipeRef) (serial : Nat) (s : State) :
    (dischargeBad valve g ref serial s).pins = s.pins ∧ (dischargeBad valve g ref serial s).part = s.part ∧
    (dischargeBad valve g ref serial s).weigh = s.weigh ∧ (dischargeBad valve g ref serial s).cal = s.cal ∧
    (dischargeBad valve g ref serial s).track = s.track ∧ (dischargeBad valve g ref serial s).reader = s.reader ∧
    (dischargeBad valve g ref serial s).filler = s.filler ∧ (dischargeBad valve g ref serial s).reject = s.reject ∧
    (dischargeBad valve g ref serial s).valves = s.valves ∧ (dischargeBad valve g ref serial s).dose = s.dose ∧
    (dischargeBad valve g ref serial s).recipes = s.recipes ∧ (dischargeBad valve g ref serial s).orders = s.orders ∧
    (dischargeBad valve g ref serial s).pending = s.pending := by
  unfold dischargeBad
  (repeat' split) <;> simp

@[simp] theorem trackDischarge_frame (valve : Byte) (g : Gen) (s : State) :
    (trackDischarge valve g s).pins = s.pins ∧ (trackDischarge valve g s).part = s.part ∧
    (trackDischarge valve g s).weigh = s.weigh ∧ (trackDischarge valve g s).cal = s.cal ∧
    (trackDischarge valve g s).reader = s.reader ∧ (trackDischarge valve g s).filler = s.filler ∧
    (trackDischarge valve g s).reject = s.reject ∧ (trackDischarge valve g s).valves = s.valves ∧
    (trackDischarge valve g s).dose = s.dose ∧ (trackDischarge valve g s).recipes = s.recipes ∧
    (trackDischarge valve g s).orders = s.orders ∧ (trackDischarge valve g s).pending = s.pending := by
  unfold trackDischarge
  simp

@[simp] theorem takeDischarge_frame (valve : Byte) (g : Gen) (s : State) :
    (takeDischarge valve g s).pins = s.pins ∧ (takeDischarge valve g s).part = s.part ∧
    (takeDischarge valve g s).weigh = s.weigh ∧ (takeDischarge valve g s).cal = s.cal ∧
    (takeDischarge valve g s).reader = s.reader ∧ (takeDischarge valve g s).filler = s.filler ∧
    (takeDischarge valve g s).reject = s.reject ∧ (takeDischarge valve g s).valves = s.valves ∧
    (takeDischarge valve g s).dose = s.dose ∧ (takeDischarge valve g s).pending = s.pending := by
  unfold takeDischarge
  (repeat' split) <;> simp

end Sys2Proof.Machine
end

