-- ==== Sys2Proof/Laws/FramesCommands.lean ====
section
/-! SUPPORT. What each operation of the Order Unit, the links, the host's side and the commands leaves unchanged: one lemma an operation, naming every block that the
operation never writes. -/

namespace Sys2Proof.Machine

@[simp] theorem changeoverInConfig_frame (r : Recipe) (slot : Slot) (s : State) :
    (changeoverInConfig r slot s).pins = s.pins ∧ (changeoverInConfig r slot s).track = s.track ∧
    (changeoverInConfig r slot s).reader = s.reader ∧ (changeoverInConfig r slot s).filler = s.filler ∧
    (changeoverInConfig r slot s).reject = s.reject ∧ (changeoverInConfig r slot s).pending = s.pending := by
  unfold changeoverInConfig
  simp

@[simp] theorem changeoverOnLine_frame (r : Recipe) (slot : Slot) (s : State) :
    (changeoverOnLine r slot s).pins = s.pins ∧ (changeoverOnLine r slot s).part = s.part ∧
    (changeoverOnLine r slot s).weigh = s.weigh ∧ (changeoverOnLine r slot s).cal = s.cal ∧
    (changeoverOnLine r slot s).track = s.track ∧ (changeoverOnLine r slot s).reader = s.reader ∧
    (changeoverOnLine r slot s).filler = s.filler ∧ (changeoverOnLine r slot s).reject = s.reject ∧
    (changeoverOnLine r slot s).valves = s.valves ∧ (changeoverOnLine r slot s).pending = s.pending := by
  unfold changeoverOnLine
  simp

@[simp] theorem orderChangeover_frame (slot : Slot) (s : State) :
    (orderChangeover slot s).pins = s.pins ∧ (orderChangeover slot s).track = s.track ∧
    (orderChangeover slot s).reader = s.reader ∧ (orderChangeover slot s).filler = s.filler ∧
    (orderChangeover slot s).reject = s.reject ∧ (orderChangeover slot s).pending = s.pending := by
  unfold orderChangeover
  (repeat' split) <;> simp

@[simp] theorem orderLotClose_frame (slot : Slot) (s : State) :
    (orderLotClose slot s).pins = s.pins ∧ (orderLotClose slot s).part = s.part ∧
    (orderLotClose slot s).weigh = s.weigh ∧ (orderLotClose slot s).cal = s.cal ∧
    (orderLotClose slot s).track = s.track ∧ (orderLotClose slot s).reader = s.reader ∧
    (orderLotClose slot s).filler = s.filler ∧ (orderLotClose slot s).reject = s.reject ∧
    (orderLotClose slot s).valves = s.valves ∧ (orderLotClose slot s).dose = s.dose ∧
    (orderLotClose slot s).pending = s.pending := by
  unfold orderLotClose
  simp

@[simp] theorem orderZeroSet_frame (slot : Slot) (s : State) :
    (orderZeroSet slot s).pins = s.pins ∧ (orderZeroSet slot s).part = s.part ∧ (orderZeroSet slot s).cal = s.cal ∧
    (orderZeroSet slot s).track = s.track ∧ (orderZeroSet slot s).reader = s.reader ∧
    (orderZeroSet slot s).filler = s.filler ∧ (orderZeroSet slot s).reject = s.reject ∧
    (orderZeroSet slot s).valves = s.valves ∧ (orderZeroSet slot s).dose = s.dose ∧
    (orderZeroSet slot s).recipes = s.recipes ∧ (orderZeroSet slot s).pending = s.pending := by
  unfold orderZeroSet
  (repeat' split) <;> simp

@[simp] theorem beginCalAveraging_frame (kind : CalKind) (slot : Slot) (s : State) :
    (beginCalAveraging kind slot s).pins = s.pins ∧ (beginCalAveraging kind slot s).part = s.part ∧
    (beginCalAveraging kind slot s).track = s.track ∧ (beginCalAveraging kind slot s).reader = s.reader ∧
    (beginCalAveraging kind slot s).filler = s.filler ∧ (beginCalAveraging kind slot s).reject = s.reject ∧
    (beginCalAveraging kind slot s).valves = s.valves ∧ (beginCalAveraging kind slot s).dose = s.dose ∧
    (beginCalAveraging kind slot s).recipes = s.recipes ∧ (beginCalAveraging kind slot s).pending = s.pending := by
  unfold beginCalAveraging
  simp

@[simp] theorem orderCalZero_frame (slot : Slot) (s : State) :
    (orderCalZero slot s).pins = s.pins ∧ (orderCalZero slot s).part = s.part ∧
    (orderCalZero slot s).track = s.track ∧ (orderCalZero slot s).reader = s.reader ∧
    (orderCalZero slot s).filler = s.filler ∧ (orderCalZero slot s).reject = s.reject ∧
    (orderCalZero slot s).valves = s.valves ∧ (orderCalZero slot s).dose = s.dose ∧
    (orderCalZero slot s).recipes = s.recipes ∧ (orderCalZero slot s).pending = s.pending := by
  unfold orderCalZero
  (repeat' split) <;> simp

@[simp] theorem orderCalSpan_frame (slot : Slot) (s : State) :
    (orderCalSpan slot s).pins = s.pins ∧ (orderCalSpan slot s).part = s.part ∧
    (orderCalSpan slot s).track = s.track ∧ (orderCalSpan slot s).reader = s.reader ∧
    (orderCalSpan slot s).filler = s.filler ∧ (orderCalSpan slot s).reject = s.reject ∧
    (orderCalSpan slot s).valves = s.valves ∧ (orderCalSpan slot s).dose = s.dose ∧
    (orderCalSpan slot s).recipes = s.recipes ∧ (orderCalSpan slot s).pending = s.pending := by
  unfold orderCalSpan
  simp

@[simp] theorem orderValveLock_frame (slot : Slot) (s : State) :
    (orderValveLock slot s).pins = s.pins ∧ (orderValveLock slot s).part = s.part ∧
    (orderValveLock slot s).weigh = s.weigh ∧ (orderValveLock slot s).cal = s.cal ∧
    (orderValveLock slot s).track = s.track ∧ (orderValveLock slot s).reader = s.reader ∧
    (orderValveLock slot s).filler = s.filler ∧ (orderValveLock slot s).reject = s.reject ∧
    (orderValveLock slot s).dose = s.dose ∧ (orderValveLock slot s).recipes = s.recipes ∧
    (orderValveLock slot s).pending = s.pending := by
  unfold orderValveLock
  simp

@[simp] theorem orderValveRelease_frame (slot : Slot) (s : State) :
    (orderValveRelease slot s).pins = s.pins ∧ (orderValveRelease slot s).part = s.part ∧
    (orderValveRelease slot s).weigh = s.weigh ∧ (orderValveRelease slot s).cal = s.cal ∧
    (orderValveRelease slot s).track = s.track ∧ (orderValveRelease slot s).reader = s.reader ∧
    (orderValveRelease slot s).filler = s.filler ∧ (orderValveRelease slot s).reject = s.reject ∧
    (orderValveRelease slot s).dose = s.dose ∧ (orderValveRelease slot s).recipes = s.recipes ∧
    (orderValveRelease slot s).pending = s.pending := by
  unfold orderValveRelease
  dsimp only
  (repeat' split) <;> simp

@[simp] theorem orderValveTrim_frame (slot : Slot) (s : State) :
    (orderValveTrim slot s).pins = s.pins ∧ (orderValveTrim slot s).part = s.part ∧
    (orderValveTrim slot s).weigh = s.weigh ∧ (orderValveTrim slot s).cal = s.cal ∧
    (orderValveTrim slot s).track = s.track ∧ (orderValveTrim slot s).reader = s.reader ∧
    (orderValveTrim slot s).filler = s.filler ∧ (orderValveTrim slot s).reject = s.reject ∧
    (orderValveTrim slot s).recipes = s.recipes ∧ (orderValveTrim slot s).pending = s.pending := by
  unfold orderValveTrim
  dsimp only
  (repeat' split) <;> simp

@[simp] theorem orderLoopSet_frame (slot : Slot) (s : State) :
    (orderLoopSet slot s).pins = s.pins ∧ (orderLoopSet slot s).part = s.part ∧
    (orderLoopSet slot s).weigh = s.weigh ∧ (orderLoopSet slot s).cal = s.cal ∧
    (orderLoopSet slot s).track = s.track ∧ (orderLoopSet slot s).reader = s.reader ∧
    (orderLoopSet slot s).filler = s.filler ∧ (orderLoopSet slot s).reject = s.reject ∧
    (orderLoopSet slot s).dose = s.dose ∧ (orderLoopSet slot s).recipes = s.recipes ∧
    (orderLoopSet slot s).pending = s.pending := by
  unfold orderLoopSet
  simp

@[simp] theorem orderSnapshot_frame (slot : Slot) (s : State) :
    (orderSnapshot slot s).pins = s.pins ∧ (orderSnapshot slot s).part = s.part ∧
    (orderSnapshot slot s).weigh = s.weigh ∧ (orderSnapshot slot s).cal = s.cal ∧
    (orderSnapshot slot s).track = s.track ∧ (orderSnapshot slot s).reader = s.reader ∧
    (orderSnapshot slot s).filler = s.filler ∧ (orderSnapshot slot s).reject = s.reject ∧
    (orderSnapshot slot s).dose = s.dose ∧ (orderSnapshot slot s).recipes = s.recipes ∧
    (orderSnapshot slot s).pending = s.pending := by
  unfold orderSnapshot
  simp

@[simp] theorem orderTrackFlush_frame (slot : Slot) (s : State) :
    (orderTrackFlush slot s).pins = s.pins ∧ (orderTrackFlush slot s).part = s.part ∧
    (orderTrackFlush slot s).cal = s.cal ∧ (orderTrackFlush slot s).reader = s.reader ∧
    (orderTrackFlush slot s).filler = s.filler ∧ (orderTrackFlush slot s).reject = s.reject ∧
    (orderTrackFlush slot s).valves = s.valves ∧ (orderTrackFlush slot s).dose = s.dose ∧
    (orderTrackFlush slot s).pending = s.pending := by
  unfold orderTrackFlush
  dsimp only
  (repeat' split) <;> simp

@[simp] theorem orderFaultClear_frame (slot : Slot) (s : State) :
    (orderFaultClear slot s).pins = s.pins ∧ (orderFaultClear slot s).track = s.track ∧
    (orderFaultClear slot s).reader = s.reader ∧ (orderFaultClear slot s).filler = s.filler ∧
    (orderFaultClear slot s).reject = s.reject ∧ (orderFaultClear slot s).valves = s.valves ∧
    (orderFaultClear slot s).dose = s.dose ∧ (orderFaultClear slot s).recipes = s.recipes ∧
    (orderFaultClear slot s).pending = s.pending := by
  unfold orderFaultClear
  simp

@[simp] theorem handOver_frame (k : OrderKind) (slot : Slot) (s : State) :
    (handOver k slot s).pins = s.pins ∧ (handOver k slot s).reader = s.reader ∧
    (handOver k slot s).filler = s.filler ∧ (handOver k slot s).reject = s.reject ∧
    (handOver k slot s).pending = s.pending := by
  unfold handOver
  (repeat' split) <;> simp

@[simp] theorem takeOrder_frame (slot : Slot) (s : State) :
    (takeOrder slot s).pins = s.pins ∧ (takeOrder slot s).reader = s.reader ∧ (takeOrder slot s).filler = s.filler ∧
    (takeOrder slot s).reject = s.reject ∧ (takeOrder slot s).pending = s.pending := by
  unfold takeOrder
  (repeat' split) <;> simp

@[simp] theorem examineSlot_frame (slot : Slot) (s : State) :
    (examineSlot slot s).pins = s.pins ∧ (examineSlot slot s).reader = s.reader ∧
    (examineSlot slot s).filler = s.filler ∧ (examineSlot slot s).reject = s.reject ∧
    (examineSlot slot s).pending = s.pending := by
  unfold examineSlot
  (repeat' split) <;> simp

@[simp] theorem scanSlots_frame (s : State) :
    (scanSlots s).pins = s.pins ∧ (scanSlots s).reader = s.reader ∧ (scanSlots s).filler = s.filler ∧
    (scanSlots s).reject = s.reject ∧ (scanSlots s).pending = s.pending := by
  simp [scanSlots, scanOrder]

@[simp] theorem setReaderAsm_frame (a : ReaderAsm) (s : State) :
    (setReaderAsm a s).pins = s.pins ∧ (setReaderAsm a s).part = s.part ∧ (setReaderAsm a s).weigh = s.weigh ∧
    (setReaderAsm a s).cal = s.cal ∧ (setReaderAsm a s).track = s.track ∧ (setReaderAsm a s).filler = s.filler ∧
    (setReaderAsm a s).reject = s.reject ∧ (setReaderAsm a s).valves = s.valves ∧ (setReaderAsm a s).dose = s.dose ∧
    (setReaderAsm a s).recipes = s.recipes ∧ (setReaderAsm a s).orders = s.orders ∧
    (setReaderAsm a s).exch = s.exch ∧ (setReaderAsm a s).pending = s.pending := by
  unfold setReaderAsm
  simp

@[simp] theorem garbled_frame (step count : Nat) (s : State) :
    (garbled step count s).pins = s.pins ∧ (garbled step count s).part = s.part ∧
    (garbled step count s).weigh = s.weigh ∧ (garbled step count s).cal = s.cal ∧
    (garbled step count s).track = s.track ∧ (garbled step count s).reader = s.reader ∧
    (garbled step count s).filler = s.filler ∧ (garbled step count s).reject = s.reject ∧
    (garbled step count s).valves = s.valves ∧ (garbled step count s).dose = s.dose ∧
    (garbled step count s).recipes = s.recipes ∧ (garbled step count s).orders = s.orders ∧
    (garbled step count s).pending = s.pending := by
  unfold garbled
  simp

@[simp] theorem takeMessage_frame (m : List Byte) (s : State) :
    (takeMessage m s).pins = s.pins ∧ (takeMessage m s).part = s.part ∧ (takeMessage m s).weigh = s.weigh ∧
    (takeMessage m s).cal = s.cal ∧ (takeMessage m s).reader = s.reader ∧ (takeMessage m s).filler = s.filler ∧
    (takeMessage m s).reject = s.reject ∧ (takeMessage m s).pending = s.pending := by
  unfold takeMessage
  (repeat' split) <;> simp

@[simp] theorem readerEnd_frame (s : State) :
    (readerEnd s).pins = s.pins ∧ (readerEnd s).part = s.part ∧ (readerEnd s).weigh = s.weigh ∧
    (readerEnd s).cal = s.cal ∧ (readerEnd s).filler = s.filler ∧ (readerEnd s).reject = s.reject ∧
    (readerEnd s).pending = s.pending := by
  unfold readerEnd
  (repeat' split) <;> simp

@[simp] theorem readerPut_frame (c : Byte) (s : State) :
    (readerPut c s).pins = s.pins ∧ (readerPut c s).part = s.part ∧ (readerPut c s).weigh = s.weigh ∧
    (readerPut c s).cal = s.cal ∧ (readerPut c s).track = s.track ∧ (readerPut c s).filler = s.filler ∧
    (readerPut c s).reject = s.reject ∧ (readerPut c s).valves = s.valves ∧ (readerPut c s).dose = s.dose ∧
    (readerPut c s).recipes = s.recipes ∧ (readerPut c s).orders = s.orders ∧ (readerPut c s).exch = s.exch ∧
    (readerPut c s).pending = s.pending := by
  unfold readerPut
  (repeat' split) <;> simp

@[simp] theorem readerTake_frame (c : Byte) (s : State) :
    (readerTake c s).pins = s.pins ∧ (readerTake c s).part = s.part ∧ (readerTake c s).weigh = s.weigh ∧
    (readerTake c s).cal = s.cal ∧ (readerTake c s).filler = s.filler ∧ (readerTake c s).reject = s.reject ∧
    (readerTake c s).pending = s.pending := by
  unfold readerTake
  (repeat' split) <;> simp

@[simp] theorem readerDamage_frame (s : State) :
    (readerDamage s).pins = s.pins ∧ (readerDamage s).part = s.part ∧ (readerDamage s).weigh = s.weigh ∧
    (readerDamage s).cal = s.cal ∧ (readerDamage s).track = s.track ∧ (readerDamage s).filler = s.filler ∧
    (readerDamage s).reject = s.reject ∧ (readerDamage s).valves = s.valves ∧ (readerDamage s).dose = s.dose ∧
    (readerDamage s).recipes = s.recipes ∧ (readerDamage s).orders = s.orders ∧ (readerDamage s).pending = s.pending := by
  unfold readerDamage
  (repeat' split) <;> simp

@[simp] theorem readerFramingFault_frame (brk : Bool) (s : State) :
    (readerFramingFault brk s).pins = s.pins ∧ (readerFramingFault brk s).part = s.part ∧
    (readerFramingFault brk s).weigh = s.weigh ∧ (readerFramingFault brk s).cal = s.cal ∧
    (readerFramingFault brk s).track = s.track ∧ (readerFramingFault brk s).filler = s.filler ∧
    (readerFramingFault brk s).reject = s.reject ∧ (readerFramingFault brk s).valves = s.valves ∧
    (readerFramingFault brk s).dose = s.dose ∧ (readerFramingFault brk s).recipes = s.recipes ∧
    (readerFramingFault brk s).orders = s.orders ∧ (readerFramingFault brk s).pending = s.pending := by
  unfold readerFramingFault
  (repeat' split) <;> simp

@[simp] theorem settleFrame_frame (f : Frame) (s : State) :
    (settleFrame f s).pins = s.pins ∧ (settleFrame f s).part = s.part ∧ (settleFrame f s).weigh = s.weigh ∧
    (settleFrame f s).cal = s.cal ∧ (settleFrame f s).reader = s.reader ∧ (settleFrame f s).filler = s.filler ∧
    (settleFrame f s).reject = s.reject ∧ (settleFrame f s).pending = s.pending := by
  unfold settleFrame
  (repeat' split) <;> simp

@[simp] theorem fillerTake_frame (b : Byte) (s : State) :
    (fillerTake b s).pins = s.pins ∧ (fillerTake b s).part = s.part ∧ (fillerTake b s).weigh = s.weigh ∧
    (fillerTake b s).cal = s.cal ∧ (fillerTake b s).reader = s.reader ∧ (fillerTake b s).reject = s.reject ∧
    (fillerTake b s).pending = s.pending := by
  unfold fillerTake
  dsimp only
  (repeat' split) <;> simp

@[simp] theorem fillerFault_frame (fault : CharFault) (s : State) :
    (fillerFault fault s).pins = s.pins ∧ (fillerFault fault s).part = s.part ∧
    (fillerFault fault s).weigh = s.weigh ∧ (fillerFault fault s).cal = s.cal ∧
    (fillerFault fault s).track = s.track ∧ (fillerFault fault s).reader = s.reader ∧
    (fillerFault fault s).reject = s.reject ∧ (fillerFault fault s).valves = s.valves ∧
    (fillerFault fault s).dose = s.dose ∧ (fillerFault fault s).recipes = s.recipes ∧
    (fillerFault fault s).orders = s.orders ∧ (fillerFault fault s).pending = s.pending := by
  unfold fillerFault
  dsimp only
  (repeat' split) <;> simp

@[simp] theorem fillerReceive_frame (c : LineChar) (s : State) :
    (fillerReceive c s).pins = s.pins ∧ (fillerReceive c s).part = s.part ∧ (fillerReceive c s).weigh = s.weigh ∧
    (fillerReceive c s).cal = s.cal ∧ (fillerReceive c s).reader = s.reader ∧ (fillerReceive c s).reject = s.reject ∧
    (fillerReceive c s).pending = s.pending := by
  unfold fillerReceive
  split <;> simp

@[simp] theorem gapExpired_frame (s : State) :
    (gapExpired s).pins = s.pins ∧ (gapExpired s).part = s.part ∧ (gapExpired s).weigh = s.weigh ∧
    (gapExpired s).cal = s.cal ∧ (gapExpired s).track = s.track ∧ (gapExpired s).reader = s.reader ∧
    (gapExpired s).reject = s.reject ∧ (gapExpired s).valves = s.valves ∧ (gapExpired s).dose = s.dose ∧
    (gapExpired s).recipes = s.recipes ∧ (gapExpired s).orders = s.orders ∧ (gapExpired s).pending = s.pending := by
  unfold gapExpired
  simp

@[simp] theorem refuseWrite_frame (a : Nat) (value : Word) (s : State) :
    (refuseWrite a value s).pins = s.pins ∧ (refuseWrite a value s).part = s.part ∧
    (refuseWrite a value s).weigh = s.weigh ∧ (refuseWrite a value s).cal = s.cal ∧
    (refuseWrite a value s).track = s.track ∧ (refuseWrite a value s).reader = s.reader ∧
    (refuseWrite a value s).filler = s.filler ∧ (refuseWrite a value s).reject = s.reject ∧
    (refuseWrite a value s).valves = s.valves ∧ (refuseWrite a value s).dose = s.dose ∧
    (refuseWrite a value s).recipes = s.recipes ∧ (refuseWrite a value s).orders = s.orders ∧
    (refuseWrite a value s).pending = s.pending := by
  unfold refuseWrite
  (repeat' split) <;> simp

@[simp] theorem writeMemory_frame (a : Nat) (value : Word) (s : State) :
    (writeMemory a value s).pins = s.pins ∧ (writeMemory a value s).part = s.part ∧
    (writeMemory a value s).weigh = s.weigh ∧ (writeMemory a value s).cal = s.cal ∧
    (writeMemory a value s).track = s.track ∧ (writeMemory a value s).reader = s.reader ∧
    (writeMemory a value s).filler = s.filler ∧ (writeMemory a value s).reject = s.reject ∧
    (writeMemory a value s).valves = s.valves ∧ (writeMemory a value s).dose = s.dose ∧
    (writeMemory a value s).recipes = s.recipes ∧ (writeMemory a value s).orders = s.orders ∧
    (writeMemory a value s).pending = s.pending := by
  unfold writeMemory
  (repeat' split) <;> simp

@[simp] theorem clearNotices_frame (value : Word) (s : State) :
    (clearNotices value s).pins = s.pins ∧ (clearNotices value s).part = s.part ∧
    (clearNotices value s).weigh = s.weigh ∧ (clearNotices value s).cal = s.cal ∧
    (clearNotices value s).track = s.track ∧ (clearNotices value s).reader = s.reader ∧
    (clearNotices value s).filler = s.filler ∧ (clearNotices value s).reject = s.reject ∧
    (clearNotices value s).valves = s.valves ∧ (clearNotices value s).dose = s.dose ∧
    (clearNotices value s).recipes = s.recipes ∧ (clearNotices value s).orders = s.orders ∧
    (clearNotices value s).pending = s.pending := by
  unfold clearNotices
  simp

@[simp] theorem replaceMask_frame (value : Word) (s : State) :
    (replaceMask value s).pins = s.pins ∧ (replaceMask value s).part = s.part ∧
    (replaceMask value s).weigh = s.weigh ∧ (replaceMask value s).cal = s.cal ∧
    (replaceMask value s).track = s.track ∧ (replaceMask value s).reader = s.reader ∧
    (replaceMask value s).filler = s.filler ∧ (replaceMask value s).reject = s.reject ∧
    (replaceMask value s).valves = s.valves ∧ (replaceMask value s).dose = s.dose ∧
    (replaceMask value s).recipes = s.recipes ∧ (replaceMask value s).orders = s.orders ∧
    (replaceMask value s).pending = s.pending := by
  unfold replaceMask
  simp

@[simp] theorem restartQueue_frame (s : State) :
    (restartQueue s).pins = s.pins ∧ (restartQueue s).part = s.part ∧ (restartQueue s).weigh = s.weigh ∧
    (restartQueue s).cal = s.cal ∧ (restartQueue s).track = s.track ∧ (restartQueue s).reader = s.reader ∧
    (restartQueue s).filler = s.filler ∧ (restartQueue s).reject = s.reject ∧ (restartQueue s).valves = s.valves ∧
    (restartQueue s).dose = s.dose ∧ (restartQueue s).recipes = s.recipes ∧ (restartQueue s).orders = s.orders ∧
    (restartQueue s).pending = s.pending := by
  unfold restartQueue
  simp

@[simp] theorem weighAtRestart_frame (s : State) :
    (weighAtRestart s).pins = s.pins ∧ (weighAtRestart s).part = s.part ∧ (weighAtRestart s).cal = s.cal ∧
    (weighAtRestart s).track = s.track ∧ (weighAtRestart s).reader = s.reader ∧
    (weighAtRestart s).filler = s.filler ∧ (weighAtRestart s).reject = s.reject ∧
    (weighAtRestart s).valves = s.valves ∧ (weighAtRestart s).dose = s.dose ∧
    (weighAtRestart s).recipes = s.recipes ∧ (weighAtRestart s).orders = s.orders ∧
    (weighAtRestart s).exch = s.exch ∧ (weighAtRestart s).pending = s.pending := by
  unfold weighAtRestart
  simp

@[simp] theorem calOrdersAtRestart_frame (s : State) :
    (calOrdersAtRestart s).pins = s.pins ∧ (calOrdersAtRestart s).part = s.part ∧
    (calOrdersAtRestart s).track = s.track ∧ (calOrdersAtRestart s).reader = s.reader ∧
    (calOrdersAtRestart s).filler = s.filler ∧ (calOrdersAtRestart s).reject = s.reject ∧
    (calOrdersAtRestart s).valves = s.valves ∧ (calOrdersAtRestart s).dose = s.dose ∧
    (calOrdersAtRestart s).recipes = s.recipes ∧ (calOrdersAtRestart s).pending = s.pending := by
  unfold calOrdersAtRestart
  simp

@[simp] theorem recipesAtRestart_frame (s : State) :
    (recipesAtRestart s).pins = s.pins ∧ (recipesAtRestart s).part = s.part ∧ (recipesAtRestart s).weigh = s.weigh ∧
    (recipesAtRestart s).cal = s.cal ∧ (recipesAtRestart s).track = s.track ∧
    (recipesAtRestart s).reader = s.reader ∧ (recipesAtRestart s).filler = s.filler ∧
    (recipesAtRestart s).reject = s.reject ∧ (recipesAtRestart s).valves = s.valves ∧
    (recipesAtRestart s).dose = s.dose ∧ (recipesAtRestart s).pending = s.pending := by
  unfold recipesAtRestart
  dsimp only
  (repeat' split) <;> simp

@[simp] theorem fillerAtRestart_frame (s : State) :
    (fillerAtRestart s).pins = s.pins ∧ (fillerAtRestart s).part = s.part ∧ (fillerAtRestart s).weigh = s.weigh ∧
    (fillerAtRestart s).cal = s.cal ∧ (fillerAtRestart s).track = s.track ∧ (fillerAtRestart s).reader = s.reader ∧
    (fillerAtRestart s).reject = s.reject ∧ (fillerAtRestart s).valves = s.valves ∧
    (fillerAtRestart s).dose = s.dose ∧ (fillerAtRestart s).recipes = s.recipes ∧
    (fillerAtRestart s).orders = s.orders ∧ (fillerAtRestart s).exch = s.exch ∧
    (fillerAtRestart s).pending = s.pending := by
  unfold fillerAtRestart
  simp

@[simp] theorem restartBlocks_frame (s : State) :
    (restartBlocks s).pins = s.pins ∧ (restartBlocks s).reader = s.reader ∧ (restartBlocks s).reject = s.reject ∧
    (restartBlocks s).pending = s.pending := by
  unfold restartBlocks
  simp

@[simp] theorem restartPart_frame (s : State) :
    (restartPart s).pins = s.pins ∧ (restartPart s).reader = s.reader ∧ (restartPart s).reject = s.reject ∧
    (restartPart s).pending = s.pending := by
  unfold restartPart
  simp

@[simp] theorem writeControl_frame (value : Word) (s : State) :
    (writeControl value s).pins = s.pins ∧ (writeControl value s).reader = s.reader ∧
    (writeControl value s).reject = s.reject ∧ (writeControl value s).pending = s.pending := by
  unfold writeControl
  (repeat' split) <;> simp

@[simp] theorem hostWrite_frame (addr value : Word) (s : State) :
    (hostWrite addr value s).pins = s.pins ∧ (hostWrite addr value s).reader = s.reader ∧
    (hostWrite addr value s).reject = s.reject ∧ (hostWrite addr value s).pending = s.pending := by
  unfold hostWrite
  (repeat' split) <;> simp

@[simp] theorem releaseReset_frame (s : State) :
    (releaseReset s).part = s.part ∧ (releaseReset s).weigh = s.weigh ∧ (releaseReset s).cal = s.cal ∧
    (releaseReset s).track = s.track ∧ (releaseReset s).reader = s.reader ∧ (releaseReset s).filler = s.filler ∧
    (releaseReset s).reject = s.reject ∧ (releaseReset s).valves = s.valves ∧ (releaseReset s).dose = s.dose ∧
    (releaseReset s).recipes = s.recipes ∧ (releaseReset s).orders = s.orders ∧ (releaseReset s).exch = s.exch ∧
    (releaseReset s).pending = s.pending := by
  unfold releaseReset
  simp

@[simp] theorem setLineRun_frame (level : Bool) (s : State) :
    (setLineRun level s).part = s.part ∧ (setLineRun level s).weigh = s.weigh ∧ (setLineRun level s).cal = s.cal ∧
    (setLineRun level s).track = s.track ∧ (setLineRun level s).reader = s.reader ∧
    (setLineRun level s).filler = s.filler ∧ (setLineRun level s).reject = s.reject ∧
    (setLineRun level s).valves = s.valves ∧ (setLineRun level s).dose = s.dose ∧
    (setLineRun level s).recipes = s.recipes ∧ (setLineRun level s).orders = s.orders ∧
    (setLineRun level s).exch = s.exch ∧ (setLineRun level s).pending = s.pending := by
  unfold setLineRun
  simp

@[simp] theorem interruptWeighings_frame (s : State) :
    (interruptWeighings s).pins = s.pins ∧ (interruptWeighings s).part = s.part ∧
    (interruptWeighings s).cal = s.cal ∧ (interruptWeighings s).track = s.track ∧
    (interruptWeighings s).reader = s.reader ∧ (interruptWeighings s).filler = s.filler ∧
    (interruptWeighings s).reject = s.reject ∧ (interruptWeighings s).valves = s.valves ∧
    (interruptWeighings s).dose = s.dose ∧ (interruptWeighings s).recipes = s.recipes ∧
    (interruptWeighings s).orders = s.orders ∧ (interruptWeighings s).exch = s.exch ∧
    (interruptWeighings s).pending = s.pending := by
  unfold interruptWeighings
  simp

@[simp] theorem takeSample_frame (x : Sample) (s : State) :
    (takeSample x s).pins = s.pins ∧ (takeSample x s).part = s.part ∧ (takeSample x s).cal = s.cal ∧
    (takeSample x s).track = s.track ∧ (takeSample x s).reader = s.reader ∧ (takeSample x s).filler = s.filler ∧
    (takeSample x s).reject = s.reject ∧ (takeSample x s).valves = s.valves ∧ (takeSample x s).dose = s.dose ∧
    (takeSample x s).recipes = s.recipes ∧ (takeSample x s).orders = s.orders ∧ (takeSample x s).exch = s.exch ∧
    (takeSample x s).pending = s.pending := by
  unfold takeSample
  simp

@[simp] theorem openPlatform_frame (s : State) :
    (openPlatform s).pins = s.pins ∧ (openPlatform s).part = s.part ∧ (openPlatform s).cal = s.cal ∧
    (openPlatform s).track = s.track ∧ (openPlatform s).reader = s.reader ∧ (openPlatform s).filler = s.filler ∧
    (openPlatform s).reject = s.reject ∧ (openPlatform s).valves = s.valves ∧ (openPlatform s).dose = s.dose ∧
    (openPlatform s).recipes = s.recipes ∧ (openPlatform s).orders = s.orders ∧ (openPlatform s).exch = s.exch ∧
    (openPlatform s).pending = s.pending := by
  unfold openPlatform
  (repeat' split) <;> simp

@[simp] theorem closeOldest_frame (rest : List Weighing) (s : State) :
    (closeOldest rest s).pins = s.pins ∧ (closeOldest rest s).part = s.part ∧ (closeOldest rest s).cal = s.cal ∧
    (closeOldest rest s).track = s.track ∧ (closeOldest rest s).reader = s.reader ∧
    (closeOldest rest s).filler = s.filler ∧ (closeOldest rest s).reject = s.reject ∧
    (closeOldest rest s).valves = s.valves ∧ (closeOldest rest s).dose = s.dose ∧
    (closeOldest rest s).recipes = s.recipes ∧ (closeOldest rest s).orders = s.orders ∧
    (closeOldest rest s).exch = s.exch ∧ (closeOldest rest s).pending = s.pending := by
  unfold closeOldest
  (repeat' split) <;> simp

@[simp] theorem jam_frame (loaded : Nat) (w : Weighing) (s : State) :
    (jam loaded w s).pins = s.pins ∧ (jam loaded w s).track = s.track ∧ (jam loaded w s).reader = s.reader ∧
    (jam loaded w s).filler = s.filler ∧ (jam loaded w s).reject = s.reject ∧ (jam loaded w s).valves = s.valves ∧
    (jam loaded w s).dose = s.dose ∧ (jam loaded w s).recipes = s.recipes ∧ (jam loaded w s).pending = s.pending := by
  unfold jam
  simp

@[simp] theorem takeRecord_frame (bytes : List Byte) (s : State) :
    (takeRecord bytes s).pins = s.pins ∧ (takeRecord bytes s).part = s.part ∧ (takeRecord bytes s).track = s.track ∧
    (takeRecord bytes s).reader = s.reader ∧ (takeRecord bytes s).filler = s.filler ∧
    (takeRecord bytes s).reject = s.reject ∧ (takeRecord bytes s).valves = s.valves ∧
    (takeRecord bytes s).dose = s.dose ∧ (takeRecord bytes s).recipes = s.recipes ∧
    (takeRecord bytes s).orders = s.orders ∧ (takeRecord bytes s).exch = s.exch ∧
    (takeRecord bytes s).pending = s.pending := by
  unfold takeRecord
  simp

@[simp] theorem startScan_frame (s : State) :
    (startScan s).pins = s.pins ∧ (startScan s).part = s.part ∧ (startScan s).weigh = s.weigh ∧
    (startScan s).cal = s.cal ∧ (startScan s).track = s.track ∧ (startScan s).reader = s.reader ∧
    (startScan s).filler = s.filler ∧ (startScan s).reject = s.reject ∧ (startScan s).valves = s.valves ∧
    (startScan s).dose = s.dose ∧ (startScan s).recipes = s.recipes ∧ (startScan s).exch = s.exch ∧
    (startScan s).pending = s.pending := by
  unfold startScan
  simp

@[simp] theorem settleDeadline_frame (e : Entry) (s : State) :
    (settleDeadline e s).pins = s.pins ∧ (settleDeadline e s).part = s.part ∧ (settleDeadline e s).weigh = s.weigh ∧
    (settleDeadline e s).cal = s.cal ∧ (settleDeadline e s).reader = s.reader ∧
    (settleDeadline e s).filler = s.filler ∧ (settleDeadline e s).reject = s.reject ∧
    (settleDeadline e s).valves = s.valves ∧ (settleDeadline e s).dose = s.dose ∧
    (settleDeadline e s).pending = s.pending := by
  unfold settleDeadline
  (repeat' split) <;> simp

@[simp] theorem frameEnded_frame (s : State) :
    (frameEnded s).pins = s.pins ∧ (frameEnded s).part = s.part ∧ (frameEnded s).weigh = s.weigh ∧
    (frameEnded s).cal = s.cal ∧ (frameEnded s).track = s.track ∧ (frameEnded s).reader = s.reader ∧
    (frameEnded s).reject = s.reject ∧ (frameEnded s).valves = s.valves ∧ (frameEnded s).dose = s.dose ∧
    (frameEnded s).recipes = s.recipes ∧ (frameEnded s).orders = s.orders ∧ (frameEnded s).exch = s.exch ∧
    (frameEnded s).pending = s.pending := by
  unfold frameEnded
  (repeat' split) <;> simp

@[simp] theorem linkDownEvent_frame (s : State) :
    (linkDownEvent s).pins = s.pins ∧ (linkDownEvent s).part = s.part ∧ (linkDownEvent s).weigh = s.weigh ∧
    (linkDownEvent s).cal = s.cal ∧ (linkDownEvent s).track = s.track ∧ (linkDownEvent s).reader = s.reader ∧
    (linkDownEvent s).filler = s.filler ∧ (linkDownEvent s).reject = s.reject ∧ (linkDownEvent s).valves = s.valves ∧
    (linkDownEvent s).dose = s.dose ∧ (linkDownEvent s).recipes = s.recipes ∧ (linkDownEvent s).orders = s.orders ∧
    (linkDownEvent s).pending = s.pending := by
  unfold linkDownEvent
  (repeat' split) <;> simp

@[simp] theorem ackTimedOut_frame (s : State) :
    (ackTimedOut s).pins = s.pins ∧ (ackTimedOut s).part = s.part ∧ (ackTimedOut s).weigh = s.weigh ∧
    (ackTimedOut s).cal = s.cal ∧ (ackTimedOut s).track = s.track ∧ (ackTimedOut s).reader = s.reader ∧
    (ackTimedOut s).filler = s.filler ∧ (ackTimedOut s).reject = s.reject ∧ (ackTimedOut s).valves = s.valves ∧
    (ackTimedOut s).recipes = s.recipes ∧ (ackTimedOut s).orders = s.orders ∧ (ackTimedOut s).pending = s.pending := by
  unfold ackTimedOut
  (repeat' split) <;> simp

@[simp] theorem takeAtEye_frame (e : Entry) (s : State) :
    (takeAtEye e s).pins = s.pins ∧ (takeAtEye e s).part = s.part ∧ (takeAtEye e s).weigh = s.weigh ∧
    (takeAtEye e s).cal = s.cal ∧ (takeAtEye e s).reader = s.reader ∧ (takeAtEye e s).filler = s.filler ∧
    (takeAtEye e s).orders = s.orders ∧ (takeAtEye e s).pending = s.pending := by
  unfold takeAtEye
  dsimp only
  (repeat' split) <;> simp

@[simp] theorem kickUnknown_frame (s : State) :
    (kickUnknown s).pins = s.pins ∧ (kickUnknown s).part = s.part ∧ (kickUnknown s).weigh = s.weigh ∧
    (kickUnknown s).cal = s.cal ∧ (kickUnknown s).track = s.track ∧ (kickUnknown s).reader = s.reader ∧
    (kickUnknown s).filler = s.filler ∧ (kickUnknown s).valves = s.valves ∧ (kickUnknown s).dose = s.dose ∧
    (kickUnknown s).recipes = s.recipes ∧ (kickUnknown s).orders = s.orders ∧ (kickUnknown s).pending = s.pending := by
  unfold kickUnknown
  simp

@[simp] theorem rejectFailed_frame (e : Entry) (s : State) :
    (rejectFailed e s).pins = s.pins ∧ (rejectFailed e s).reader = s.reader ∧ (rejectFailed e s).filler = s.filler ∧
    (rejectFailed e s).reject = s.reject ∧ (rejectFailed e s).valves = s.valves ∧ (rejectFailed e s).dose = s.dose ∧
    (rejectFailed e s).pending = s.pending := by
  unfold rejectFailed
  simp

@[simp] theorem minuteStep_frame (s : State) :
    (minuteStep s).pins = s.pins ∧ (minuteStep s).part = s.part ∧ (minuteStep s).weigh = s.weigh ∧
    (minuteStep s).cal = s.cal ∧ (minuteStep s).track = s.track ∧ (minuteStep s).reader = s.reader ∧
    (minuteStep s).filler = s.filler ∧ (minuteStep s).reject = s.reject ∧ (minuteStep s).valves = s.valves ∧
    (minuteStep s).dose = s.dose ∧ (minuteStep s).orders = s.orders ∧ (minuteStep s).pending = s.pending := by
  unfold minuteStep
  (repeat' split) <;> simp

@[simp] theorem noteSwitch_frame (switchOn : Bool) (s : State) :
    (noteSwitch switchOn s).part = s.part ∧ (noteSwitch switchOn s).weigh = s.weigh ∧
    (noteSwitch switchOn s).cal = s.cal ∧ (noteSwitch switchOn s).track = s.track ∧
    (noteSwitch switchOn s).reader = s.reader ∧ (noteSwitch switchOn s).filler = s.filler ∧
    (noteSwitch switchOn s).reject = s.reject ∧ (noteSwitch switchOn s).valves = s.valves ∧
    (noteSwitch switchOn s).dose = s.dose ∧ (noteSwitch switchOn s).recipes = s.recipes ∧
    (noteSwitch switchOn s).orders = s.orders ∧ (noteSwitch switchOn s).exch = s.exch ∧
    (noteSwitch switchOn s).pending = s.pending := by
  unfold noteSwitch
  simp

@[simp] theorem scanNow_frame (s : State) :
    (scanNow s).pins = s.pins ∧ (scanNow s).reader = s.reader ∧ (scanNow s).filler = s.filler ∧
    (scanNow s).reject = s.reject ∧ (scanNow s).pending = s.pending := by
  unfold scanNow
  simp

end Sys2Proof.Machine
end

