-- ==== Sys2Proof/Laws/Memory.lean ====
section
/-! SUPPORT. The laws of the exchange memory: what a read gives after a write, and that every write keeps the canonical form. -/

namespace Sys2Proof.Machine

@[simp] theorem memRead_nil (a : Nat) : memRead [] a = 0 := rfl

theorem memRead_cons (b : Nat) (w : Word) (t : Mem) (a : Nat) :
    memRead ((b, w) :: t) a = if a = b then w else memRead t a := rfl

/-- A memory that lists no entry at an address reads 0 there. -/
theorem memRead_of_unlisted {m : Mem} {a : Nat} (h : ∀ c ∈ m, c.1 ≠ a) : memRead m a = 0 := by
  induction m with
  | nil => rfl
  | cons c t ih =>
    have h1 : a ≠ c.1 := fun e => h c (by simp) e.symm
    rw [show c = (c.1, c.2) from rfl, memRead_cons, if_neg h1]
    exact ih fun d hd => h d (by simp [hd])

/-- A read of two lists of cells, the first of which does not list the address, is a read of the second. -/
theorem memRead_append_of_unlisted {l r : Mem} {a : Nat} (h : ∀ c ∈ l, c.1 ≠ a) : memRead (l ++ r) a = memRead r a := by
  induction l with
  | nil => rfl
  | cons c t ih =>
    have h1 : a ≠ c.1 := fun e => h c (by simp) e.symm
    rw [List.cons_append, show c = (c.1, c.2) from rfl, memRead_cons, if_neg h1]
    exact ih fun d hd => h d (by simp [hd])

/-- A read of two lists of cells, the second of which does not list the address, is a read of the first. -/
theorem memRead_append_of_unlisted_right {l r : Mem} {a : Nat} (h : ∀ c ∈ r, c.1 ≠ a) :
    memRead (l ++ r) a = memRead l a := by
  induction l with
  | nil => simpa using memRead_of_unlisted h
  | cons c t ih =>
    rw [List.cons_append, show c = (c.1, c.2) from rfl, memRead_cons, memRead_cons, ih]

/-- A read at an address that a filter keeps is a read of the whole. -/
theorem memRead_filter {p : Nat → Bool} (m : Mem) {a : Nat} (h : p a = true) :
    memRead (m.filter (fun c => p c.1)) a = memRead m a := by
  induction m with
  | nil => rfl
  | cons c t ih =>
    by_cases hc : p c.1 = true
    · rw [List.filter_cons, if_pos hc, show c = (c.1, c.2) from rfl, memRead_cons, memRead_cons, ih]
    · have h1 : a ≠ c.1 := fun e => hc (e ▸ h)
      rw [List.filter_cons, if_neg hc, ih, show c = (c.1, c.2) from rfl, memRead_cons, if_neg h1]

/-- The cells of consecutive words lie at their addresses. -/
theorem memCells_bounds {b : Nat} {ws : List Word} : ∀ c ∈ memCells b ws, b ≤ c.1 ∧ c.1 < b + ws.length := by
  induction ws generalizing b with
  | nil => simp [memCells]
  | cons w t ih =>
    intro c hc
    rw [memCells] at hc
    split at hc
    · have := ih c hc; simp only [List.length_cons]; omega
    · rcases List.mem_cons.mp hc with rfl | hc
      · simp
      · have := ih c hc; simp only [List.length_cons]; omega

/-- A read of consecutive words. -/
theorem memRead_memCells (b : Nat) (ws : List Word) (a : Nat) :
    memRead (memCells b ws) a = if b ≤ a ∧ a < b + ws.length then ws.getD (a - b) 0 else 0 := by
  induction ws generalizing b with
  | nil =>
    rw [if_neg (by simp only [List.length_nil]; omega)]; rfl
  | cons w t ih =>
    have step : memRead (memCells b (w :: t)) a = if a = b then w else memRead (memCells (b + 1) t) a := by
      rw [memCells]
      split
      · next hw =>
        split
        · next hab =>
          rw [hw]
          exact memRead_of_unlisted fun c hc e => by have := (memCells_bounds c hc).1; omega
        · rfl
      · exact memRead_cons ..
    rw [step, ih, List.length_cons]
    split
    · next hab => subst hab; simp
    · next hab =>
      by_cases h : b + 1 ≤ a ∧ a < b + 1 + t.length
      · rw [if_pos h, if_pos (by omega), show a - b = (a - (b + 1)) + 1 by omega, List.getD_cons_succ]
      · rw [if_neg h, if_neg (by omega)]

/-- What a read gives after a write: the word written, where one was, and otherwise what it gave before. -/
theorem memRead_memWrite (m : Mem) (base : Nat) (ws : List Word) (a : Nat) :
    memRead (memWrite m base ws) a =
      if base ≤ a ∧ a < base + ws.length then ws.getD (a - base) 0 else memRead m a := by
  have lo : ∀ c ∈ m.filter (fun c => decide (c.1 < base)), c.1 < base := fun c hc => by
    simpa using (List.mem_filter.mp hc).2
  have hi : ∀ c ∈ m.filter (fun c => decide (base + ws.length ≤ c.1)), base + ws.length ≤ c.1 := fun c hc => by
    simpa using (List.mem_filter.mp hc).2
  unfold memWrite
  split
  · next h =>
    rw [memRead_append_of_unlisted_right fun c hc e => by have := hi c hc; omega,
      memRead_append_of_unlisted fun c hc e => by have := lo c hc; omega, memRead_memCells, if_pos h]
  · next h =>
    by_cases hb : a < base
    · rw [memRead_append_of_unlisted_right fun c hc e => by have := hi c hc; omega,
        memRead_append_of_unlisted_right fun c hc e => by have := (memCells_bounds c hc).1; omega]
      exact memRead_filter (p := fun x => decide (x < base)) m (by simpa using hb)
    · have ha : base + ws.length ≤ a := by omega
      rw [List.append_assoc, memRead_append_of_unlisted fun c hc e => by have := lo c hc; omega,
        memRead_append_of_unlisted fun c hc e => by have := (memCells_bounds c hc).2; omega]
      exact memRead_filter (p := fun x => decide (base + ws.length ≤ x)) m (by simpa using ha)

theorem memWfFrom_cons {a b : Nat} {w : Word} {t : Mem} :
    memWfFrom a ((b, w) :: t) = true ↔ a ≤ b ∧ b < 0x4000 ∧ w ≠ 0 ∧ memWfFrom (b + 1) t = true := by
  simp only [memWfFrom, Bool.and_eq_true, decide_eq_true_eq, and_assoc]

/-- A canonical form from an address on is one from every lower address on. -/
theorem memWfFrom_mono {a b : Nat} {m : Mem} (hab : a ≤ b) (h : memWfFrom b m = true) : memWfFrom a m = true := by
  cases m with
  | nil => rfl
  | cons c t =>
    obtain ⟨x, w⟩ := c
    rw [memWfFrom_cons] at h ⊢
    exact ⟨by omega, h.2⟩

/-- A filter keeps the canonical form. -/
theorem memWfFrom_filter {p : Nat × Word → Bool} {a : Nat} {m : Mem} (h : memWfFrom a m = true) :
    memWfFrom a (m.filter p) = true := by
  induction m generalizing a with
  | nil => rfl
  | cons c t ih =>
    obtain ⟨x, w⟩ := c
    rw [memWfFrom_cons] at h
    by_cases hp : p (x, w) = true
    · rw [List.filter_cons_of_pos hp, memWfFrom_cons]
      exact ⟨h.1, h.2.1, h.2.2.1, ih h.2.2.2⟩
    · rw [List.filter_cons_of_neg hp]
      exact memWfFrom_mono (by omega) (ih h.2.2.2)

/-- A canonical form all of whose addresses lie at or above a bound is one from that bound on. -/
theorem memWfFrom_raise {a b : Nat} {m : Mem} (h : memWfFrom a m = true) (hb : ∀ c ∈ m, b ≤ c.1) :
    memWfFrom b m = true := by
  cases m with
  | nil => rfl
  | cons c t =>
    obtain ⟨x, w⟩ := c
    rw [memWfFrom_cons] at h ⊢
    exact ⟨hb (x, w) (by simp), h.2⟩

/-- Two canonical forms, the second from a bound on that the first stays below, make one. -/
theorem memWfFrom_append {a b : Nat} {l r : Mem} (hab : a ≤ b) (hl : memWfFrom a l = true) (hlt : ∀ c ∈ l, c.1 < b)
    (hr : memWfFrom b r = true) : memWfFrom a (l ++ r) = true := by
  induction l generalizing a with
  | nil => exact memWfFrom_mono hab hr
  | cons c t ih =>
    obtain ⟨x, w⟩ := c
    rw [memWfFrom_cons] at hl
    rw [List.cons_append, memWfFrom_cons]
    have hx := hlt (x, w) (by simp)
    exact ⟨hl.1, hl.2.1, hl.2.2.1, ih hx hl.2.2.2 fun d hd => hlt d (by simp [hd])⟩

/-- Consecutive words below the end of the memory give a canonical form. -/
theorem memCells_wf {b : Nat} {ws : List Word} (h : b + ws.length ≤ 0x4000) : memWfFrom b (memCells b ws) = true := by
  induction ws generalizing b with
  | nil => rfl
  | cons w t ih =>
    rw [List.length_cons] at h
    have ht := ih (b := b + 1) (by omega)
    rw [memCells]
    split
    · exact memWfFrom_mono (by omega) ht
    · next hw => rw [memWfFrom_cons]; exact ⟨le_refl _, by omega, hw, ht⟩

/-- A write inside the memory keeps the canonical form. -/
theorem memWrite_wf {m : Mem} {base : Nat} {ws : List Word} (hm : Mem.wf m = true) (h : base + ws.length ≤ 0x4000) :
    Mem.wf (memWrite m base ws) = true := by
  unfold Mem.wf memWrite at *
  refine memWfFrom_append (b := base + ws.length) (by omega) ?_ ?_ ?_
  · refine memWfFrom_append (b := base) (by omega) (memWfFrom_filter hm) (fun c hc => ?_) (memCells_wf h)
    simpa using (List.mem_filter.mp hc).2
  · intro c hc
    rcases List.mem_append.mp hc with hc | hc
    · have : c.1 < base := by simpa using (List.mem_filter.mp hc).2
      omega
    · exact (memCells_bounds c hc).2
  · refine memWfFrom_raise (memWfFrom_filter hm) fun c hc => ?_
    simpa using (List.mem_filter.mp hc).2

/-- The cleared memory is in canonical form (R169). -/
theorem cleared_wf : Mem.wf [] = true := rfl

/-- The memory after full reset is in canonical form. -/
theorem reset_mem_wf : Mem.wf State.reset.exch.mem = true := rfl

/-- A read after the unit's write. -/
theorem Exchange.read_write (e : Exchange) (base : Nat) (ws : List Word) (a : Nat) :
    (e.write base ws).read a = if base ≤ a ∧ a < base + ws.length then ws.getD (a - base) 0 else e.read a :=
  memRead_memWrite ..

end Sys2Proof.Machine
end

