-- ==== Sys2Proof/Laws/Exchange.lean ====
section
/-! SUPPORT. What the operations can do to the Exchange Memory Unit: every one of them writes words inside the memory, sets the
notices with ATTN, or moves counters. So a property closed under these three holds after every operation. -/

namespace Sys2Proof.Machine

/-- A property of the unit that the three primitive updates keep: a write inside the memory, the notices set with ATTN as they
give, and a change of the counters, timers and the time tag. -/
structure Exchange.Closed (P : Exchange → Prop) : Prop where
  write : ∀ (e : Exchange) (base : Nat) (ws : List Word), base + ws.length ≤ 0x4000 → P e → P (e.write base ws)
  notices : ∀ (e : Exchange) (notice mask : BitVec 5), P e → P (e.setNotices notice mask)
  counters : ∀ (e : Exchange) (ev : Fin 64) (dc : Word) (ho : Option Nat) (su : Word) (li : Fin 1024) (wc tt : Word), P e →
    P { e with evWrite := ev, dropCount := dc, holdoff := ho, suppressed := su, logIndex := li, wrapCount := wc, timeTag := tt }

/-- The canonical form of the memory is kept. -/
theorem Exchange.closed_wf : Exchange.Closed (fun e => Mem.wf e.mem = true) where
  write _ _ _ h hp := memWrite_wf hp h
  notices _ _ _ hp := hp
  counters _ _ _ _ _ _ _ _ hp := hp

/-- ATTN as NOTICE and NOTICE_MASK give is kept (R195). -/
theorem Exchange.closed_attn : Exchange.Closed (fun e => e.attn = decide (e.notice &&& e.mask ≠ 0)) where
  write _ _ _ _ hp := hp
  notices _ _ _ _ := rfl
  counters _ _ _ _ _ _ _ _ hp := hp

theorem Exchange.raiseNotice_closed {P : Exchange → Prop} (h : Exchange.Closed P) (n : Notice) {e : Exchange} (hs : P e) :
    P (e.raiseNotice n) := h.notices _ _ _ hs

theorem Exchange.event_closed {P : Exchange → Prop} (h : Exchange.Closed P) (k : EventKind) (arg0 : Nat) (arg1 arg2 : Word)
    {e : Exchange} (hs : P e) : P (e.event k arg0 arg1 arg2) := by
  unfold Exchange.event
  split
  · exact h.counters _ _ _ _ _ _ _ _ (h.write _ _ _ (by simp [overflowAddr]) hs)
  · refine h.notices _ _ _ (h.counters _ _ _ _ _ _ _ _ (h.write _ _ _ ?_ hs))
    have := e.evWrite.isLt
    simp only [List.length_cons, List.length_nil]; omega

theorem logWords_length (e : Entry) (d : Disposition) : (logWords e d).length = 8 := rfl

theorem closedLotWords_length (l : Lot) (t : Word) (c : LotCause) (n : Nat) : (closedLotWords l t c n).length = 32 := by
  simp [closedLotWords, lotHeadWords, textWords, reasonWords]

theorem Exchange.logRecord_closed {P : Exchange → Prop} (h : Exchange.Closed P) {ws : List Word} (hw : ws.length = 8)
    {e : Exchange} (hs : P e) : P (e.logRecord ws) := by
  have hi := e.logIndex.isLt
  have key := h.counters (e.write (0x1000 + 8 * e.logIndex.val) ws) e.evWrite e.dropCount e.holdoff e.suppressed
    (e.logIndex + 1) (if (e.logIndex + 1).val = 0 then e.wrapCount + 1 else e.wrapCount) e.timeTag
    (h.write _ _ _ (by omega) hs)
  unfold Exchange.logRecord
  dsimp only
  split
  · exact h.notices _ _ _ key
  · exact key

theorem slotBase_bound (slot : Slot) : slotBase slot + 16 ≤ 0xC0 := by
  have := slot.isLt
  unfold slotBase; omega

theorem Exchange.finishSlot_closed {P : Exchange → Prop} (h : Exchange.Closed P) (slot : Slot) (o : Outcome) (d : Word)
    {e : Exchange} (hs : P e) : P (e.finishSlot slot o d) := by
  have := slotBase_bound slot
  refine h.notices _ _ _ (h.write _ _ _ ?_ (h.write _ _ _ ?_ hs)) <;> simp only [List.length_cons, List.length_nil] <;> omega

theorem lotCloseEvents_closed {P : Exchange → Prop} (h : Exchange.Closed P) (l : Lot) (n : Nat) (c : LotCause)
    {e : Exchange} (hs : P e) : P (lotCloseEvents l n c e) := by
  unfold lotCloseEvents
  dsimp only
  repeat' split
  all_goals repeat (first | assumption | apply Exchange.event_closed h)

theorem raiseNotice_exch {P : Exchange → Prop} (h : Exchange.Closed P) (n : Notice) (s : State) (hs : P s.exch) :
    P (raiseNotice n s).exch := h.notices _ _ _ hs

theorem raiseEvent_exch {P : Exchange → Prop} (h : Exchange.Closed P) (k : EventKind) (arg0 : Nat) (arg1 arg2 : Word)
    (s : State) (hs : P s.exch) : P (raiseEvent k arg0 arg1 arg2 s).exch := Exchange.event_closed h k arg0 arg1 arg2 hs

theorem raiseLineEvent_exch {P : Exchange → Prop} (h : Exchange.Closed P) (k : EventKind) (arg0 : Nat) (arg1 arg2 : Word)
    (s : State) (hs : P s.exch) : P (raiseLineEvent k arg0 arg1 arg2 s).exch := by
  unfold raiseLineEvent
  dsimp only
  split
  · exact Exchange.event_closed h k arg0 arg1 arg2 hs
  · exact hs

theorem finishOrder_exch {P : Exchange → Prop} (h : Exchange.Closed P) (slot : Slot) (o : Outcome) (detail : Word)
    (s : State) (hs : P s.exch) : P (finishOrder slot o detail s).exch := Exchange.finishSlot_closed h slot o detail hs

theorem holdOrder_exch {P : Exchange → Prop} (h : Exchange.Closed P) (slot : Slot) (owner : Owner) (s : State)
    (hs : P s.exch) : P (holdOrder slot owner s).exch := by
  have := slotBase_bound slot
  exact h.write _ _ _ (by simp only [List.length_cons, List.length_nil]; omega) hs

theorem changePart_exch {P : Exchange → Prop} (h : Exchange.Closed P) (new : PartState) (why : ChangeReason) (s : State) (hs : P s.exch) :
    P (changePart new why s).exch := by
  unfold changePart
  repeat
    (first
    | with_reducible assumption
    | with_reducible apply raiseEvent_exch h
    | simp only [refreshZero_frame])

theorem endZeroSet_exch {P : Exchange → Prop} (h : Exchange.Closed P) (o : Outcome) (detail : Word) (s : State) (hs : P s.exch) :
    P (endZeroSet o detail s).exch := by
  unfold endZeroSet
  repeat' split
  all_goals repeat
    (first
    | with_reducible assumption
    | with_reducible apply finishOrder_exch h
    | simp only [refreshZero_frame])

theorem finishHeldCal_exch {P : Exchange → Prop} (h : Exchange.Closed P) (o : Outcome) (detail : Word) (s : State) (hs : P s.exch) :
    P (finishHeldCal o detail s).exch := by
  unfold finishHeldCal
  repeat' split
  all_goals repeat
    (first
    | with_reducible assumption
    | with_reducible apply finishOrder_exch h)

theorem endCalAveraging_exch {P : Exchange → Prop} (h : Exchange.Closed P) (o : Outcome) (detail : Word) (s : State) (hs : P s.exch) :
    P (endCalAveraging o detail s).exch := by
  unfold endCalAveraging
  repeat' split
  all_goals repeat
    (first
    | with_reducible assumption
    | with_reducible apply finishHeldCal_exch h
    | simp only [refreshZero_frame])

theorem abortStoreOrder_exch {P : Exchange → Prop} (h : Exchange.Closed P) (s : State) (hs : P s.exch) :
    P (abortStoreOrder s).exch := by
  unfold abortStoreOrder
  repeat' split
  all_goals repeat
    (first
    | with_reducible assumption
    | with_reducible apply finishHeldCal_exch h)

theorem enterFaultStop_exch {P : Exchange → Prop} (h : Exchange.Closed P) (c : Cause) (s : State) (hs : P s.exch) :
    P (enterFaultStop c s).exch := by
  unfold enterFaultStop
  repeat
    (first
    | with_reducible assumption
    | with_reducible apply raiseNotice_exch h
    | with_reducible apply changePart_exch h
    | with_reducible apply endZeroSet_exch h
    | with_reducible apply endCalAveraging_exch h
    | with_reducible apply abortStoreOrder_exch h)

theorem handCause_exch {P : Exchange → Prop} (h : Exchange.Closed P) (c : Cause) (s : State) (hs : P s.exch) :
    P (handCause c s).exch := by
  unfold handCause
  repeat' split
  all_goals repeat
    (first
    | with_reducible assumption
    | with_reducible apply enterFaultStop_exch h)

theorem silentCheck_exch {P : Exchange → Prop} (h : Exchange.Closed P) (s : State) (hs : P s.exch) :
    P (silentCheck s).exch := by
  unfold silentCheck
  repeat' split
  all_goals repeat (first | with_reducible assumption | with_reducible apply handCause_exch h)

theorem readinessTest_exch {P : Exchange → Prop} (h : Exchange.Closed P) (s : State) (hs : P s.exch) :
    P (readinessTest s).exch := by
  unfold readinessTest
  dsimp only
  repeat' split
  all_goals repeat
    (first
    | with_reducible assumption
    | with_reducible apply changePart_exch h
    | with_reducible apply endCalAveraging_exch h
    | with_reducible apply silentCheck_exch h)

theorem openLot_exch {P : Exchange → Prop} (h : Exchange.Closed P) (s : State) (hs : P s.exch) : P (openLot s).exch :=
  h.write _ _ _ (by simp [lotMinutesAddr]) hs

theorem fileLot_exch {P : Exchange → Prop} (h : Exchange.Closed P) (l : Lot) (r : Recipe) (c : LotCause) (s : State)
    (hs : P s.exch) : P (fileLot l r c s).exch := by
  have := s.recipes.closedPos.isLt
  refine Exchange.raiseNotice_closed h _ (lotCloseEvents_closed h _ _ _ (h.write _ _ _ ?_ hs))
  rw [closedLotWords_length]; omega

theorem closeActiveLot_exch {P : Exchange → Prop} (h : Exchange.Closed P) (c : LotCause) (s : State) (hs : P s.exch) :
    P (closeActiveLot c s).exch := by
  unfold closeActiveLot
  repeat' split
  all_goals repeat
    (first
    | with_reducible assumption
    | with_reducible apply fileLot_exch h
    | simp only [setLot_frame])

theorem closeRetiringLot_exch {P : Exchange → Prop} (h : Exchange.Closed P) (c : LotCause) (s : State) (hs : P s.exch) :
    P (closeRetiringLot c s).exch := by
  unfold closeRetiringLot
  repeat' split
  all_goals repeat
    (first
    | with_reducible assumption
    | with_reducible apply fileLot_exch h
    | simp only [setLot_frame])

theorem reopenActiveLot_exch {P : Exchange → Prop} (h : Exchange.Closed P) (c : LotCause) (s : State) (hs : P s.exch) :
    P (reopenActiveLot c s).exch := by
  unfold reopenActiveLot
  repeat
    (first
    | with_reducible assumption
    | with_reducible apply openLot_exch h
    | with_reducible apply closeActiveLot_exch h)

theorem finishHeldChangeover_exch {P : Exchange → Prop} (h : Exchange.Closed P) (o : Outcome) (detail : Word) (s : State) (hs : P s.exch) :
    P (finishHeldChangeover o detail s).exch := by
  unfold finishHeldChangeover
  repeat' split
  all_goals repeat
    (first
    | with_reducible assumption
    | with_reducible apply finishOrder_exch h)

theorem endDrain_exch {P : Exchange → Prop} (h : Exchange.Closed P) (c : LotCause) (how : Nat) (s : State) (hs : P s.exch) :
    P (endDrain c how s).exch := by
  unfold endDrain
  repeat
    (first
    | with_reducible assumption
    | with_reducible apply raiseEvent_exch h
    | with_reducible apply closeRetiringLot_exch h
    | with_reducible apply finishHeldChangeover_exch h)

theorem drainCheck_exch {P : Exchange → Prop} (h : Exchange.Closed P) (s : State) (hs : P s.exch) :
    P (drainCheck s).exch := by
  unfold drainCheck
  repeat' split
  all_goals repeat (first | with_reducible assumption | with_reducible apply endDrain_exch h)

theorem removeEntry_exch {P : Exchange → Prop} (h : Exchange.Closed P) (e : Entry) (d : Disposition) (s : State)
    (hs : P s.exch) : P (removeEntry e d s).exch := Exchange.logRecord_closed h (logWords_length e d) hs

theorem removeWithDrain_exch {P : Exchange → Prop} (h : Exchange.Closed P) (e : Entry) (d : Disposition) (s : State) (hs : P s.exch) :
    P (removeWithDrain e d s).exch := by
  unfold removeWithDrain
  repeat
    (first
    | with_reducible assumption
    | with_reducible apply drainCheck_exch h
    | with_reducible apply removeEntry_exch h)

theorem flushEntries_exch {P : Exchange → Prop} (h : Exchange.Closed P) (s : State) (hs : P s.exch) :
    P (flushEntries s).exch := by
  unfold flushEntries
  generalize s.track.entries = l
  induction l generalizing s with
  | nil => exact hs
  | cons e l ih => exact ih _ (removeEntry_exch h _ _ _ hs)

theorem makeRoom_exch {P : Exchange → Prop} (h : Exchange.Closed P) (s : State) (hs : P s.exch) :
    P (makeRoom s).exch := by
  unfold makeRoom
  repeat' split
  all_goals repeat
    (first
    | with_reducible assumption
    | with_reducible apply raiseEvent_exch h
    | with_reducible apply removeWithDrain_exch h)

theorem applyCorrection_exch {P : Exchange → Prop} (h : Exchange.Closed P) (v : Nat) (s : State) (hs : P s.exch) :
    P (applyCorrection v s).exch := by
  unfold applyCorrection
  dsimp only
  repeat' split
  all_goals repeat
    (first
    | with_reducible assumption
    | with_reducible apply raiseEvent_exch h
    | simp only [waitAfterWrite_frame])

theorem averageCan_exch {P : Exchange → Prop} (h : Exchange.Closed P) (v : Nat) (net : Int) (s : State) (hs : P s.exch) :
    P (averageCan v net s).exch := by
  unfold averageCan
  dsimp only
  repeat' split
  all_goals repeat
    (first
    | with_reducible assumption
    | with_reducible apply applyCorrection_exch h
    | simp only [setValve_frame])

theorem takeQualifying_exch {P : Exchange → Prop} (h : Exchange.Closed P) (v : Nat) (gen : Gen) (net : Int) (s : State) (hs : P s.exch) :
    P (takeQualifying v gen net s).exch := by
  unfold takeQualifying
  dsimp only
  repeat' split
  all_goals repeat
    (first
    | with_reducible assumption
    | with_reducible apply averageCan_exch h
    | simp only [setValve_frame])

theorem hardLowCan_exch {P : Exchange → Prop} (h : Exchange.Closed P) (v : Nat) (e : Entry) (net : Int) (s : State) (hs : P s.exch) :
    P (hardLowCan v e net s).exch := by
  unfold hardLowCan
  dsimp only
  repeat' split
  all_goals repeat
    (first
    | with_reducible assumption
    | with_reducible apply raiseEvent_exch h
    | simp only [setValve_frame])

theorem offerCan_exch {P : Exchange → Prop} (h : Exchange.Closed P) (e : Entry) (s : State) (hs : P s.exch) :
    P (offerCan e s).exch := by
  unfold offerCan
  dsimp only
  repeat' split
  all_goals repeat
    (first
    | with_reducible assumption
    | with_reducible apply takeQualifying_exch h
    | with_reducible apply hardLowCan_exch h
    | simp only [setValve_frame, countCan_frame])

theorem lotLimitCheck_exch {P : Exchange → Prop} (h : Exchange.Closed P) (ref : RecipeRef) (d : Decision) (s : State) (hs : P s.exch) :
    P (lotLimitCheck ref d s).exch := by
  unfold lotLimitCheck
  repeat' split
  all_goals repeat
    (first
    | with_reducible assumption
    | with_reducible apply reopenActiveLot_exch h)

theorem decideEntry_exch {P : Exchange → Prop} (h : Exchange.Closed P) (extra : BitVec 10) (e : Entry) (s : State) (hs : P s.exch) :
    P (decideEntry extra e s).exch := by
  unfold decideEntry
  repeat
    (first
    | with_reducible assumption
    | with_reducible apply offerCan_exch h
    | with_reducible apply lotLimitCheck_exch h
    | simp only [setLot_frame, setEntry_frame])

theorem decideIfDue_exch {P : Exchange → Prop} (h : Exchange.Closed P) (e : Entry) (s : State) (hs : P s.exch) :
    P (decideIfDue e s).exch := by
  unfold decideIfDue
  repeat' split
  all_goals repeat
    (first
    | with_reducible assumption
    | with_reducible apply decideEntry_exch h)

theorem settleAtEye_exch {P : Exchange → Prop} (h : Exchange.Closed P) (e : Entry) (s : State) (hs : P s.exch) :
    P (settleAtEye e s).exch := by
  unfold settleAtEye
  repeat' split
  all_goals repeat
    (first
    | with_reducible assumption
    | with_reducible apply decideEntry_exch h
    | simp only [forceEntry_frame])

theorem zeroStep_exch {P : Exchange → Prop} (h : Exchange.Closed P) (cand : Int) (s : State) (hs : P s.exch) :
    P (zeroStep cand s).exch := by
  unfold zeroStep
  dsimp only
  repeat' split
  all_goals repeat
    (first
    | with_reducible assumption
    | with_reducible apply raiseEvent_exch h)

theorem zeroRefuse_exch {P : Exchange → Prop} (h : Exchange.Closed P) (cand : Int) (s : State) (hs : P s.exch) :
    P (zeroRefuse cand s).exch := by
  unfold zeroRefuse
  dsimp only
  repeat' split
  all_goals repeat
    (first
    | with_reducible assumption
    | with_reducible apply raiseEvent_exch h)

theorem takeCandidate_exch {P : Exchange → Prop} (h : Exchange.Closed P) (cand : Int) (s : State) (hs : P s.exch) :
    P (takeCandidate cand s).exch := by
  unfold takeCandidate
  repeat' split
  all_goals repeat
    (first
    | with_reducible assumption
    | with_reducible apply zeroStep_exch h
    | with_reducible apply zeroRefuse_exch h)

theorem zeroTrackSample_exch {P : Exchange → Prop} (h : Exchange.Closed P) (x : Sample) (s : State) (hs : P s.exch) :
    P (zeroTrackSample x s).exch := by
  unfold zeroTrackSample
  dsimp only
  repeat' split
  all_goals repeat
    (first
    | with_reducible assumption
    | with_reducible apply takeCandidate_exch h)

theorem finishZeroSet_exch {P : Exchange → Prop} (h : Exchange.Closed P) (slot : Slot) (o : Outcome) (detail : Int) (s : State) (hs : P s.exch) :
    P (finishZeroSet slot o detail s).exch := by
  unfold finishZeroSet
  repeat
    (first
    | with_reducible assumption
    | with_reducible apply finishOrder_exch h
    | simp only [refreshZero_frame])

theorem completeZeroSet_exch {P : Exchange → Prop} (h : Exchange.Closed P) (z : ZeroSet) (s : State) (hs : P s.exch) :
    P (completeZeroSet z s).exch := by
  unfold completeZeroSet
  dsimp only
  repeat' split
  all_goals repeat
    (first
    | with_reducible assumption
    | with_reducible apply finishZeroSet_exch h)

theorem zeroSetSample_exch {P : Exchange → Prop} (h : Exchange.Closed P) (x : Sample) (s : State) (hs : P s.exch) :
    P (zeroSetSample x s).exch := by
  unfold zeroSetSample
  dsimp only
  repeat' split
  all_goals repeat
    (first
    | with_reducible assumption
    | with_reducible apply completeZeroSet_exch h)

theorem beginStoreWrite_exch {P : Exchange → Prop} (h : Exchange.Closed P) (kind : CalKind) (s : State) (hs : P s.exch) :
    P (beginStoreWrite kind s).exch := by
  unfold beginStoreWrite
  repeat (first | with_reducible assumption | with_reducible apply raiseEvent_exch h)

theorem storeSaved_exch {P : Exchange → Prop} (h : Exchange.Closed P) (s : State) (hs : P s.exch) :
    P (storeSaved s).exch := by
  unfold storeSaved
  repeat (first | with_reducible assumption | with_reducible apply finishHeldCal_exch h)

theorem storeFailed_exch {P : Exchange → Prop} (h : Exchange.Closed P) (how : Nat) (s : State) (hs : P s.exch) :
    P (storeFailed how s).exch := by
  unfold storeFailed
  repeat
    (first
    | with_reducible assumption
    | with_reducible apply raiseEvent_exch h
    | with_reducible apply finishHeldCal_exch h)

theorem setCalState_exch {P : Exchange → Prop} (h : Exchange.Closed P) (c : CalState) (s : State) (hs : P s.exch) :
    P (setCalState c s).exch := by
  unfold setCalState
  repeat
    (first
    | with_reducible assumption
    | with_reducible apply readinessTest_exch h
    | simp only [refreshZero_frame])

theorem setCalZero_exch {P : Exchange → Prop} (h : Exchange.Closed P) (mean : Int) (limit : Nat) (s : State) (hs : P s.exch) :
    P (setCalZero mean limit s).exch := by
  unfold setCalZero
  dsimp only
  repeat' split
  all_goals repeat
    (first
    | with_reducible assumption
    | with_reducible apply setCalState_exch h)

theorem setCalSpan_exch {P : Exchange → Prop} (h : Exchange.Closed P) (f : Nat) (s : State) (hs : P s.exch) :
    P (setCalSpan f s).exch := by
  unfold setCalSpan
  dsimp only
  repeat' split
  all_goals repeat
    (first
    | with_reducible assumption
    | with_reducible apply setCalState_exch h)

theorem completeCal_exch {P : Exchange → Prop} (h : Exchange.Closed P) (c : CalAveraging) (s0 : State) (hs : P s0.exch) :
    P (completeCal c s0).exch := by
  unfold completeCal
  dsimp only
  repeat' split
  all_goals repeat
    (first
    | with_reducible assumption
    | with_reducible apply finishHeldCal_exch h
    | with_reducible apply beginStoreWrite_exch h
    | with_reducible apply setCalZero_exch h
    | with_reducible apply setCalSpan_exch h
    | simp only [refreshZero_frame])

theorem calSample_exch {P : Exchange → Prop} (h : Exchange.Closed P) (x : Sample) (s : State) (hs : P s.exch) :
    P (calSample x s).exch := by
  unfold calSample
  dsimp only
  repeat' split
  all_goals repeat
    (first
    | with_reducible assumption
    | with_reducible apply completeCal_exch h)

theorem bindByPosition_exch {P : Exchange → Prop} (h : Exchange.Closed P) (s : State) (hs : P s.exch) :
    P (bindByPosition s).1.exch := by
  unfold bindByPosition
  dsimp only
  repeat' split
  all_goals repeat
    (first
    | with_reducible assumption
    | with_reducible apply raiseEvent_exch h
    | with_reducible apply makeRoom_exch h
    | simp only [setEntry_frame, createAtReader_frame])

theorem lostEvent_exch {P : Exchange → Prop} (h : Exchange.Closed P) (lost : List Entry) (found : Entry) (s : State) (hs : P s.exch) :
    P (lostEvent lost found s).exch := by
  unfold lostEvent
  repeat' split
  all_goals repeat
    (first
    | with_reducible assumption
    | with_reducible apply raiseEvent_exch h)

theorem loseEntries_exch {P : Exchange → Prop} (h : Exchange.Closed P) (lost : List Entry) (s : State) (hs : P s.exch) :
    P (loseEntries lost s).exch := by
  unfold loseEntries
  induction lost generalizing s with
  | nil => exact hs
  | cons e l ih => exact ih _ (removeWithDrain_exch h _ _ _ hs)

theorem bindByMark_exch {P : Exchange → Prop} (h : Exchange.Closed P) (text : List Byte) (mark : Nat) (grade : Grade) (s : State) (hs : P s.exch) :
    P (bindByMark text mark grade s).1.exch := by
  unfold bindByMark
  dsimp only
  repeat' split
  all_goals repeat
    (first
    | with_reducible assumption
    | with_reducible apply raiseEvent_exch h
    | with_reducible apply makeRoom_exch h
    | with_reducible apply lostEvent_exch h
    | with_reducible apply loseEntries_exch h
    | simp only [setEntry_frame, createAtReader_frame])

theorem resolveLate_exch {P : Exchange → Prop} (h : Exchange.Closed P) (serial : Nat) (m : ReadMessage) (s : State) (hs : P s.exch) :
    P (resolveLate serial m s).1.exch := by
  unfold resolveLate
  dsimp only
  repeat' split
  all_goals repeat
    (first
    | with_reducible assumption
    | with_reducible apply decideIfDue_exch h
    | simp only [setEntry_frame])

theorem resolveRead_exch {P : Exchange → Prop} (h : Exchange.Closed P) (p : PendingRead) (m : ReadMessage) (s : State) (hs : P s.exch) :
    P (resolveRead p m s).1.exch := by
  unfold resolveRead
  repeat' split
  all_goals repeat
    (first
    | with_reducible assumption
    | with_reducible apply bindByPosition_exch h
    | with_reducible apply bindByMark_exch h
    | with_reducible apply resolveLate_exch h)

theorem unsolicited_exch {P : Exchange → Prop} (h : Exchange.Closed P) (m : ReadMessage) (s : State) (hs : P s.exch) :
    P (unsolicited m s).exch := by
  unfold unsolicited
  repeat' split
  all_goals repeat
    (first
    | with_reducible assumption
    | with_reducible apply raiseEvent_exch h)

theorem takeReadResult_exch {P : Exchange → Prop} (h : Exchange.Closed P) (m : ReadMessage) (s : State) (hs : P s.exch) :
    P (takeReadResult m s).exch := by
  unfold takeReadResult
  repeat' split
  all_goals repeat
    (first
    | with_reducible assumption
    | with_reducible apply resolveRead_exch h
    | with_reducible apply unsolicited_exch h
    | simp only [setReads_frame])

theorem makeReadRoom_exch {P : Exchange → Prop} (h : Exchange.Closed P) (s : State) (hs : P s.exch) :
    P (makeReadRoom s).exch := by
  unfold makeReadRoom
  dsimp only
  repeat' split
  all_goals repeat
    (first
    | with_reducible assumption
    | with_reducible apply raiseEvent_exch h
    | with_reducible apply resolveRead_exch h
    | simp only [setReads_frame])

theorem bindEarly_exch {P : Exchange → Prop} (h : Exchange.Closed P) (s : State) (hs : P s.exch) :
    P (bindEarly s).exch := by
  unfold bindEarly
  dsimp only
  repeat' split
  all_goals repeat
    (first
    | with_reducible assumption
    | with_reducible apply raiseEvent_exch h
    | with_reducible apply makeRoom_exch h
    | simp only [setEntry_frame, createEntry_frame, setReads_frame])

theorem createAtPlatform_exch {P : Exchange → Prop} (h : Exchange.Closed P) (s : State) (hs : P s.exch) :
    P (createAtPlatform s).exch := by
  unfold createAtPlatform
  repeat
    (first
    | with_reducible assumption
    | with_reducible apply raiseEvent_exch h
    | with_reducible apply makeRoom_exch h
    | simp only [createEntry_frame])

theorem trackPlatformIn_exch {P : Exchange → Prop} (h : Exchange.Closed P) (s : State) (hs : P s.exch) :
    P (trackPlatformIn s).exch := by
  unfold trackPlatformIn
  repeat' split
  all_goals repeat
    (first
    | with_reducible assumption
    | with_reducible apply bindEarly_exch h
    | with_reducible apply createAtPlatform_exch h
    | simp only [setEntry_frame])

theorem trackPlatformOut_exch {P : Exchange → Prop} (h : Exchange.Closed P) (w : WeighResult) (s : State) (hs : P s.exch) :
    P (trackPlatformOut w s).exch := by
  unfold trackPlatformOut
  dsimp only
  repeat' split
  all_goals repeat
    (first
    | with_reducible assumption
    | with_reducible apply decideIfDue_exch h
    | simp only [setEntry_frame])

theorem swap_exch {P : Exchange → Prop} (h : Exchange.Closed P) (b : Gen) (s : State) (hs : P s.exch) :
    P (swap b s).exch := by
  unfold swap
  repeat
    (first
    | with_reducible assumption
    | with_reducible apply raiseEvent_exch h
    | with_reducible apply openLot_exch h
    | with_reducible apply drainCheck_exch h
    | simp only [rewantTrims_frame, valvesAtSwap_frame, swapSlots_frame, markRetiring_frame, retireLot_frame])

theorem linkUpEvent_exch {P : Exchange → Prop} (h : Exchange.Closed P) (before : LinkState) (g : Gen) (code : Nat) (s : State) (hs : P s.exch) :
    P (linkUpEvent before g code s).exch := by
  unfold linkUpEvent
  repeat' split
  all_goals repeat
    (first
    | with_reducible assumption
    | with_reducible apply raiseEvent_exch h)

theorem serve_exch {P : Exchange → Prop} (h : Exchange.Closed P) (m : Message) (res : AckResult) (s : State) (hs : P s.exch) :
    P (serve m res s).exch := by
  unfold serve
  dsimp only
  repeat' split
  all_goals repeat
    (first
    | with_reducible assumption
    | with_reducible apply swap_exch h
    | with_reducible apply linkUpEvent_exch h
    | simp only [awaitServed_frame, ageValves_frame, serveValues_frame])

theorem refuseChangeover_exch {P : Exchange → Prop} (h : Exchange.Closed P) (g : Gen) (s : State) (hs : P s.exch) :
    P (refuseChangeover g s).exch := by
  unfold refuseChangeover
  repeat (first | with_reducible assumption | with_reducible apply finishHeldChangeover_exch h)

theorem refuse_exch {P : Exchange → Prop} (h : Exchange.Closed P) (m : Message) (s : State) (hs : P s.exch) :
    P (refuse m s).exch := by
  unfold refuse
  dsimp only
  repeat' split
  all_goals repeat
    (first
    | with_reducible assumption
    | with_reducible apply raiseEvent_exch h
    | with_reducible apply linkUpEvent_exch h
    | with_reducible apply refuseChangeover_exch h
    | simp only [refusedUpdate_frame, revertTrims_frame])

theorem strayAck_exch {P : Exchange → Prop} (h : Exchange.Closed P) (g : Gen) (res : AckResult) (s : State) (hs : P s.exch) :
    P (strayAck g res s).exch := by
  unfold strayAck
  repeat' split
  all_goals repeat
    (first
    | with_reducible assumption
    | with_reducible apply raiseEvent_exch h)

theorem takeAck_exch {P : Exchange → Prop} (h : Exchange.Closed P) (g : Gen) (res : AckResult) (s : State) (hs : P s.exch) :
    P (takeAck g res s).exch := by
  unfold takeAck
  repeat' split
  all_goals repeat
    (first
    | with_reducible assumption
    | with_reducible apply serve_exch h
    | with_reducible apply refuse_exch h
    | with_reducible apply strayAck_exch h)

theorem dischargeBad_exch {P : Exchange → Prop} (h : Exchange.Closed P) (valve : Byte) (g : Gen) (ref : RecipeRef) (serial : Nat) (s : State) (hs : P s.exch) :
    P (dischargeBad valve g ref serial s).exch := by
  unfold dischargeBad
  repeat' split
  all_goals repeat
    (first
    | with_reducible assumption
    | with_reducible apply raiseEvent_exch h)

theorem trackDischarge_exch {P : Exchange → Prop} (h : Exchange.Closed P) (valve : Byte) (g : Gen) (s : State) (hs : P s.exch) :
    P (trackDischarge valve g s).exch := by
  unfold trackDischarge
  repeat
    (first
    | with_reducible assumption
    | with_reducible apply dischargeBad_exch h
    | simp only [createEntry_frame])

theorem takeDischarge_exch {P : Exchange → Prop} (h : Exchange.Closed P) (valve : Byte) (g : Gen) (s : State) (hs : P s.exch) :
    P (takeDischarge valve g s).exch := by
  unfold takeDischarge
  repeat' split
  all_goals repeat
    (first
    | with_reducible assumption
    | with_reducible apply raiseEvent_exch h
    | with_reducible apply removeWithDrain_exch h
    | with_reducible apply dischargeBad_exch h
    | with_reducible apply trackDischarge_exch h)

theorem changeoverInConfig_exch {P : Exchange → Prop} (h : Exchange.Closed P) (r : Recipe) (slot : Slot) (s : State) (hs : P s.exch) :
    P (changeoverInConfig r slot s).exch := by
  unfold changeoverInConfig
  repeat
    (first
    | with_reducible assumption
    | with_reducible apply finishOrder_exch h
    | with_reducible apply readinessTest_exch h
    | with_reducible apply openLot_exch h
    | with_reducible apply closeActiveLot_exch h
    | simp only [rewantTrims_frame, valvesAtConfigChangeover_frame, unsync_frame])

theorem changeoverOnLine_exch {P : Exchange → Prop} (h : Exchange.Closed P) (r : Recipe) (slot : Slot) (s : State) (hs : P s.exch) :
    P (changeoverOnLine r slot s).exch := by
  unfold changeoverOnLine
  repeat (first | with_reducible assumption | with_reducible apply holdOrder_exch h)

theorem orderChangeover_exch {P : Exchange → Prop} (h : Exchange.Closed P) (slot : Slot) (s : State) (hs : P s.exch) :
    P (orderChangeover slot s).exch := by
  unfold orderChangeover
  repeat' split
  all_goals repeat
    (first
    | with_reducible assumption
    | with_reducible apply finishOrder_exch h
    | with_reducible apply changeoverInConfig_exch h
    | with_reducible apply changeoverOnLine_exch h)

theorem orderLotClose_exch {P : Exchange → Prop} (h : Exchange.Closed P) (slot : Slot) (s : State) (hs : P s.exch) :
    P (orderLotClose slot s).exch := by
  unfold orderLotClose
  repeat
    (first
    | with_reducible assumption
    | with_reducible apply finishOrder_exch h
    | with_reducible apply reopenActiveLot_exch h)

theorem orderZeroSet_exch {P : Exchange → Prop} (h : Exchange.Closed P) (slot : Slot) (s : State) (hs : P s.exch) :
    P (orderZeroSet slot s).exch := by
  unfold orderZeroSet
  repeat' split
  all_goals repeat
    (first
    | with_reducible assumption
    | with_reducible apply finishOrder_exch h
    | with_reducible apply holdOrder_exch h
    | simp only [refreshZero_frame])

theorem beginCalAveraging_exch {P : Exchange → Prop} (h : Exchange.Closed P) (kind : CalKind) (slot : Slot) (s : State) (hs : P s.exch) :
    P (beginCalAveraging kind slot s).exch := by
  unfold beginCalAveraging
  repeat
    (first
    | with_reducible assumption
    | with_reducible apply holdOrder_exch h
    | simp only [refreshZero_frame])

theorem orderCalZero_exch {P : Exchange → Prop} (h : Exchange.Closed P) (slot : Slot) (s : State) (hs : P s.exch) :
    P (orderCalZero slot s).exch := by
  unfold orderCalZero
  repeat' split
  all_goals repeat
    (first
    | with_reducible assumption
    | with_reducible apply finishOrder_exch h
    | with_reducible apply beginCalAveraging_exch h)

theorem orderCalSpan_exch {P : Exchange → Prop} (h : Exchange.Closed P) (slot : Slot) (s : State) (hs : P s.exch) :
    P (orderCalSpan slot s).exch := by
  unfold orderCalSpan
  repeat (first | with_reducible assumption | with_reducible apply beginCalAveraging_exch h)

theorem orderValveLock_exch {P : Exchange → Prop} (h : Exchange.Closed P) (slot : Slot) (s : State) (hs : P s.exch) :
    P (orderValveLock slot s).exch := by
  unfold orderValveLock
  repeat
    (first
    | with_reducible assumption
    | with_reducible apply finishOrder_exch h
    | simp only [setValve_frame])

theorem orderValveRelease_exch {P : Exchange → Prop} (h : Exchange.Closed P) (slot : Slot) (s : State) (hs : P s.exch) :
    P (orderValveRelease slot s).exch := by
  unfold orderValveRelease
  dsimp only
  repeat' split
  all_goals repeat
    (first
    | with_reducible assumption
    | with_reducible apply finishOrder_exch h
    | simp only [setValve_frame])

theorem orderValveTrim_exch {P : Exchange → Prop} (h : Exchange.Closed P) (slot : Slot) (s : State) (hs : P s.exch) :
    P (orderValveTrim slot s).exch := by
  unfold orderValveTrim
  dsimp only
  repeat' split
  all_goals repeat
    (first
    | with_reducible assumption
    | with_reducible apply finishOrder_exch h
    | simp only [setWanted_frame, waitAfterWrite_frame])

theorem orderLoopSet_exch {P : Exchange → Prop} (h : Exchange.Closed P) (slot : Slot) (s : State) (hs : P s.exch) :
    P (orderLoopSet slot s).exch := by
  unfold orderLoopSet
  repeat (first | with_reducible assumption | with_reducible apply finishOrder_exch h)

theorem snapshotWords_length (s : State) : ((List.range' 1 128).flatMap (snapshotEntry s)).length = 1024 := by
  simp [snapshotEntry]

theorem orderSnapshot_exch {P : Exchange → Prop} (h : Exchange.Closed P) (slot : Slot) (s : State) (hs : P s.exch) :
    P (orderSnapshot slot s).exch := by
  unfold orderSnapshot
  dsimp only
  refine finishOrder_exch h _ _ _ _ (h.write _ _ _ ?_ (h.write _ _ _ ?_ hs))
  · rw [snapshotWords_length]; omega
  · simp [snapshotHeader]

theorem orderTrackFlush_exch {P : Exchange → Prop} (h : Exchange.Closed P) (slot : Slot) (s : State) (hs : P s.exch) :
    P (orderTrackFlush slot s).exch := by
  unfold orderTrackFlush
  dsimp only
  repeat' split
  all_goals repeat
    (first
    | with_reducible assumption
    | with_reducible apply finishOrder_exch h
    | with_reducible apply endDrain_exch h
    | with_reducible apply flushEntries_exch h
    | simp only [emptyPlatform_frame, setReads_frame])

theorem orderFaultClear_exch {P : Exchange → Prop} (h : Exchange.Closed P) (slot : Slot) (s : State) (hs : P s.exch) :
    P (orderFaultClear slot s).exch := by
  unfold orderFaultClear
  repeat
    (first
    | with_reducible assumption
    | with_reducible apply finishOrder_exch h
    | with_reducible apply changePart_exch h
    | with_reducible apply silentCheck_exch h)

theorem handOver_exch {P : Exchange → Prop} (h : Exchange.Closed P) (k : OrderKind) (slot : Slot) (s : State) (hs : P s.exch) :
    P (handOver k slot s).exch := by
  unfold handOver
  repeat' split
  all_goals repeat
    (first
    | with_reducible assumption
    | with_reducible apply orderChangeover_exch h
    | with_reducible apply orderLotClose_exch h
    | with_reducible apply orderZeroSet_exch h
    | with_reducible apply orderCalZero_exch h
    | with_reducible apply orderCalSpan_exch h
    | with_reducible apply orderValveLock_exch h
    | with_reducible apply orderValveRelease_exch h
    | with_reducible apply orderValveTrim_exch h
    | with_reducible apply orderLoopSet_exch h
    | with_reducible apply orderSnapshot_exch h
    | with_reducible apply orderTrackFlush_exch h
    | with_reducible apply orderFaultClear_exch h)

theorem takeOrder_exch {P : Exchange → Prop} (h : Exchange.Closed P) (slot : Slot) (s : State) (hs : P s.exch) :
    P (takeOrder slot s).exch := by
  unfold takeOrder
  repeat' split
  all_goals repeat
    (first
    | with_reducible assumption
    | with_reducible apply finishOrder_exch h
    | with_reducible apply handOver_exch h)

theorem examineSlot_exch {P : Exchange → Prop} (h : Exchange.Closed P) (slot : Slot) (s : State) (hs : P s.exch) :
    P (examineSlot slot s).exch := by
  unfold examineSlot
  repeat' split
  all_goals repeat (first | with_reducible assumption | with_reducible apply takeOrder_exch h)

theorem scanSlots_exch {P : Exchange → Prop} (h : Exchange.Closed P) (s : State) (hs : P s.exch) :
    P (scanSlots s).exch := by
  unfold scanSlots scanOrder
  simp only [List.foldl]
  repeat (first | with_reducible assumption | with_reducible apply examineSlot_exch h)

theorem garbled_exch {P : Exchange → Prop} (h : Exchange.Closed P) (step count : Nat) (s : State) (hs : P s.exch) :
    P (garbled step count s).exch := by
  unfold garbled
  repeat (first | with_reducible assumption | with_reducible apply raiseLineEvent_exch h)

theorem takeMessage_exch {P : Exchange → Prop} (h : Exchange.Closed P) (m : List Byte) (s : State) (hs : P s.exch) :
    P (takeMessage m s).exch := by
  unfold takeMessage
  repeat' split
  all_goals repeat
    (first
    | with_reducible assumption
    | with_reducible apply takeReadResult_exch h
    | with_reducible apply garbled_exch h)

theorem readerEnd_exch {P : Exchange → Prop} (h : Exchange.Closed P) (s : State) (hs : P s.exch) :
    P (readerEnd s).exch := by
  unfold readerEnd
  repeat' split
  all_goals repeat
    (first
    | with_reducible assumption
    | with_reducible apply raiseLineEvent_exch h
    | with_reducible apply takeReadResult_exch h
    | with_reducible apply takeMessage_exch h
    | simp only [setReaderAsm_frame])

theorem readerTake_exch {P : Exchange → Prop} (h : Exchange.Closed P) (c : Byte) (s : State) (hs : P s.exch) :
    P (readerTake c s).exch := by
  unfold readerTake
  repeat' split
  all_goals repeat
    (first
    | with_reducible assumption
    | with_reducible apply readerEnd_exch h
    | simp only [readerPut_frame])

theorem readerDamage_exch {P : Exchange → Prop} (h : Exchange.Closed P) (s : State) (hs : P s.exch) :
    P (readerDamage s).exch := by
  unfold readerDamage
  repeat' split
  all_goals repeat
    (first
    | with_reducible assumption
    | with_reducible apply raiseLineEvent_exch h
    | simp only [setReaderAsm_frame])

theorem readerFramingFault_exch {P : Exchange → Prop} (h : Exchange.Closed P) (brk : Bool) (s : State) (hs : P s.exch) :
    P (readerFramingFault brk s).exch := by
  unfold readerFramingFault
  repeat' split
  all_goals repeat
    (first
    | with_reducible assumption
    | with_reducible apply readerDamage_exch h)

theorem settleFrame_exch {P : Exchange → Prop} (h : Exchange.Closed P) (f : Frame) (s : State) (hs : P s.exch) :
    P (settleFrame f s).exch := by
  unfold settleFrame
  repeat' split
  all_goals repeat
    (first
    | with_reducible assumption
    | with_reducible apply raiseLineEvent_exch h
    | with_reducible apply takeAck_exch h
    | with_reducible apply takeDischarge_exch h)

theorem fillerTake_exch {P : Exchange → Prop} (h : Exchange.Closed P) (b : Byte) (s : State) (hs : P s.exch) :
    P (fillerTake b s).exch := by
  unfold fillerTake
  dsimp only
  repeat' split
  all_goals repeat
    (first
    | with_reducible assumption
    | with_reducible apply raiseLineEvent_exch h
    | with_reducible apply settleFrame_exch h)

theorem fillerFault_exch {P : Exchange → Prop} (h : Exchange.Closed P) (fault : CharFault) (s : State) (hs : P s.exch) :
    P (fillerFault fault s).exch := by
  unfold fillerFault
  dsimp only
  repeat' split
  all_goals repeat
    (first
    | with_reducible assumption
    | with_reducible apply raiseLineEvent_exch h)

theorem fillerReceive_exch {P : Exchange → Prop} (h : Exchange.Closed P) (c : LineChar) (s : State) (hs : P s.exch) :
    P (fillerReceive c s).exch := by
  unfold fillerReceive
  split
  · exact fillerFault_exch h _ s hs
  · exact fillerTake_exch h _ s hs

theorem gapExpired_exch {P : Exchange → Prop} (h : Exchange.Closed P) (s : State) (hs : P s.exch) :
    P (gapExpired s).exch := by
  unfold gapExpired
  repeat (first | with_reducible assumption | with_reducible apply raiseLineEvent_exch h)

theorem refuseWrite_exch {P : Exchange → Prop} (h : Exchange.Closed P) (a : Nat) (value : Word) (s : State)
    (hs : P s.exch) : P (refuseWrite a value s).exch := by
  unfold refuseWrite
  split
  · exact h.counters s.exch s.exch.evWrite s.exch.dropCount s.exch.holdoff _ s.exch.logIndex s.exch.wrapCount
      s.exch.timeTag hs
  · exact h.counters _ (Exchange.evWrite _) (Exchange.dropCount _) _ _ (Exchange.logIndex _) (Exchange.wrapCount _)
      (Exchange.timeTag _) (Exchange.event_closed h _ _ _ _ hs)

theorem writeMemory_exch {P : Exchange → Prop} (h : Exchange.Closed P) (a : Nat) (value : Word) (s : State)
    (ha : a < 0x4000) (hs : P s.exch) : P (writeMemory a value s).exch := by
  unfold writeMemory
  split
  · exact refuseWrite_exch h _ _ _ hs
  · exact h.write _ _ _ (by simp only [List.length_cons, List.length_nil]; omega) hs

theorem clearNotices_exch {P : Exchange → Prop} (h : Exchange.Closed P) (value : Word) (s : State) (hs : P s.exch) :
    P (clearNotices value s).exch := h.notices _ _ _ hs

theorem replaceMask_exch {P : Exchange → Prop} (h : Exchange.Closed P) (value : Word) (s : State) (hs : P s.exch) :
    P (replaceMask value s).exch := h.notices _ _ _ hs

theorem restartQueue_exch {P : Exchange → Prop} (h : Exchange.Closed P) (s : State) (hs : P s.exch) :
    P (restartQueue s).exch := by
  have key := h.write _ overflowAddr [0] (by simp [overflowAddr]) (h.write s.exch readIndexAddr [0] (by simp [readIndexAddr]) hs)
  exact h.counters _ 0 (Exchange.dropCount _) (Exchange.holdoff _) (Exchange.suppressed _) (Exchange.logIndex _)
    (Exchange.wrapCount _) (Exchange.timeTag _) key

theorem calOrdersAtRestart_exch {P : Exchange → Prop} (h : Exchange.Closed P) (s : State) (hs : P s.exch) :
    P (calOrdersAtRestart s).exch := by
  unfold calOrdersAtRestart
  repeat
    (first
    | with_reducible assumption
    | with_reducible apply endZeroSet_exch h
    | with_reducible apply endCalAveraging_exch h
    | with_reducible apply abortStoreOrder_exch h)

theorem recipesAtRestart_exch {P : Exchange → Prop} (h : Exchange.Closed P) (s : State) (hs : P s.exch) :
    P (recipesAtRestart s).exch := by
  unfold recipesAtRestart
  dsimp only
  repeat' split
  all_goals repeat
    (first
    | with_reducible assumption
    | with_reducible apply closeRetiringLot_exch h
    | with_reducible apply reopenActiveLot_exch h
    | with_reducible apply finishHeldChangeover_exch h)

theorem restartBlocks_exch {P : Exchange → Prop} (h : Exchange.Closed P) (s : State) (hs : P s.exch) :
    P (restartBlocks s).exch := by
  unfold restartBlocks
  repeat
    (first
    | with_reducible assumption
    | with_reducible apply flushEntries_exch h
    | with_reducible apply restartQueue_exch h
    | with_reducible apply calOrdersAtRestart_exch h
    | with_reducible apply recipesAtRestart_exch h
    | simp only [valvesAtRestart_frame, setReads_frame, doseAtRestart_frame, weighAtRestart_frame, fillerAtRestart_frame])

theorem restartPart_exch {P : Exchange → Prop} (h : Exchange.Closed P) (s : State) (hs : P s.exch) :
    P (restartPart s).exch := by
  unfold restartPart
  repeat
    (first
    | with_reducible assumption
    | with_reducible apply changePart_exch h
    | with_reducible apply silentCheck_exch h
    | with_reducible apply restartBlocks_exch h)

theorem writeControl_exch {P : Exchange → Prop} (h : Exchange.Closed P) (value : Word) (s : State) (hs : P s.exch) :
    P (writeControl value s).exch := by
  unfold writeControl
  repeat' split
  all_goals repeat
    (first
    | with_reducible assumption
    | with_reducible apply restartPart_exch h)

theorem hostWrite_exch {P : Exchange → Prop} (h : Exchange.Closed P) (addr value : Word) (s : State) (hs : P s.exch) :
    P (hostWrite addr value s).exch := by
  unfold hostWrite
  repeat' split
  all_goals
    first
    | assumption
    | exact writeMemory_exch h _ _ _ (by assumption) hs
    | exact writeControl_exch h _ _ hs
    | exact clearNotices_exch h _ _ hs
    | exact replaceMask_exch h _ _ hs

theorem jam_exch {P : Exchange → Prop} (h : Exchange.Closed P) (loaded : Nat) (w : Weighing) (s : State) (hs : P s.exch) :
    P (jam loaded w s).exch := by
  unfold jam
  repeat
    (first
    | with_reducible assumption
    | with_reducible apply raiseEvent_exch h
    | with_reducible apply handCause_exch h)

theorem settleDeadline_exch {P : Exchange → Prop} (h : Exchange.Closed P) (e : Entry) (s : State) (hs : P s.exch) :
    P (settleDeadline e s).exch := by
  unfold settleDeadline
  repeat' split
  all_goals repeat
    (first
    | with_reducible assumption
    | with_reducible apply raiseEvent_exch h
    | with_reducible apply removeWithDrain_exch h)

theorem linkDownEvent_exch {P : Exchange → Prop} (h : Exchange.Closed P) (s : State) (hs : P s.exch) :
    P (linkDownEvent s).exch := by
  unfold linkDownEvent
  repeat' split
  all_goals repeat
    (first
    | with_reducible assumption
    | with_reducible apply raiseEvent_exch h)

theorem ackTimedOut_exch {P : Exchange → Prop} (h : Exchange.Closed P) (s : State) (hs : P s.exch) :
    P (ackTimedOut s).exch := by
  unfold ackTimedOut
  repeat' split
  all_goals repeat
    (first
    | with_reducible assumption
    | with_reducible apply linkDownEvent_exch h)

theorem takeAtEye_exch {P : Exchange → Prop} (h : Exchange.Closed P) (e : Entry) (s : State) (hs : P s.exch) :
    P (takeAtEye e s).exch := by
  unfold takeAtEye
  dsimp only
  repeat' split
  all_goals repeat
    (first
    | with_reducible assumption
    | with_reducible apply settleAtEye_exch h
    | simp only [passEye_frame])

theorem kickUnknown_exch {P : Exchange → Prop} (h : Exchange.Closed P) (s : State) (hs : P s.exch) :
    P (kickUnknown s).exch := by
  unfold kickUnknown
  repeat (first | with_reducible assumption | with_reducible apply raiseEvent_exch h | simp only [fire_frame])

theorem rejectFailed_exch {P : Exchange → Prop} (h : Exchange.Closed P) (e : Entry) (s : State) (hs : P s.exch) :
    P (rejectFailed e s).exch := by
  unfold rejectFailed
  repeat
    (first
    | with_reducible assumption
    | with_reducible apply raiseEvent_exch h
    | with_reducible apply handCause_exch h
    | with_reducible apply removeWithDrain_exch h)

theorem minuteStep_exch {P : Exchange → Prop} (h : Exchange.Closed P) (s : State) (hs : P s.exch) :
    P (minuteStep s).exch := by
  unfold minuteStep
  split
  · exact reopenActiveLot_exch h _ _ hs
  · exact h.write _ _ _ (by simp [lotMinutesAddr]) hs

theorem scanNow_exch {P : Exchange → Prop} (h : Exchange.Closed P) (s : State) (hs : P s.exch) :
    P (scanNow s).exch := by
  unfold scanNow
  repeat (first | with_reducible assumption | with_reducible apply scanSlots_exch h)

end Sys2Proof.Machine
end

