-- ==== Sys2Proof/Laws/State.lean ====
section
/-! SUPPORT. The fields of a block after each named update: one lemma a field, true by `rfl`. The blocks that an update does not
touch stand in the Frames files. -/

namespace Sys2Proof.Machine

@[simp] theorem Exchange.write_mem (e : Exchange) (base : Nat) (ws : List Word) :
    (e.write base ws).mem = memWrite e.mem base ws := rfl
@[simp] theorem Exchange.write_notice (e : Exchange) (base : Nat) (ws : List Word) : (e.write base ws).notice = e.notice := rfl
@[simp] theorem Exchange.write_mask (e : Exchange) (base : Nat) (ws : List Word) : (e.write base ws).mask = e.mask := rfl
@[simp] theorem Exchange.write_attn (e : Exchange) (base : Nat) (ws : List Word) : (e.write base ws).attn = e.attn := rfl
@[simp] theorem Exchange.write_evWrite (e : Exchange) (base : Nat) (ws : List Word) :
    (e.write base ws).evWrite = e.evWrite := rfl
@[simp] theorem Exchange.write_dropCount (e : Exchange) (base : Nat) (ws : List Word) :
    (e.write base ws).dropCount = e.dropCount := rfl
@[simp] theorem Exchange.write_holdoff (e : Exchange) (base : Nat) (ws : List Word) :
    (e.write base ws).holdoff = e.holdoff := rfl
@[simp] theorem Exchange.write_suppressed (e : Exchange) (base : Nat) (ws : List Word) :
    (e.write base ws).suppressed = e.suppressed := rfl
@[simp] theorem Exchange.write_logIndex (e : Exchange) (base : Nat) (ws : List Word) :
    (e.write base ws).logIndex = e.logIndex := rfl
@[simp] theorem Exchange.write_wrapCount (e : Exchange) (base : Nat) (ws : List Word) :
    (e.write base ws).wrapCount = e.wrapCount := rfl
@[simp] theorem Exchange.write_timeTag (e : Exchange) (base : Nat) (ws : List Word) :
    (e.write base ws).timeTag = e.timeTag := rfl

@[simp] theorem Exchange.setNotices_mem (e : Exchange) (n m : BitVec 5) : (e.setNotices n m).mem = e.mem := rfl
@[simp] theorem Exchange.setNotices_notice (e : Exchange) (n m : BitVec 5) : (e.setNotices n m).notice = n := rfl
@[simp] theorem Exchange.setNotices_mask (e : Exchange) (n m : BitVec 5) : (e.setNotices n m).mask = m := rfl
@[simp] theorem Exchange.setNotices_attn (e : Exchange) (n m : BitVec 5) : (e.setNotices n m).attn = decide (n &&& m ≠ 0) := rfl
@[simp] theorem Exchange.setNotices_evWrite (e : Exchange) (n m : BitVec 5) : (e.setNotices n m).evWrite = e.evWrite := rfl
@[simp] theorem Exchange.setNotices_dropCount (e : Exchange) (n m : BitVec 5) :
    (e.setNotices n m).dropCount = e.dropCount := rfl
@[simp] theorem Exchange.setNotices_holdoff (e : Exchange) (n m : BitVec 5) : (e.setNotices n m).holdoff = e.holdoff := rfl
@[simp] theorem Exchange.setNotices_suppressed (e : Exchange) (n m : BitVec 5) :
    (e.setNotices n m).suppressed = e.suppressed := rfl
@[simp] theorem Exchange.setNotices_logIndex (e : Exchange) (n m : BitVec 5) : (e.setNotices n m).logIndex = e.logIndex := rfl
@[simp] theorem Exchange.setNotices_wrapCount (e : Exchange) (n m : BitVec 5) :
    (e.setNotices n m).wrapCount = e.wrapCount := rfl
@[simp] theorem Exchange.setNotices_timeTag (e : Exchange) (n m : BitVec 5) : (e.setNotices n m).timeTag = e.timeTag := rfl

@[simp] theorem Exchange.raiseNotice_mem (e : Exchange) (n : Notice) : (e.raiseNotice n).mem = e.mem := rfl
@[simp] theorem Exchange.raiseNotice_notice (e : Exchange) (n : Notice) : (e.raiseNotice n).notice = e.notice ||| n.bit := rfl
@[simp] theorem Exchange.raiseNotice_mask (e : Exchange) (n : Notice) : (e.raiseNotice n).mask = e.mask := rfl
@[simp] theorem Exchange.raiseNotice_attn (e : Exchange) (n : Notice) :
    (e.raiseNotice n).attn = decide ((e.notice ||| n.bit) &&& e.mask ≠ 0) := rfl
@[simp] theorem Exchange.raiseNotice_evWrite (e : Exchange) (n : Notice) : (e.raiseNotice n).evWrite = e.evWrite := rfl
@[simp] theorem Exchange.raiseNotice_dropCount (e : Exchange) (n : Notice) : (e.raiseNotice n).dropCount = e.dropCount := rfl
@[simp] theorem Exchange.raiseNotice_holdoff (e : Exchange) (n : Notice) : (e.raiseNotice n).holdoff = e.holdoff := rfl
@[simp] theorem Exchange.raiseNotice_suppressed (e : Exchange) (n : Notice) : (e.raiseNotice n).suppressed = e.suppressed := rfl
@[simp] theorem Exchange.raiseNotice_logIndex (e : Exchange) (n : Notice) : (e.raiseNotice n).logIndex = e.logIndex := rfl
@[simp] theorem Exchange.raiseNotice_wrapCount (e : Exchange) (n : Notice) : (e.raiseNotice n).wrapCount = e.wrapCount := rfl
@[simp] theorem Exchange.raiseNotice_timeTag (e : Exchange) (n : Notice) : (e.raiseNotice n).timeTag = e.timeTag := rfl

@[simp] theorem setReads_entries (l : List PendingRead) (s : State) : (setReads l s).track.entries = s.track.entries := rfl
@[simp] theorem setReads_reads (l : List PendingRead) (s : State) : (setReads l s).track.reads = l := rfl
@[simp] theorem setReads_nextSerial (l : List PendingRead) (s : State) :
    (setReads l s).track.nextSerial = s.track.nextSerial := rfl

@[simp] theorem setEntry_entries (e : Entry) (s : State) :
    (setEntry e s).track.entries = s.track.entries.map (fun x => if x.serial = e.serial then e else x) := rfl
@[simp] theorem setEntry_reads (e : Entry) (s : State) : (setEntry e s).track.reads = s.track.reads := rfl
@[simp] theorem setEntry_nextSerial (e : Entry) (s : State) : (setEntry e s).track.nextSerial = s.track.nextSerial := rfl

@[simp] theorem createEntry_entries (e : Entry) (s : State) :
    (createEntry e s).track.entries = insertByStage e s.track.entries := rfl
@[simp] theorem createEntry_reads (e : Entry) (s : State) : (createEntry e s).track.reads = s.track.reads := rfl
@[simp] theorem createEntry_nextSerial (e : Entry) (s : State) :
    (createEntry e s).track.nextSerial = nextNumber s.track.nextSerial := rfl

@[simp] theorem removeEntry_entries (e : Entry) (d : Disposition) (s : State) :
    (removeEntry e d s).track.entries = s.track.entries.eraseP (fun x => decide (x.serial = e.serial)) := rfl
@[simp] theorem removeEntry_reads (e : Entry) (d : Disposition) (s : State) :
    (removeEntry e d s).track.reads = s.track.reads := rfl
@[simp] theorem removeEntry_nextSerial (e : Entry) (d : Disposition) (s : State) :
    (removeEntry e d s).track.nextSerial = s.track.nextSerial := rfl

@[simp] theorem fire_actuator (pulse : Nat) (s : State) : (fire pulse s).reject.actuator = .firing (pulse * 10) := rfl
@[simp] theorem fire_drive (pulse : Nat) (s : State) : (fire pulse s).reject.drive = true := rfl

@[simp] theorem setValve_table (v : Nat) (x : Valve) (s : State) :
    (setValve v x s).valves.table = setNumbered s.valves.table v x := rfl
@[simp] theorem setValve_loop (v : Nat) (x : Valve) (s : State) : (setValve v x s).valves.loop = s.valves.loop := rfl
@[simp] theorem setValve_snapshots (v : Nat) (x : Valve) (s : State) :
    (setValve v x s).valves.snapshots = s.valves.snapshots := rfl

@[simp] theorem mapValves_table (f : Nat → Valve → Valve) (s : State) :
    (mapValves f s).valves.table = mapFrom f 1 s.valves.table := rfl
@[simp] theorem mapValves_loop (f : Nat → Valve → Valve) (s : State) : (mapValves f s).valves.loop = s.valves.loop := rfl
@[simp] theorem mapValves_snapshots (f : Nat → Valve → Valve) (s : State) :
    (mapValves f s).valves.snapshots = s.valves.snapshots := rfl

@[simp] theorem setWanted_base (v : Nat) (w : Int) (s : State) : (setWanted v w s).dose.base = s.dose.base := rfl
@[simp] theorem setWanted_limit (v : Nat) (w : Int) (s : State) : (setWanted v w s).dose.limit = s.dose.limit := rfl
@[simp] theorem setWanted_served (v : Nat) (w : Int) (s : State) : (setWanted v w s).dose.served = s.dose.served := rfl
@[simp] theorem setWanted_trims (v : Nat) (w : Int) (s : State) :
    (setWanted v w s).dose.trims = setNumbered s.dose.trims v { trimAt s v with wanted := w } := rfl
@[simp] theorem setWanted_inflight (v : Nat) (w : Int) (s : State) : (setWanted v w s).dose.inflight = s.dose.inflight := rfl
@[simp] theorem setWanted_changeover (v : Nat) (w : Int) (s : State) :
    (setWanted v w s).dose.changeover = s.dose.changeover := rfl
@[simp] theorem setWanted_link (v : Nat) (w : Int) (s : State) : (setWanted v w s).dose.link = s.dose.link := rfl
@[simp] theorem setWanted_ack (v : Nat) (w : Int) (s : State) : (setWanted v w s).dose.ack = s.dose.ack := rfl
@[simp] theorem setWanted_probe (v : Nat) (w : Int) (s : State) : (setWanted v w s).dose.probe = s.dose.probe := rfl
@[simp] theorem setWanted_rr (v : Nat) (w : Int) (s : State) : (setWanted v w s).dose.rr = s.dose.rr := rfl

@[simp] theorem mapTrims_base (f : Nat → Trim → Trim) (s : State) : (mapTrims f s).dose.base = s.dose.base := rfl
@[simp] theorem mapTrims_limit (f : Nat → Trim → Trim) (s : State) : (mapTrims f s).dose.limit = s.dose.limit := rfl
@[simp] theorem mapTrims_served (f : Nat → Trim → Trim) (s : State) : (mapTrims f s).dose.served = s.dose.served := rfl
@[simp] theorem mapTrims_trims (f : Nat → Trim → Trim) (s : State) : (mapTrims f s).dose.trims = mapFrom f 1 s.dose.trims := rfl
@[simp] theorem mapTrims_inflight (f : Nat → Trim → Trim) (s : State) : (mapTrims f s).dose.inflight = s.dose.inflight := rfl
@[simp] theorem mapTrims_changeover (f : Nat → Trim → Trim) (s : State) :
    (mapTrims f s).dose.changeover = s.dose.changeover := rfl
@[simp] theorem mapTrims_link (f : Nat → Trim → Trim) (s : State) : (mapTrims f s).dose.link = s.dose.link := rfl
@[simp] theorem mapTrims_ack (f : Nat → Trim → Trim) (s : State) : (mapTrims f s).dose.ack = s.dose.ack := rfl
@[simp] theorem mapTrims_probe (f : Nat → Trim → Trim) (s : State) : (mapTrims f s).dose.probe = s.dose.probe := rfl
@[simp] theorem mapTrims_rr (f : Nat → Trim → Trim) (s : State) : (mapTrims f s).dose.rr = s.dose.rr := rfl

@[simp] theorem setLot_active_active (l : Option Lot) (s : State) :
    (setLot .active l s).recipes.active = s.recipes.active := rfl
@[simp] theorem setLot_active_retiring (l : Option Lot) (s : State) :
    (setLot .active l s).recipes.retiring = s.recipes.retiring := rfl
@[simp] theorem setLot_active_next (l : Option Lot) (s : State) : (setLot .active l s).recipes.next = s.recipes.next := rfl
@[simp] theorem setLot_active_held (l : Option Lot) (s : State) : (setLot .active l s).recipes.held = s.recipes.held := rfl
@[simp] theorem setLot_active_boundary (l : Option Lot) (s : State) :
    (setLot .active l s).recipes.boundary = s.recipes.boundary := rfl
@[simp] theorem setLot_active_activeLot (l : Option Lot) (s : State) : (setLot .active l s).recipes.activeLot = l := rfl
@[simp] theorem setLot_active_retiringLot (l : Option Lot) (s : State) :
    (setLot .active l s).recipes.retiringLot = s.recipes.retiringLot := rfl
@[simp] theorem setLot_active_nextLot (l : Option Lot) (s : State) :
    (setLot .active l s).recipes.nextLot = s.recipes.nextLot := rfl
@[simp] theorem setLot_active_closedPos (l : Option Lot) (s : State) :
    (setLot .active l s).recipes.closedPos = s.recipes.closedPos := rfl
@[simp] theorem setLot_active_fine (l : Option Lot) (s : State) : (setLot .active l s).recipes.fine = s.recipes.fine := rfl
@[simp] theorem setLot_active_finePhase (l : Option Lot) (s : State) :
    (setLot .active l s).recipes.finePhase = s.recipes.finePhase := rfl

@[simp] theorem setLot_retiring_active (l : Option Lot) (s : State) :
    (setLot .retiring l s).recipes.active = s.recipes.active := rfl
@[simp] theorem setLot_retiring_retiring (l : Option Lot) (s : State) :
    (setLot .retiring l s).recipes.retiring = s.recipes.retiring := rfl
@[simp] theorem setLot_retiring_next (l : Option Lot) (s : State) : (setLot .retiring l s).recipes.next = s.recipes.next := rfl
@[simp] theorem setLot_retiring_held (l : Option Lot) (s : State) : (setLot .retiring l s).recipes.held = s.recipes.held := rfl
@[simp] theorem setLot_retiring_boundary (l : Option Lot) (s : State) :
    (setLot .retiring l s).recipes.boundary = s.recipes.boundary := rfl
@[simp] theorem setLot_retiring_activeLot (l : Option Lot) (s : State) :
    (setLot .retiring l s).recipes.activeLot = s.recipes.activeLot := rfl
@[simp] theorem setLot_retiring_retiringLot (l : Option Lot) (s : State) : (setLot .retiring l s).recipes.retiringLot = l := rfl
@[simp] theorem setLot_retiring_nextLot (l : Option Lot) (s : State) :
    (setLot .retiring l s).recipes.nextLot = s.recipes.nextLot := rfl
@[simp] theorem setLot_retiring_closedPos (l : Option Lot) (s : State) :
    (setLot .retiring l s).recipes.closedPos = s.recipes.closedPos := rfl
@[simp] theorem setLot_retiring_fine (l : Option Lot) (s : State) : (setLot .retiring l s).recipes.fine = s.recipes.fine := rfl
@[simp] theorem setLot_retiring_finePhase (l : Option Lot) (s : State) :
    (setLot .retiring l s).recipes.finePhase = s.recipes.finePhase := rfl

@[simp] theorem openLot_active (s : State) : (openLot s).recipes.active = s.recipes.active := rfl
@[simp] theorem openLot_retiring (s : State) : (openLot s).recipes.retiring = s.recipes.retiring := rfl
@[simp] theorem openLot_next (s : State) : (openLot s).recipes.next = s.recipes.next := rfl
@[simp] theorem openLot_held (s : State) : (openLot s).recipes.held = s.recipes.held := rfl
@[simp] theorem openLot_boundary (s : State) : (openLot s).recipes.boundary = s.recipes.boundary := rfl
@[simp] theorem openLot_activeLot (s : State) :
    (openLot s).recipes.activeLot = some (freshLot s.recipes.nextLot (activeRecipe s) s.exch.timeTag) := rfl
@[simp] theorem openLot_retiringLot (s : State) : (openLot s).recipes.retiringLot = s.recipes.retiringLot := rfl
@[simp] theorem openLot_nextLot (s : State) : (openLot s).recipes.nextLot = nextNumber s.recipes.nextLot := rfl
@[simp] theorem openLot_closedPos (s : State) : (openLot s).recipes.closedPos = s.recipes.closedPos := rfl
@[simp] theorem openLot_fine (s : State) : (openLot s).recipes.fine = 600 := rfl
@[simp] theorem openLot_finePhase (s : State) : (openLot s).recipes.finePhase = 0 := rfl

@[simp] theorem swapSlots_active (b : Gen) (s : State) : (swapSlots b s).recipes.active = s.recipes.next := rfl
@[simp] theorem swapSlots_retiring (b : Gen) (s : State) : (swapSlots b s).recipes.retiring = s.recipes.active := rfl
@[simp] theorem swapSlots_next (b : Gen) (s : State) : (swapSlots b s).recipes.next = none := rfl
@[simp] theorem swapSlots_held (b : Gen) (s : State) : (swapSlots b s).recipes.held = s.recipes.held := rfl
@[simp] theorem swapSlots_boundary (b : Gen) (s : State) : (swapSlots b s).recipes.boundary = b := rfl
@[simp] theorem swapSlots_activeLot (b : Gen) (s : State) : (swapSlots b s).recipes.activeLot = s.recipes.activeLot := rfl
@[simp] theorem swapSlots_retiringLot (b : Gen) (s : State) : (swapSlots b s).recipes.retiringLot = s.recipes.retiringLot := rfl
@[simp] theorem swapSlots_nextLot (b : Gen) (s : State) : (swapSlots b s).recipes.nextLot = s.recipes.nextLot := rfl
@[simp] theorem swapSlots_closedPos (b : Gen) (s : State) : (swapSlots b s).recipes.closedPos = s.recipes.closedPos := rfl
@[simp] theorem swapSlots_fine (b : Gen) (s : State) : (swapSlots b s).recipes.fine = s.recipes.fine := rfl
@[simp] theorem swapSlots_finePhase (b : Gen) (s : State) : (swapSlots b s).recipes.finePhase = s.recipes.finePhase := rfl

@[simp] theorem markRetiring_entries (s : State) :
    (markRetiring s).track.entries = s.track.entries.map (fun e => { e with recipe := .retiring }) := rfl
@[simp] theorem markRetiring_reads (s : State) : (markRetiring s).track.reads = s.track.reads := rfl
@[simp] theorem markRetiring_nextSerial (s : State) : (markRetiring s).track.nextSerial = s.track.nextSerial := rfl

@[simp] theorem refreshZero_samples (s : State) : (refreshZero s).weigh.samples = s.weigh.samples := rfl
@[simp] theorem refreshZero_converter (s : State) : (refreshZero s).weigh.converter = s.weigh.converter := rfl
@[simp] theorem refreshZero_watch (s : State) : (refreshZero s).weigh.watch = s.weigh.watch := rfl
@[simp] theorem refreshZero_platform (s : State) : (refreshZero s).weigh.platform = s.weigh.platform := rfl
@[simp] theorem refreshZero_jam (s : State) : (refreshZero s).weigh.jam = s.weigh.jam := rfl
@[simp] theorem refreshZero_z (s : State) : (refreshZero s).weigh.z = s.weigh.z := rfl
@[simp] theorem refreshZero_acc (s : State) :
    (refreshZero s).weigh.acc = (if zeroConditions s then
      if s.weigh.tracking then s.weigh.acc else { s.weigh.acc.cleared with quietStart := s.exch.timeTag }
    else s.weigh.acc.cleared) := rfl
@[simp] theorem refreshZero_tracking (s : State) : (refreshZero s).weigh.tracking = zeroConditions s := rfl
@[simp] theorem refreshZero_refusals (s : State) : (refreshZero s).weigh.refusals = s.weigh.refusals := rfl
@[simp] theorem refreshZero_zeroSet (s : State) : (refreshZero s).weigh.zeroSet = s.weigh.zeroSet := rfl

@[simp] theorem finishOrder_scan (slot : Slot) (o : Outcome) (detail : Word) (s : State) :
    (finishOrder slot o detail s).orders.scan = s.orders.scan := rfl
@[simp] theorem finishOrder_taken (slot : Slot) (o : Outcome) (detail : Word) (s : State) :
    (finishOrder slot o detail s).orders.taken = s.orders.taken.filter (fun t => decide (t.1 ≠ slot)) := rfl

@[simp] theorem holdOrder_scan (slot : Slot) (owner : Owner) (s : State) :
    (holdOrder slot owner s).orders.scan = s.orders.scan := rfl
@[simp] theorem holdOrder_taken (slot : Slot) (owner : Owner) (s : State) :
    (holdOrder slot owner s).orders.taken = s.orders.taken ++ [(slot, owner)] := rfl

@[simp] theorem takeSample_samples (x : Sample) (s : State) :
    (takeSample x s).weigh.samples = appendSample x s.weigh.samples := by dsimp only [takeSample]
@[simp] theorem takeSample_converter (x : Sample) (s : State) :
    (takeSample x s).weigh.converter = .live := by dsimp only [takeSample]
@[simp] theorem takeSample_watch (x : Sample) (s : State) : (takeSample x s).weigh.watch = some 50 := by dsimp only [takeSample]
@[simp] theorem takeSample_platform (x : Sample) (s : State) :
    (takeSample x s).weigh.platform = s.weigh.platform := by dsimp only [takeSample]
@[simp] theorem takeSample_jam (x : Sample) (s : State) : (takeSample x s).weigh.jam = s.weigh.jam := by dsimp only [takeSample]
@[simp] theorem takeSample_z (x : Sample) (s : State) : (takeSample x s).weigh.z = s.weigh.z := by dsimp only [takeSample]
@[simp] theorem takeSample_acc (x : Sample) (s : State) : (takeSample x s).weigh.acc = s.weigh.acc := by dsimp only [takeSample]
@[simp] theorem takeSample_tracking (x : Sample) (s : State) :
    (takeSample x s).weigh.tracking = s.weigh.tracking := by dsimp only [takeSample]
@[simp] theorem takeSample_refusals (x : Sample) (s : State) :
    (takeSample x s).weigh.refusals = s.weigh.refusals := by dsimp only [takeSample]
@[simp] theorem takeSample_zeroSet (x : Sample) (s : State) :
    (takeSample x s).weigh.zeroSet = s.weigh.zeroSet := by dsimp only [takeSample]

@[simp] theorem setReaderAsm_receiver (a : ReaderAsm) (s : State) :
    (setReaderAsm a s).reader.receiver = s.reader.receiver := rfl
@[simp] theorem setReaderAsm_asm (a : ReaderAsm) (s : State) : (setReaderAsm a s).reader.asm = a := rfl
@[simp] theorem setReaderAsm_tx (a : ReaderAsm) (s : State) : (setReaderAsm a s).reader.tx = s.reader.tx := rfl

@[simp] theorem FillerPort.dropped_receiver (p : FillerPort) : (p.dropped).receiver = p.receiver := rfl
@[simp] theorem FillerPort.dropped_asm (p : FillerPort) : (p.dropped).asm = .hunt := rfl
@[simp] theorem FillerPort.dropped_kind (p : FillerPort) : (p.dropped).kind = 0 := rfl
@[simp] theorem FillerPort.dropped_len (p : FillerPort) : (p.dropped).len = 0 := rfl
@[simp] theorem FillerPort.dropped_payload (p : FillerPort) : (p.dropped).payload = [] := rfl
@[simp] theorem FillerPort.dropped_sum (p : FillerPort) : (p.dropped).sum = 0 := rfl
@[simp] theorem FillerPort.dropped_gap (p : FillerPort) : (p.dropped).gap = none := rfl
@[simp] theorem FillerPort.dropped_tx (p : FillerPort) : (p.dropped).tx = p.tx := rfl
@[simp] theorem FillerPort.dropped_waiting (p : FillerPort) : (p.dropped).waiting = p.waiting := rfl

@[simp] theorem setLineRun_lineRun (level : Bool) (s : State) : (setLineRun level s).pins.lineRun = level := rfl
@[simp] theorem setLineRun_calSwitch (level : Bool) (s : State) : (setLineRun level s).pins.calSwitch = s.pins.calSwitch := rfl
@[simp] theorem setLineRun_resetHeld (level : Bool) (s : State) : (setLineRun level s).pins.resetHeld = s.pins.resetHeld := rfl

@[simp] theorem releaseReset_lineRun (s : State) : (releaseReset s).pins.lineRun = s.pins.lineRun := rfl
@[simp] theorem releaseReset_calSwitch (s : State) : (releaseReset s).pins.calSwitch = s.pins.calSwitch := rfl
@[simp] theorem releaseReset_resetHeld (s : State) : (releaseReset s).pins.resetHeld = false := rfl

@[simp] theorem noteSwitch_lineRun (on : Bool) (s : State) : (noteSwitch on s).pins.lineRun = s.pins.lineRun := rfl
@[simp] theorem noteSwitch_calSwitch (on : Bool) (s : State) :
    (noteSwitch on s).pins.calSwitch = (s.pins.calSwitch || on) := rfl
@[simp] theorem noteSwitch_resetHeld (on : Bool) (s : State) : (noteSwitch on s).pins.resetHeld = s.pins.resetHeld := rfl

@[simp] theorem startScan_scan (s : State) : (startScan s).orders.scan = some 50 := rfl
@[simp] theorem startScan_taken (s : State) : (startScan s).orders.taken = s.orders.taken := rfl

@[simp] theorem Valve.zeroed_state (x : Valve) : (x.zeroed).state = x.state := rfl
@[simp] theorem Valve.zeroed_avg (x : Valve) : (x.zeroed).avg = 0 := rfl
@[simp] theorem Valve.zeroed_n (x : Valve) : (x.zeroed).n = 0 := rfl
@[simp] theorem Valve.zeroed_effectGen (x : Valve) : (x.zeroed).effectGen = none := rfl
@[simp] theorem Valve.zeroed_awaitedGen (x : Valve) : (x.zeroed).awaitedGen = none := rfl
@[simp] theorem Valve.zeroed_hardLowRun (x : Valve) : (x.zeroed).hardLowRun = 0 := rfl
@[simp] theorem Valve.zeroed_lastNet (x : Valve) : (x.zeroed).lastNet = x.lastNet := rfl
@[simp] theorem Valve.zeroed_cansSeen (x : Valve) : (x.zeroed).cansSeen = x.cansSeen := rfl

@[simp] theorem ZeroAcc.cleared_sum (a : ZeroAcc) : (a.cleared).sum = 0 := rfl
@[simp] theorem ZeroAcc.cleared_n (a : ZeroAcc) : (a.cleared).n = 0 := rfl
@[simp] theorem ZeroAcc.cleared_overload (a : ZeroAcc) : (a.cleared).overload = false := rfl
@[simp] theorem ZeroAcc.cleared_quietStart (a : ZeroAcc) : (a.cleared).quietStart = a.quietStart := rfl

@[simp] theorem sendMessage_base (m : Message) (s : State) : (sendMessage m s).dose.base = s.dose.base := rfl
@[simp] theorem sendMessage_limit (m : Message) (s : State) : (sendMessage m s).dose.limit = s.dose.limit := rfl
@[simp] theorem sendMessage_served (m : Message) (s : State) : (sendMessage m s).dose.served = s.dose.served := rfl
@[simp] theorem sendMessage_trims (m : Message) (s : State) : (sendMessage m s).dose.trims = s.dose.trims := rfl
@[simp] theorem sendMessage_inflight (m : Message) (s : State) : (sendMessage m s).dose.inflight = s.dose.inflight := rfl
@[simp] theorem sendMessage_changeover (m : Message) (s : State) : (sendMessage m s).dose.changeover = s.dose.changeover := rfl
@[simp] theorem sendMessage_link (m : Message) (s : State) : (sendMessage m s).dose.link = s.dose.link := rfl
@[simp] theorem sendMessage_ack (m : Message) (s : State) : (sendMessage m s).dose.ack = some 400 := rfl
@[simp] theorem sendMessage_probe (m : Message) (s : State) : (sendMessage m s).dose.probe = s.dose.probe := rfl
@[simp] theorem sendMessage_rr (m : Message) (s : State) : (sendMessage m s).dose.rr = s.dose.rr := rfl

@[simp] theorem raiseNotice_exch_mem (n : Notice) (s : State) : (raiseNotice n s).exch.mem = s.exch.mem := rfl
@[simp] theorem raiseNotice_exch_notice (n : Notice) (s : State) :
    (raiseNotice n s).exch.notice = s.exch.notice ||| n.bit := rfl
@[simp] theorem raiseNotice_exch_mask (n : Notice) (s : State) : (raiseNotice n s).exch.mask = s.exch.mask := rfl
@[simp] theorem raiseNotice_exch_attn (n : Notice) (s : State) :
    (raiseNotice n s).exch.attn = decide ((s.exch.notice ||| n.bit) &&& s.exch.mask ≠ 0) := rfl
@[simp] theorem raiseNotice_exch_evWrite (n : Notice) (s : State) : (raiseNotice n s).exch.evWrite = s.exch.evWrite := rfl
@[simp] theorem raiseNotice_exch_dropCount (n : Notice) (s : State) : (raiseNotice n s).exch.dropCount = s.exch.dropCount := rfl
@[simp] theorem raiseNotice_exch_holdoff (n : Notice) (s : State) : (raiseNotice n s).exch.holdoff = s.exch.holdoff := rfl
@[simp] theorem raiseNotice_exch_suppressed (n : Notice) (s : State) :
    (raiseNotice n s).exch.suppressed = s.exch.suppressed := rfl
@[simp] theorem raiseNotice_exch_logIndex (n : Notice) (s : State) : (raiseNotice n s).exch.logIndex = s.exch.logIndex := rfl
@[simp] theorem raiseNotice_exch_wrapCount (n : Notice) (s : State) : (raiseNotice n s).exch.wrapCount = s.exch.wrapCount := rfl
@[simp] theorem raiseNotice_exch_timeTag (n : Notice) (s : State) : (raiseNotice n s).exch.timeTag = s.exch.timeTag := rfl

end Sys2Proof.Machine
end

