-- ==== Sys2Proof/Tests/Slice0.lean ====
section
/-! SUPPORT. Tests: the ill-formed terms, one step of worked examples of the manual for each family of commands, and for each
statement with hypotheses a state and operands that meet them. -/

namespace Sys2Proof.Tests

open Sys2Proof Sys2Proof.Machine

/-! ## Terms that are no command (WellFormed) -/

theorem test_a_short_store_record_is_ill_formed : (Instr.storeReadEnd [0]).wellFormed = false := by decide

theorem test_a_short_read_back_is_ill_formed : (Instr.storeWriteCompared []).wellFormed = false := by decide

theorem test_a_restart_without_bit_0_is_ill_formed : (Instr.restart 2).wellFormed = false := by decide

theorem test_an_ignored_write_to_notice_is_ill_formed : (Instr.registerWriteIgnored 0x4002 0).wellFormed = false := by decide

theorem test_an_ignored_restart_is_ill_formed : (Instr.registerWriteIgnored 0x4001 1).wellFormed = false := by decide

theorem test_a_memory_write_to_a_register_is_ill_formed :
    (Instr.hostMemoryWrite 0x4000 0).wellFormed = false ∧ (Instr.hostMemoryWrite 0x4001 0).wellFormed = false ∧
    (Instr.hostMemoryWrite 0x4002 0).wellFormed = false ∧ (Instr.hostMemoryWrite 0x4003 0).wellFormed = false := by decide

theorem test_an_overlong_line_end_is_ill_formed :
    (Instr.readerOverlong 0x0D).wellFormed = false ∧ (Instr.readerOverlong 0x0A).wellFormed = false := by decide

theorem test_a_carriage_return_is_no_plain_character : (Instr.readerCharacter 0x0D).wellFormed = false := by decide

/-! ## States to start from -/

/-- The state a command answers. -/
def after (c : Instr) (s : State) : State :=
  match exec c s with
  | .next t => t
  | .fault f => nomatch f
  | .refused _ => s

/-- L2417B. -/
def lotText : List Byte := [0x4C, 0x32, 0x34, 0x31, 0x37, 0x42]

/-- The recipe of the worked examples. -/
def recipe : Recipe :=
  { lotText := lotText, nominal := 333000, target := 336000, containerTare := 13500, hardDev := 20000, softDev := 10000
    overDev := 15000, rejectOver := true, softAllowance := 2, lotCanLimit := 0, lotMinutes := 0, valveCount := 96
    smoothing := 3, sampleMin := 8, deadband := 300, gain := 60, stepLimit := 500, trimLimit := 5000, clearTrims := false
    settle := 80, guard := 40, minSamples := 8, stability := 4000, maxDwell := 40, readTimeout := 50, codeRequired := true
    minGrade := .b, rejectPulse := 35, confirmWindow := 40, missingWindow := 60, zeroBand := 400, rest := [] }

/-- The calibration of the worked examples. -/
def goodCal : Calibration := { State.reset.cal with zc := 41200, f := 58000, zeroLimit := 300, changeCount := 6, state := .valid }

/-- A lot with nothing counted. -/
def lot : Lot :=
  { index := 12, text := lotText, start := 0, decided := 0, accepted := 0, rejected := 0, reasons := List.replicate 10 0
    softUsed := 0, allowance := 2, netSum := 0 }

/-- The part in RUN. -/
def running : State :=
  { State.reset with
    pins := { lineRun := true, calSwitch := false, resetHeld := false }
    part := { state := .run, cause := none, stopReq := false }
    weigh := { State.reset.weigh with z := 41250 }
    cal := goodCal
    recipes := { State.reset.recipes with active := some recipe, activeLot := some lot } }

/-- The part in a state other than RUN, the line at rest. -/
def resting (p : PartState) : State :=
  { running with
    pins := { lineRun := false, calSwitch := false, resetHeld := false }
    part := { state := p, cause := none, stopReq := false } }

/-- The part stopped by a failed reject. -/
def failed : State :=
  { running with part := { state := .faultStop, cause := some .rejectFailed, stopReq := true } }

/-- At a time tag. -/
def atTag (t : Word) (s : State) : State := { s with exch := { s.exch with timeTag := t } }

/-- With words in the memory. -/
def withWords (a : Nat) (ws : List Word) (s : State) : State := { s with exch := s.exch.write a ws }

/-- A FILLER entry. -/
def entry (serial : Nat) (st : Stage) : Entry :=
  { serial := serial, origin := .filler, valve := some 33, generation := some 40, genKnown := some true, recipe := .active
    stage := st, attribution := some .exact, read := some (.code true 7 .a), readOpen := false, weighing := none, net := none
    zone := none, decision := none, reasons := 0, countedLot := none, dischargeTag := none, outTag := none, deadline := none }

/-- With the entries of the track. -/
def withEntries (l : List Entry) (s : State) : State := { s with track := { s.track with entries := l } }

/-- With pending reads of a time left, unbound. -/
def withReads (l : List Nat) (s : State) : State :=
  { s with track := { s.track with reads := l.map (fun k => { eyeTag := 0, left := k, bound := none }) } }

/-- An open weighing. -/
def weighing (tag : Word) : Weighing := { inTag := tag, double := false, interrupted := false }

/-- With the open weighings. -/
def withPlatform (l : List Weighing) (s : State) : State := { s with weigh := { s.weigh with platform := l } }

/-- A code message in the assembler of the reader link. -/
def withReaderAsm (a : ReaderAsm) (s : State) : State := { s with reader := { s.reader with asm := a } }

/-- A frame at its check byte in the assembler of the filler link; the check byte that makes the sum 0 is 0 − sum. -/
def withFrame (kind : Byte) (payload : List Byte) (sum : Byte) (s : State) : State :=
  { s with filler := { s.filler with
    asm := .check, kind := kind, len := 3, payload := payload, sum := sum, gap := some 10 } }

/-- A message of one valve. -/
def message : Message :=
  { generation := 41, base := none, limit := none, clear := false, list := [(17, 1506)], changeover := false }

/-- With the Dose Table SYNCED at a generation, and a message in flight. -/
def withDose (served : Option Gen) (m : Option Message) (link : LinkState) (s : State) : State :=
  { s with dose := { s.dose with served := served, inflight := m, link := link } }

/-- A valve of the worked example of Valve Control. -/
def valve17 : Valve :=
  { state := .averaging, avg := -8000, n := 7, effectGen := some 33, awaitedGen := none, hardLowRun := 0, lastNet := 334900
    cansSeen := 1902 }

/-- A calibration averaging with its number and sum. -/
def calAveraging (kind : CalKind) (arg n : Nat) (sum : Int) (low high : Int) : CalAveraging :=
  { kind := kind, arg := arg, avg := { sum := sum, n := n, low := some low, high := some high, overload := false } }

/-! ## Start-up and resets (10, Worked example: start-up to the first run) -/

theorem test_clearing_ends_with_STATE_CHANGE_1_0_CLEARED :
    let t := after .clearingComplete State.reset
    t.part.state = .loading ∧ hostRead t 0x0480 = 0x00010080 ∧ hostRead t 0x0482 = 0 ∧ hostRead t 0x0483 = 1 := by
  decide

theorem test_a_good_record_is_loaded :
    let t := after (.storeReadEnd (storeRecord goodCal)) (resting .loading)
    t.part.state = .config ∧ t.cal.state = .valid ∧ t.cal.f = 58000 ∧ t.weigh.z = 41200 ∧ hostRead t 0x0480 = 0x00020080 := by
  decide

theorem test_a_blank_store_raises_STORE_BLANK :
    let t := after (.storeReadEnd (List.replicate 32 0xFF)) { resting .loading with cal := State.reset.cal }
    t.part.state = .config ∧ t.cal.state = .none ∧ t.exch.evWrite = 2 := by decide

theorem test_a_held_reset_reads_0_until_its_release :
    let t := after .fullReset running
    t.part.state = .clearing ∧ hostRead t 0x4000 = 0 ∧ hostRead (tick t) 0x4000 = 0x4C480481 := by decide

theorem test_restart_empties_the_track_and_returns_to_run :
    let t := after (.restart 1) (withEntries [entry 7 .read] running)
    t.part.state = .run ∧ t.track.entries = [] ∧ t.weigh.z = 41200 ∧ t.recipes.nextLot = 2 := by decide

/-! ## Host writes and time (11, Worked example: one scan over five slots; 12) -/

theorem test_a_write_to_a_taken_slot_is_refused :
    let s := { resting .stopped with orders := { scan := none, taken := [(3, .weigh)] } }
    let t := after (.hostMemoryWrite 0x0070 0) s
    hostRead t 0x0480 % 65536 = BitVec.ofNat 32 EventKind.hostWriteRefused.code ∧ hostRead t 0x0480 / 65536 = 0x0070 ∧
    t.exch.holdoff = some 10 := by decide

theorem test_a_write_to_a_host_line_is_taken : hostRead (after (.hostMemoryWrite 0x0FFF 5) running) 0x0FFF = 5 := by
  decide

theorem test_notice_bits_are_cleared_by_ones :
    (after (.noticeClear 2) { running with exch := { running.exch with notice := 3#5 } }).exch.notice = 1#5 := by
  decide

theorem test_unmasking_a_pending_class_raises_ATTN :
    (after (.noticeMaskWrite 2) { running with exch := { running.exch with notice := 2#5 } }).exch.attn = true := by
  decide

theorem test_a_write_to_IDENT_changes_nothing : hostRead (after (.registerWriteIgnored 0x4000 5) running) 0x4000 = 0x4C480481 := by
  decide

theorem test_time_wrap_is_tagged_0 :
    let t := after .timeWrap (atTag 0xFFFFFFFF running)
    t.exch.timeTag = 0 ∧ hostRead t 0x0481 = 0 ∧ hostRead t 0x0480 = BitVec.ofNat 32 EventKind.timeWrap.code := by
  decide

/-! ## The Weigh Channel (01, Worked examples) -/

/-- The twelve samples of the worked example, and one on each side of the window. -/
def examplesamples : List Sample :=
  [(10078, 1), (10081, 436910), (10083, 434020), (10086, 436319), (10088, 434903), (10091, 435737), (10093, 435412),
   (10096, 435948), (10098, 434805), (10101, 435625), (10103, 435197), (10106, 436013), (10108, 435195), (10111, 1)].map
    (fun p => { count := p.2, tag := BitVec.ofNat 32 p.1, overload := false })

theorem test_the_worked_weighing_gives_348921_mg :
    let s := atTag 10150 (withPlatform [weighing 10000] (withEntries [entry 102 .onPlatform] running))
    let t := after .platformOutArrival { s with weigh := { s.weigh with samples := examplesamples } }
    t.track.entries.map (fun e => (e.weighing, e.net, e.zone, e.decision)) =
      [(some (.gross 348921), some 335421, some .good, some .accept)] ∧
    t.weigh.platform = [] ∧ t.weigh.acc.quietStart = 10150 := by decide

theorem test_a_second_can_marks_both_DOUBLE :
    let t := after .platformInArrival (atTag 20120 (withPlatform [weighing 20000] (withEntries [entry 9 .read] running)))
    t.weigh.platform.map (fun w => (w.inTag, w.double)) = [(20000, true), (20120, true)] := by decide

theorem test_a_candidate_moves_Z_by_an_eighth :
    (takeCandidate 41331 running).weigh.z = 41260 ∧
    (takeCandidate 41245 { running with weigh := { running.weigh with z := 41260 } }).weigh.z = 41259 ∧
    (takeCandidate 41900 { running with weigh := { running.weigh with z := 41259 } }).weigh.refusals = 1 ∧
    (takeCandidate 41540 { running with weigh := { running.weigh with z := 41496 } }).weigh.z = 41500 := by decide

theorem test_a_negative_mean_rounds_away : roundAway (-7) 2 = -4 := by decide

theorem test_the_span_calibration_gives_57996 :
    let s := { resting .stopped with cal := { goodCal with
      averaging := some (calAveraging .span 500000 255 154593750 604880 607710), held := some 0 } }
    let t := after (.sampleArrival 606250) s
    t.cal.f = 57996 ∧ t.cal.changeCount = 7 ∧ t.cal.averaging = none ∧ t.cal.held = some 0 ∧ t.cal.state = .valid := by
  decide

theorem test_an_equal_read_back_finishes_the_order :
    let s := { resting .stopped with cal := { goodCal with
      changeCount := 7, store := .writing 140 (storeRecord goodCal), held := some 0 } }
    let t := after (.storeWriteCompared (storeRecord goodCal)) s
    t.cal.lastWrite = .saved ∧ t.cal.store = .idle ∧ hostRead t 0x0040 = 3 ∧ hostRead t 0x0049 = 7 := by decide

theorem test_the_store_timer_leaves_the_order_unsaved :
    let s := { resting .stopped with cal := { goodCal with store := .writing 0 (storeRecord goodCal), held := some 0 } }
    let t := after .storeTimerExpiry s
    t.cal.lastWrite = .failed ∧ hostRead t 0x0040 = 3 ∧ hostRead t 0x0048 = BitVec.ofNat 32 Outcome.doneUnsaved.code := by
  decide

theorem test_a_silent_converter_stops_the_line :
    let t := after .converterWatchExpiry { running with weigh := { running.weigh with watch := some 0 } }
    t.part = { state := .faultStop, cause := some .converterFault, stopReq := true } := by decide

theorem test_CAL_SWITCH_turned_off_ends_the_averaging :
    let s := { resting .stopped with
      pins := { lineRun := false, calSwitch := true, resetHeld := false }
      cal := { goodCal with averaging := some (calAveraging .span 500000 3 0 0 0), held := some 2 } }
    let t := after .calSwitchOff s
    t.cal.averaging = none ∧ hostRead t 0x0060 = 4 ∧ hostRead t 0x0068 = BitVec.ofNat 32 Outcome.switchOff.code := by
  decide

/-! ## Part Control and the Can Track (10, 03) -/

theorem test_a_line_fall_holds_the_deadlines :
    let t := after .lineRunFall (withReads [380] running)
    t.part.state = .stopped ∧ (tick t).track.reads.map (·.left) = [380] := by decide

theorem test_a_line_rise_starts_the_deadlines :
    let t := after .lineRunRise (withReads [380] (resting .stopped))
    t.part.state = .run ∧ (tick t).track.reads.map (·.left) = [379] := by decide

theorem test_a_dwelling_can_jams :
    let s := withPlatform [weighing 5] running
    let t := after .jamTimerExpiry { s with weigh := { s.weigh with jam := .running 0 40 } }
    t.part.cause = some .platformJam ∧ hostRead t 0x0482 = 5 ∧ hostRead t 0x0483 = 40 := by decide

theorem test_a_reader_eye_loads_500_units :
    (after .readerEyeArrival (atTag 5000 running)).track.reads.map (fun p => (p.eyeTag, p.left)) = [(5000, 500)] := by
  decide

theorem test_mark_102_leaves_101_lost :
    let s := withReaderAsm (.collecting (lotText ++ [0x3B, 0x31, 0x30, 0x32, 0x3B, 0x41]))
      (withReads [440] (withEntries [entry 101 .transit, entry 102 .transit, entry 103 .transit] running))
    let t := after .readerMessage s
    t.track.entries.map (fun e => (e.serial, e.stage)) = [(102, .read), (103, .transit)] ∧ t.exch.logIndex = 1 ∧
    hostRead t 0x0482 = 101 ∧ hostRead t 0x0483 = 102 := by decide

theorem test_mark_517_is_unmatched :
    let s := withReaderAsm (.collecting (lotText ++ [0x3B, 0x35, 0x31, 0x37, 0x3B, 0x41]))
      (withReads [440] (withEntries [entry 104 .read, entry 105 .transit]
        { running with track := { running.track with nextSerial := 106 } }))
    (after .readerMessage s).track.entries.map (fun e => (e.serial, e.attribution)) =
      [(104, some .exact), (106, some .mismatch), (105, some .exact)] := by decide

theorem test_an_expired_read_binds_by_position :
    let t := after .readDeadlineExpiry (withReads [0] (withEntries [entry 104 .transit, entry 105 .transit] running))
    t.track.entries.map (fun e => (e.stage, e.attribution)) = [(.read, some .positional), (.transit, some .exact)] ∧
    t.track.reads = [] := by decide

/-! ## The links (04, 05, Worked examples) -/

theorem test_a_two_digit_mark_fails_step_3 :
    (match parseCode (lotText ++ [0x3B, 0x31, 0x30, 0x3B, 0x41]) with | .error k => k | .ok _ => 0) = 3 := by decide

theorem test_the_struck_line_discards_three_characters :
    let t := after (.readerFramingError false) (withReaderAsm (.collecting [0x4C, 0x32, 0x34]) running)
    hostRead t 0x0480 / 65536 = 1 ∧ hostRead t 0x0482 = 3 ∧ t.reader.asm = .skipping .charError true := by decide

theorem test_the_41st_character_is_overlong :
    (after (.readerOverlong 0x78) (withReaderAsm (.collecting (List.replicate 40 0x78)) running)).reader.asm =
      .skipping .overlong false := by decide

theorem test_a_reader_character_is_kept :
    (after (.readerCharacter 0x4C) running).reader.asm = .collecting [0x4C] := by decide

theorem test_the_discharge_of_valve_17 :
    let t := after (.dischargeFrame 0xB3) (withFrame 0x11 [0x11, 0x00, 0x28] 0x4D running)
    t.track.entries.map (fun e => (e.valve, e.generation, e.stage)) = [(some 17, some 40, .transit)] := by decide

theorem test_a_discharge_of_valve_129_is_bad :
    let t := after (.dischargeFrame 0x42) (withFrame 0x11 [0x81, 0x00, 0x29] 0xBE
      { running with track := { running.track with nextSerial := 311 } })
    t.track.entries.map (·.valve) = [none] ∧ hostRead t 0x0480 / 65536 = 129 ∧ hostRead t 0x0482 = 41 ∧
    hostRead t 0x0483 = 311 := by decide

theorem test_the_update_frame_of_generation_41 :
    updateFrame { message with list := [(17, 1506), (40, -250)] } =
      [0xC3, 0x21, 0x0A, 0x00, 0x29, 0x00, 0x02, 0x11, 0x05, 0xE2, 0x28, 0xFF, 0x06, 0x85] := by decide

theorem test_a_parity_error_discards_four_bytes :
    let s := { running with filler := { running.filler with asm := .payload, kind := 0x11, len := 3, payload := [0x2C] } }
    let t := after (.fillerErroredCharacter { data := 0x2C, parity := false, stopIdle := true, held := false }) s
    hostRead t 0x0480 / 65536 = 1 ∧ hostRead t 0x0482 = 3 ∧ hostRead t 0x0483 = 4 ∧ t.filler.asm = .hunt := by decide

theorem test_a_low_stop_bit_is_judged_before_the_parity :
    (judgeCharacter { data := 0x2C, parity := false, stopIdle := false, held := true },
      judgeCharacter { data := 0x2C, parity := true, stopIdle := true, held := false }) =
      (some .lineBreak, none) := by decide

theorem test_the_gap_timer_discards_four_bytes :
    let s := { running with filler := { running.filler with
      asm := .payload, kind := 0x12, len := 3, payload := [0x00], gap := some 0 } }
    let t := after .gapTimerExpiry s
    hostRead t 0x0480 / 65536 = 4 ∧ hostRead t 0x0482 = 0x12 ∧ hostRead t 0x0483 = 4 := by decide

theorem test_a_byte_in_a_full_buffer_overruns :
    let s := { running with filler := { running.filler with asm := .payload, len := 80, payload := List.replicate 72 0 } }
    hostRead (after (.fillerBufferOverrun 1) s) 0x0483 = 75 := by decide

theorem test_a_lead_byte_opens_a_frame :
    let t := after (.fillerCharacter 0xC3) running
    t.filler.asm = .kind ∧ t.filler.gap = some 10 ∧ (after (.fillerCharacter 0x5A) running).filler.asm = .hunt := by
  decide

theorem test_a_wrong_check_byte_is_reported_first :
    hostRead (after (.badFrameCompleted 0) (withFrame 0x77 [1, 2, 3] 1 running)) 0x0480 / 65536 = 1 := by decide

theorem test_a_frame_end_starts_the_waiting_frame :
    let s := { running with filler := { running.filler with tx := .sending [1] 1100, waiting := some [2, 3] } }
    (after .transmitFrameEnd s).filler.tx = .sending [2, 3] 0 := by decide

theorem test_a_break_end_frees_the_receiver :
    (after (.breakEnd .reader) { running with reader := { receiver := .heldLow, asm := .idle, tx := .idle } }).reader.receiver = .waiting := by
  decide

/-! ## The reject station (06, Worked example) -/

/-- Entry 412, decided. -/
def rejected412 (st : Stage) : Entry :=
  { entry 412 st with
    weighing := some (.gross 322500), net := some 309000, zone := some .hardLow, decision := some .reject, reasons := 1
    read := some (.code true 412 .a), outTag := some 30600, deadline := some 150 }

theorem test_a_second_fire_reloads_the_pulse :
    let s := { withEntries [rejected412 .weighed] running with reject := { actuator := .firing 50, drive := true } }
    let t := after .rejectEyeArrival s
    t.reject = { actuator := .firing 350, drive := true } ∧ t.track.entries.map (·.deadline) = [some 400] := by decide

theorem test_the_pulse_ends :
    (after .pulseTimerExpiry { running with reject := { actuator := .firing 0, drive := true } }).reject.drive = false := by
  decide

theorem test_the_failed_reject_of_412 :
    let t := after .confirmEyeArrival (withEntries [rejected412 .pastReject] running)
    t.part.cause = some .rejectFailed ∧ t.part.stopReq = true ∧ hostRead t 0x0480 / 65536 = 33 ∧ hostRead t 0x0482 = 412 ∧
    hostRead t 0x0483 = 30600 ∧ hostRead t 0x1003 = 322500 ∧ hostRead t 0x1004 = 309000 ∧ hostRead t 0x1005 = 1 := by
  decide

theorem test_a_deadline_removes_a_reject :
    let t := after .pastRejectDeadlineExpiry (withEntries [{ rejected412 .pastReject with deadline := some 0 }] running)
    t.track.entries = [] ∧ hostRead t 0x1000 = 412 := by decide

/-! ## Valve Control and the Dose Unit (07, 08, Worked examples) -/

/-- Entry 5,117. -/
def entry5117 : Entry :=
  { entry 5117 .weighed with
    valve := some 17, weighing := some (.gross 348921), net := some 335421, zone := some .good, decision := some .accept }

/-- Valve 17 before entry 5,117. -/
def beforeBlockEnd : State :=
  { withDose (some 40) none .up running with
    valves := { running.valves with table := setNumbered running.valves.table 17 valve17 }
    dose := { (withDose (some 40) none .up running).dose with
      trims := setNumbered running.dose.trims 17 { wanted := 1200, served := 1200 } } }

theorem test_the_block_end_of_valve_17 :
    let t := offerCan entry5117 beforeBlockEnd
    valveAt t 17 = { valve17 with state := .waitEffect, avg := -8158, n := 0, lastNet := 335421, cansSeen := 1903 } ∧
    trimAt t 17 = { wanted := 1506, served := 1200 } := by decide

theorem test_a_seeded_valve_ends_a_block_of_one :
    let s := { beforeBlockEnd with
      recipes := { running.recipes with active := some { recipe with sampleMin := 1 } }
      valves := { running.valves with table := setNumbered running.valves.table 17 { valve17 with n := 1 } } }
    (valveAt (averageCan 17 335421 s) 17).n = 0 := by decide

theorem test_a_quotient_tie_rounds_toward_zero :
    correction { recipe with gain := 10 } (-400) = 2 ∧ correction { recipe with gain := 10 } 400 = -2 ∧
    correction recipe (-8158) = 306 := by decide

theorem test_a_pulse_sends_update_42 :
    let s := withDose (some 41) none .up running
    let t := after .fillerIndexArrival { s with dose := { s.dose with
      rr := 40
      trims := setNumbered (setNumbered (setNumbered s.dose.trims 5 { wanted := -300, served := -180 }) 17
        { wanted := 1650, served := 1506 }) 63 { wanted := 420, served := 0 } } }
    t.dose.inflight = some
      { generation := 42, base := none, limit := none, clear := false, list := [(63, 420), (5, -300), (17, 1650)]
        changeover := false } ∧ t.dose.ack = some 400 := by decide

theorem test_an_applied_ack_serves :
    let s := withFrame 0x12 [0x00, 0x29, 0x01] 0x3F (withDose (some 40) (some message) .up running)
    let t := after (.doseAckFrame 0xC1) { s with dose := { s.dose with limit := 5000 } }
    t.dose.served = some 41 ∧ (trimAt t 17).served = 1506 ∧ t.dose.rr = 17 ∧ t.dose.inflight = none := by decide

theorem test_a_lost_ack_moves_to_RETRY_then_DOWN :
    let s := withDose (some 41) (some message) .up running
    let t := after .ackTimerExpiry { s with dose := { s.dose with ack := some 0 } }
    t.dose.link = .retry ∧ (after .ackTimerExpiry { t with dose := { t.dose with ack := some 0 } }).dose.link = .down := by
  decide

/-! ## Lots and orders (09, 11, Worked examples) -/

theorem test_a_minute_step_counts_down :
    let s := withWords 0x00C1 [2] { running with recipes := { running.recipes with
      active := some { recipe with lotMinutes := 2 }, fine := 0 } }
    let t := after .lotMinuteStep s
    hostRead t 0x00C1 = 1 ∧ t.recipes.fine = 600 := by decide

theorem test_a_held_fine_count_steps_with_the_first_unit_of_RUN :
    let s := fun (u : State) => withWords 0x00C1 [2] { u with recipes := { running.recipes with
      active := some { recipe with lotMinutes := 2 }, fine := 0 } }
    hostRead (after .lotMinuteStep (s (resting .stopped))) 0x00C1 = 2 ∧
    (tick (s running)).pending = [.lotMinuteStep] := by decide

theorem test_the_scan_over_five_slots :
    let s := atTag 400000 (withWords 0x0040 [1, 12] (withWords 0x0060 [1, 11] (withWords 0x0070 [1, 3] (withWords 0x00A0 [1, 14]
      (withPlatform [weighing 1] (withEntries ([1, 2, 3, 4, 5, 6].map (fun k => entry k .onPlatform)) failed))))))
    let t := after (.orderScan false) { s with
      pins := { lineRun := false, calSwitch := false, resetHeld := false }, orders := { scan := some 0, taken := [] } }
    [0x0040, 0x0048, 0x0049, 0x0060, 0x0069, 0x0070, 0x00A0, 0x00A8, 0x00A9].map (hostRead t) = [3, 0, 1, 3, 6, 2, 4, 16, 14] ∧
    t.part.state = .stopped ∧ t.track.entries = [] ∧ t.weigh.zeroSet.isSome = true := by decide

/-! ## The event queue (12, Worked example) -/

theorem test_the_queue_at_its_limit :
    let e := { (State.reset.exch.write 0x00C0 [10]) with evWrite := 8 }
    let f := e.event .lotClosed 0 0 0
    let g := f.event .stateChange 0 0 0
    f.evWrite = 9 ∧ f.dropCount = 0 ∧ g.evWrite = 9 ∧ g.dropCount = 1 ∧ g.read 0x00C2 = 1 ∧ g.notice = 2#5 := by
  decide

/-! ## Witnesses: states and operands that meet the hypotheses of each statement, clause by clause -/

/-- PartOwns where no slot is taken. -/
theorem partOwns_with_no_slot_taken {s : State} {a : Nat} (h : s.orders.taken = []) :
    PartOwns s a ↔ a ≤ 0x003F ∨ (0x0180 ≤ a ∧ a ≤ 0x01FF) ∨ (0x0200 ≤ a ∧ a ≤ 0x027F) ∨ (0x0280 ≤ a ∧ a ≤ 0x02BF) ∨
      (0x0300 ≤ a ∧ a ≤ 0x03FF) ∨ (0x0400 ≤ a ∧ a ≤ 0x043F) ∨ (0x0440 ≤ a ∧ a ≤ 0x044F) ∨ (0x0480 ≤ a ∧ a ≤ 0x057F) ∨
      (0x0600 ≤ a ∧ a ≤ 0x060F) ∨ (0x0610 ≤ a ∧ a ≤ 0x0A0F) ∨ (0x0A40 ≤ a ∧ a ≤ 0x0A4F) ∨ (0x1000 ≤ a ∧ a ≤ 0x2FFF) := by
  simp [PartOwns, h]

theorem witness_AUnitOfTimePasses :
    let moving := { withReads [1] running with exch := { running.exch with timeTag := 0xFFFFFFFF, holdoff := some 1 } }
    (running.pending = [] ∧ running.pins.resetHeld = false ∧ running.pins.lineRun = true) ∧
    (moving.pending = [] ∧ moving.pins.resetHeld = false ∧ moving.pins.lineRun = true) ∧
    ((resting .stopped).pending = [] ∧ (resting .stopped).pins.resetHeld = false ∧
      (resting .stopped).pins.lineRun = false) ∧
    (∀ phase ∈ [998, 999],
      let s := { running with recipes := { running.recipes with
        active := some { recipe with lotMinutes := 2 }, fine := 600, finePhase := phase } }
      s.pending = [] ∧ s.pins.resetHeld = false ∧ s.part.state = .run ∧ (activeRecipe s).lotMinutes ≠ 0) := by decide

theorem witness_AnEventIsWrittenOrDropped :
    (let e := { State.reset.exch with evWrite := (62 : Fin 64) }
     (e.evWrite.val + 1) % 64 ≠ (e.read 0x00C0).toNat % 64) ∧
    (let e := { State.reset.exch with evWrite := (63 : Fin 64) }
     (e.evWrite.val + 1) % 64 = (e.read 0x00C0).toNat % 64) := by decide

theorem witness_ACanLogRecordIsPlacedAndReadable :
    let x := { entry 7 .weighed with
      valve := some 128, read := some (.code true 999 .f), weighing := some (.gross 2000000), net := some 2147483647 }
    x.valve.getD 0 ≤ 128 ∧ markCode x.read ≤ 999 ∧ x.weighing = some (.gross 2000000) ∧
    x.net = some (2147483647 : Int) := by decide

theorem witness_TheHostSeesEveryBlock :
    running.part.state ≠ .clearing ∧ running.pins.resetHeld = false ∧ running.recipes.active = some recipe ∧
    running.recipes.retiring = none ∧ running.recipes.activeLot = some lot ∧ running.recipes.retiringLot = none ∧
    (let s := { running with recipes := { running.recipes with retiring := some recipe, retiringLot := some lot } }
     s.part.state ≠ .clearing ∧ s.pins.resetHeld = false ∧ s.recipes.retiring = some recipe ∧
     s.recipes.retiringLot = some lot) := by decide

theorem witness_FullResetAndClearing :
    State.reset.part.state = .clearing ∧ State.reset.exch.evWrite = 0 ∧
    (after .fullReset running).pins.resetHeld = true ∧ (after .fullReset running).pending = [] ∧
    (after .fullReset running).part.state = .clearing := by decide

theorem witness_TheStoredRecordIsLoaded :
    let good := storeRecord goodCal
    let blank : List Byte := List.replicate 32 0xFF
    let num := fun a k => bytesNat ((good.drop a).take k)
    let c := { goodCal with zc := -2147483648, f := 4194303, zeroLimit := 200000, changeCount := 4294967295 }
    let d := { goodCal with state := .zeroOnly, zc := 2147483647, f := 0 }
    ((resting .loading).part.state = .loading ∧ good.length = 32 ∧ good.take 4 = [0x5A#8, 0x3C#8, 0x01#8, 0x48#8] ∧
      halfwordSum good % 65536 = 0 ∧ num 20 2 = 2 ∧ (∀ b ∈ (good.drop 22).take 8, b = 0) ∧ num 12 4 ≤ 200000 ∧
      1 ≤ num 8 4 ∧ num 8 4 ≤ 4194303 ∧ blank.length = 32 ∧ blank.take 4 ≠ [0x5A#8, 0x3C#8, 0x01#8, 0x48#8]) ∧
    (c.state = .valid ∧ -2147483648 ≤ c.zc ∧ c.zc ≤ 2147483647 ∧ c.zeroLimit ≤ 200000 ∧ c.changeCount ≤ 4294967295 ∧
      1 ≤ c.f ∧ c.f ≤ 4194303) ∧
    (d.state = .zeroOnly ∧ -2147483648 ≤ d.zc ∧ d.zc ≤ 2147483647 ∧ d.f = 0 ∧ d.zeroLimit ≤ 200000 ∧
      d.changeCount ≤ 4294967295) := by decide

theorem witness_RestartResetsTheBlocks :
    (1#32).getLsbD 0 = true ∧ State.reset.part.state = .clearing ∧
    ((resting .config).part.state = .config ∧ ({ resting .config with cal := State.reset.cal }).cal.state ≠ .valid) ∧
    (running.cal.state = .valid ∧ running.recipes.active.isSome = true ∧ running.weigh.converter = .live) ∧
    (let s := { failed with weigh := { failed.weigh with converter := .silent } }
     s.part.state = .faultStop ∧ s.cal.state = .valid ∧ s.recipes.active.isSome = true ∧ s.weigh.converter = .silent) := by
  decide

theorem witness_HostWritesAndExchangeTimersAct :
    (running.part.state ≠ .clearing ∧ (0x4001#32 : Word) = 0x4001#32 ∧ (0xFFFFFFFE#32).getLsbD 0 = false) ∧
    ({ running with exch := { running.exch with holdoff := some 0 } }).exch.holdoff = some 0 ∧
    (atTag 0xFFFFFFFF running).exch.timeTag = 0xFFFFFFFF#32 ∧
    State.reset.part.state = .clearing ∧ 0x4004 ≤ (0x4004#32).toNat ∧
    (running.part.state ≠ .clearing ∧ ¬PartOwns running 0x0040 ∧ ¬PartOwns running 0x017F ∧ ¬PartOwns running 0x3FFF) ∧
    (PartOwns running 0x003F ∧ PartOwns running 0x0180 ∧ PartOwns running 0x2FFF ∧ running.exch.holdoff = none) ∧
    (let s := { running with exch := { running.exch with holdoff := some 1 } }
     s.part.state ≠ .clearing ∧ PartOwns s 0x1000 ∧ s.exch.holdoff = some 1) := by
  have h : running.orders.taken = [] := rfl
  refine ⟨by decide, by decide, by decide, by decide, by decide, ⟨by decide, ?_, ?_, ?_⟩, ⟨?_, ?_, ?_, by decide⟩,
    ⟨by decide, ?_, by decide⟩⟩ <;>
    rw [partOwns_with_no_slot_taken (by rfl)] <;> decide

theorem witness_LineRunMovesThePart :
    (let s := withPlatform [weighing 0] (resting .stopped)
     s.part.state = .stopped ∧ s.weigh.zeroSet = none ∧ s.cal.averaging = none ∧ s.weigh.platform ≠ []) ∧
    running.part.state = .run ∧ (resting .config).part.state = .config ∧ failed.part.state = .faultStop := by decide

theorem witness_EventsEndTheAveragings :
    let c := calAveraging .span 500000 3 0 0 0
    let e := entry 7 .read
    let calibrating := fun p => withEntries [e] { resting p with cal := { goodCal with averaging := some c, held := some 2 } }
    let zeroing := withEntries [e]
      { resting .stopped with weigh := { running.weigh with zeroSet := some { slot := 2, avg := Averaging.fresh } } }
    (∀ p ∈ [PartState.config, .stopped], (calibrating p).cal.averaging.isSome = true ∧
      (calibrating p).cal.held = some (2 : Slot) ∧ (calibrating p).weigh.zeroSet = none ∧ (calibrating p).part.state = p) ∧
    ((calibrating .stopped).takesCans = true ∧ (calibrating .stopped).weigh.platform.length < 4 ∧
      oldestOf .read (calibrating .stopped) = some e) ∧
    (zeroing.weigh.zeroSet = some { slot := 2, avg := Averaging.fresh } ∧ zeroing.cal.averaging = none ∧
      zeroing.takesCans = true ∧ zeroing.weigh.platform.length < 4 ∧ oldestOf .read zeroing = some e ∧
      zeroing.part.state = .stopped) := by decide

theorem witness_ConverterAndJamFaultsStopThePart :
    let silent := fun (s : State) => { s with weigh := { running.weigh with watch := some 0 } }
    let jammed := fun k => { withPlatform [weighing 5] running with weigh := { (withPlatform [weighing 5] running).weigh with
      jam := .running k 40 } }
    ((silent running).part.state = .run ∧ (silent running).weigh.watch = some 0) ∧
    ((silent (resting .config)).part.state = .config ∧ (silent (resting .config)).weigh.watch = some 0) ∧
    ((jammed 0).part.state = .run ∧ (jammed 0).weigh.platform = [weighing 5] ∧ (jammed 0).weigh.jam = .running 0 40 ∧
      (jammed 1).weigh.jam = .running 1 40) ∧
    (let s := { jammed 0 with cal := { goodCal with store := .writing 20 [], held := some 3 } }
     s.part.state = .run ∧ s.weigh.jam = .running 0 40 ∧ s.cal.held = some (3 : Slot) ∧ s.cal.store ≠ .idle) := by decide

/-- An averaging before its last sample. -/
def lastButOne (n : Nat) (sum low high : Int) : Averaging :=
  { sum := sum, n := n, low := some low, high := some high, overload := false }

theorem witness_ASampleIsRecorded :
    let s := { running with weigh := { running.weigh with samples := List.replicate 64 { count := 1, tag := 2, overload := false } } }
    let tracks := fun (n : Nat) (loud : Bool) (tag : Word) => atTag tag { running with weigh := { running.weigh with
      tracking := true, acc := { sum := 63 * 41331, n := n, overload := loud, quietStart := 0 } } }
    let quiet := fun (u : State) => u.part.state ≠ .clearing ∧ u.weigh.zeroSet = none ∧ u.cal.averaging = none
    let adds := fun (u : State) => u.weigh.tracking = true ∧ 1 ≤ (u.exch.timeTag - u.weigh.acc.quietStart).toNat ∧
      (u.exch.timeTag - u.weigh.acc.quietStart).toNat ≤ 2147483647 ∧
      (activeRecipe u).settle < (u.exch.timeTag - u.weigh.acc.quietStart).toNat
    State.reset.part.state = .clearing ∧ (quiet s ∧ ¬adds s ∧ s.weigh.samples.length = 64) ∧
    (quiet (tracks 0 false 80) ∧ ¬adds (tracks 0 false 80)) ∧
    (quiet (tracks 62 false 81) ∧ adds (tracks 62 false 81) ∧ (tracks 62 false 81).weigh.acc.n + 1 < 64) ∧
    (adds (tracks 63 true 81) ∧ 64 ≤ (tracks 63 true 81).weigh.acc.n + 1 ∧ (tracks 63 true 81).weigh.acc.overload = true) ∧
    (adds (tracks 63 false 81) ∧ (tracks 63 false 81).weigh.acc.overload = false ∧
      ¬((41331#24 : BitVec 24) = 0x800000#24 ∨ (41331#24 : BitVec 24) = 0x7FFFFF#24) ∧
      NearestAway (63 * 41331 + (41331#24 : BitVec 24).toInt) 64 41331) ∧
    (activeRecipe running).zeroBand < (41651 - running.weigh.z).natAbs ∧
    (let z : ZeroSet := ⟨3, lastButOne 62 (62 * 41268) 41268 41268⟩
     let u := { resting .stopped with weigh := { running.weigh with zeroSet := some z } }
     u.part.state ≠ .clearing ∧ u.weigh.tracking = false ∧ u.weigh.zeroSet = some z ∧ u.cal.averaging = none ∧
     z.avg.n + 1 < 64) ∧
    (let c := calAveraging .span 500000 254 154000000 604880 607710
     let u := { resting .stopped with cal := { goodCal with averaging := some c, held := some 0 } }
     u.part.state ≠ .clearing ∧ u.weigh.tracking = false ∧ u.weigh.zeroSet = none ∧ u.cal.averaging = some c ∧
     c.avg.n + 1 < 256) := by
  simp only [NearestAway]
  decide

theorem witness_ACandidateWithinTheBandMovesZ :
    (41650 - running.weigh.z).natAbs ≤ (activeRecipe running).zeroBand ∧
    (let s := { running with weigh := { running.weigh with z := 41496 } }
     (41540 - s.weigh.z).natAbs ≤ (activeRecipe s).zeroBand ∧
     s.cal.zc + s.cal.zeroLimit < s.weigh.z + Int.tdiv (41540 - s.weigh.z) 8) ∧
    (let s := { running with weigh := { running.weigh with z := 40904 } }
     (40860 - s.weigh.z).natAbs ≤ (activeRecipe s).zeroBand ∧
     s.weigh.z + Int.tdiv (40860 - s.weigh.z) 8 < s.cal.zc - s.cal.zeroLimit) := by decide

/-- The averaging with a count has seen an extreme of the converter's range. -/
def loud (a : Averaging) (n : BitVec 24) : Bool := a.overload || decide (n = 0x800000#24) || decide (n = 0x7FFFFF#24)

/-- The spread of an averaging with a count. -/
def spreadWith (a : Averaging) (n : BitVec 24) : Int := max (a.high.getD n.toInt) n.toInt - min (a.low.getD n.toInt) n.toInt

theorem witness_AZeroSetCompletes :
    let s := fun (a : Averaging) => { resting .stopped with weigh := { running.weigh with zeroSet := some ⟨3, a⟩ } }
    let full := fun (a : Averaging) (count : BitVec 24) (cand : Int) =>
      (s a).part.state ≠ .clearing ∧ (s a).weigh.zeroSet = some ⟨3, a⟩ ∧ a.n = 63 ∧ (s a).weigh.tracking = false ∧
      (s a).cal.averaging = none ∧ NearestAway (a.sum + count.toInt) 64 cand
    let b := lastButOne 63 (63 * 41268) 41268 41268
    let c := lastButOne 63 (63 * 41501) 41501 41501
    (full b 0x7FFFFF 171695 ∧ loud b 0x7FFFFF = true) ∧
    (full b 45269 41331 ∧ loud b 45269 = false ∧ (activeRecipe (s b)).stability < spreadWith b 45269) ∧
    (full c 41501 41501 ∧ loud c 41501 = false ∧ spreadWith c 41501 ≤ (activeRecipe (s c)).stability ∧
      (s c).cal.zeroLimit < (41501 - (s c).cal.zc).natAbs) ∧
    (full b 45268 41331 ∧ loud b 45268 = false ∧ spreadWith b 45268 ≤ (activeRecipe (s b)).stability ∧
      (41331 - (s b).cal.zc).natAbs ≤ (s b).cal.zeroLimit) := by
  simp only [NearestAway]
  decide

theorem witness_ACalibrationCompletes :
    let c := fun k arg => calAveraging k arg 255 154593750 604880 607710
    let s := fun p (x : CalAveraging) st => { resting p with cal := { goodCal with
      averaging := some x, held := some 0, state := st } }
    let ends := fun (u : State) (x : CalAveraging) (count : BitVec 24) (mean : Int) => u.part.state ≠ .clearing ∧
      u.cal.averaging = some x ∧ x.avg.n = 255 ∧ u.cal.held = some (0 : Slot) ∧ u.weigh.tracking = false ∧
      u.weigh.zeroSet = none ∧ u.recipes.active = some recipe ∧ recipe.stability = 4000 ∧
      NearestAway (x.avg.sum + count.toInt) 256 mean
    let steady := fun (x : CalAveraging) (count : BitVec 24) => loud x.avg count = false ∧ spreadWith x.avg count ≤ 4000
    let light := { c .span 500000 with avg := { (c .span 500000).avg with sum := 255 * 42249, low := some 42249, high := some 42249 } }
    (ends (s .stopped (c .span 500000) .valid) (c .span 500000) 0x7FFFFF 636650 ∧
      loud (c .span 500000).avg 0x7FFFFF = true) ∧
    (ends (s .stopped (c .zero 200) .valid) (c .zero 200) 609000 606261 ∧ loud (c .zero 200).avg 609000 = false ∧
      4000 < spreadWith (c .zero 200).avg 609000) ∧
    (∀ st ∈ [CalState.none, .valid], ends (s .config (c .zero 200) st) (c .zero 200) 606250 606250 ∧
      steady (c .zero 200) 606250 ∧ (s .config (c .zero 200) st).cal.state = st) ∧
    (let u := s .config (c .span 500000) .zeroOnly
     ends u (c .span 500000) 606250 606250 ∧ steady (c .span 500000) 606250 ∧ u.cal.state ≠ .valid ∧
     u.part.state = .config ∧ u.recipes.active.isSome = true ∧ 1000 ≤ 606250 - u.weigh.z ∧
     NearestAway (500000 * 65536) (606250 - u.weigh.z).toNat 57996) ∧
    (ends (s .stopped (c .span 500000) .valid) (c .span 500000) 606250 606250 ∧
      (s .stopped (c .span 500000) .valid).cal.state = .valid) ∧
    (ends (s .stopped light .valid) light 42249 42249 ∧ steady light 42249 ∧
      42249 - (s .stopped light .valid).weigh.z < 1000) ∧
    (let u := { s .stopped { light with arg := 2000000 } .valid with weigh := { running.weigh with z := 41249 } }
     ends u { light with arg := 2000000 } 42249 42249 ∧ steady light 42249 ∧ 1000 ≤ 42249 - u.weigh.z ∧
     NearestAway (2000000 * 65536) (42249 - u.weigh.z).toNat 131072000) := by
  simp only [NearestAway]
  refine ⟨?_, ?_, ?_, ?_, ?_, ?_, ?_⟩ <;> decide

theorem witness_AStoreWriteEnds :
    let record := storeRecord goodCal
    (({ running with cal := { goodCal with store := .writing 0 record, held := some 0 } } : State).cal.store = .writing 0 record) ∧
    (({ running with cal := { goodCal with store := .writing 0 record } } : State).cal.held = none) ∧
    record ≠ List.replicate 32 0 := by decide

theorem witness_PlatformInOpensAWeighing :
    (let s := withPlatform (List.replicate 4 (weighing 1)) failed
     s.takesCans = true ∧ 4 ≤ s.weigh.platform.length) ∧
    (let s := withPlatform (List.replicate 3 (weighing 1)) (withEntries [entry 7 .read] running)
     s.takesCans = true ∧ s.weigh.platform.length < 4 ∧ s.weigh.zeroSet = none ∧ s.cal.averaging = none ∧
     oldestOf .read s = some (entry 7 .read) ∧ s.weigh.platform ≠ []) ∧
    (let s := withEntries [entry 7 .read] running
     s.weigh.platform = [] ∧ s.part.state = .run ∧ oldestOf .read s = some (entry 7 .read)) := by decide

set_option maxRecDepth 20000 in
theorem witness_ACanWithoutAReadGetsAnEntry :
    let e := entry 104 .transit
    let p : PendingRead := { eyeTag := 0, left := 440, bound := none }
    let b : PendingRead := { p with bound := some 3 }
    let s := fun reads entries => { withEntries entries running with track := { entries := entries, reads := reads, nextSerial := 300 } }
    let asks := fun (u : State) => u.weigh.platform.length < 4 ∧ oldestOf .read u = none ∧ u.takesCans = true ∧
      u.weigh.zeroSet = none ∧ u.cal.averaging = none
    (let u := s [b, p] [e]
     asks u ∧ u.track.reads = [b] ++ p :: [] ∧ b.bound ≠ none ∧ p.bound = none ∧ oldestOf .transit u = some e) ∧
    (let u := s [b, p] [entry 7 .weighed]
     asks u ∧ u.track.reads = [b] ++ p :: [] ∧ oldestOf .transit u = none ∧ u.track.entries.length < 256) ∧
    (let u := s [b] [e]
     asks u ∧ ∀ q ∈ u.track.reads, q.bound ≠ none) ∧
    (let u := s [] (List.replicate 256 e)
     asks u ∧ 256 ≤ u.track.entries.length ∧ oldestOf .transit u = some e ∧ u.recipes.retiring = none) ∧
    (let u := s [] (List.replicate 256 (entry 7 .weighed))
     asks u ∧ 256 ≤ u.track.entries.length ∧ oldestOf .transit u = none ∧
     u.track.entries.find? (fun x => decide (x.stage ≠ .onPlatform)) = some (entry 7 .weighed)) := by decide

theorem witness_PlatformOutClosesAWeighing :
    (running.takesCans = true ∧ running.weigh.platform = []) ∧
    (let e := { entry 7 .onPlatform with readOpen := true }
     let s := withPlatform [weighing 1] (withEntries [e] running)
     s.takesCans = true ∧ s.weigh.platform = [weighing 1] ∧ oldestOf .onPlatform s = some e ∧ e.readOpen = true) ∧
    (let e := entry 7 .onPlatform
     let s := withPlatform [weighing 1, weighing 2] (withEntries [e] running)
     s.takesCans = true ∧ s.weigh.platform = [weighing 1, weighing 2] ∧ oldestOf .onPlatform s = some e ∧ e.readOpen = false ∧
     e.decision = none ∧ [weighing 2] ≠ []) ∧
    (let e := entry 7 .onPlatform
     let s := withPlatform [weighing 1] (withEntries [e] running)
     s.takesCans = true ∧ s.weigh.platform = weighing 1 :: [] ∧ oldestOf .onPlatform s = some e ∧ e.readOpen = false ∧
     e.decision = none ∧ s.weigh.tracking = false) ∧
    (let e := { entry 7 .onPlatform with decision := some .accept }
     let s := withPlatform [weighing 1] (withEntries [e] running)
     s.takesCans = true ∧ s.weigh.platform = weighing 1 :: [] ∧ oldestOf .onPlatform s = some e ∧ e.decision ≠ none) := by
  decide

/-- A sample with a count at tag 100. -/
def sampleAt (count : Int) (overload : Bool) : Sample := { count := count, tag := 100, overload := overload }

theorem witness_AWeighingIsJudgedInOrder :
    let w := weighing 0
    let r := { recipe with minSamples := 2 }
    let win := fun l => windowOf r 0 150 l
    let steady := [sampleAt 5 false, sampleAt 4005 false]
    ({ w with double := true }.double = true) ∧ (win [sampleAt 5 false]).length < r.minSamples ∧
    (r.minSamples ≤ (win [sampleAt 5 true, sampleAt 5 false]).length ∧
      ∃ x ∈ win [sampleAt 5 true, sampleAt 5 false], x.overload = true) ∧
    (∃ x ∈ win [sampleAt 5 false, sampleAt 4006 false], ∃ y ∈ win [sampleAt 5 false, sampleAt 4006 false],
      (r.stability : Int) < x.count - y.count) ∧
    (r.minSamples ≤ (win steady).length ∧ (∀ x ∈ win steady, x.overload = false) ∧
      (∀ x ∈ win steady, ∀ y ∈ win steady, ¬(r.stability : Int) < x.count - y.count) ∧
      { w with interrupted := true }.interrupted = true) ∧ r.softDev < r.hardDev := by decide

theorem witness_TheGrossMassIsFormedExactly :
    let win := [sampleAt 435507 false, sampleAt 435508 false]
    let r := { recipe with minSamples := 2 }
    (weighing 0).double = false ∧ (weighing 0).interrupted = false ∧ 1 ≤ r.minSamples ∧ r.minSamples ≤ win.length ∧
    (∀ x ∈ win, x.overload = false) ∧ (∀ x ∈ win, ∀ y ∈ win, x.count - y.count ≤ r.stability) := by decide

theorem witness_ArrivalsOutsideProductionAreIgnored :
    (State.reset.part.state = .clearing) ∧
    (let s := withReaderAsm (.collecting [0x41]) (withFrame 0x11 [1, 0, 0] 0xEF (resting .config))
     s.part.state = .config ∧ s.reader.receiver ≠ .heldLow ∧ s.filler.receiver ≠ .heldLow ∧ s.filler.asm = .check) := by decide

/-- With one pending read of a time left, bound to a serial. -/
def withBound (serial left : Nat) (s : State) : State :=
  { s with track := { s.track with reads := [{ eyeTag := 0, left := left, bound := some serial }] } }

theorem witness_PendingReadsComeAndExpire :
    let e := entry 104 .transit
    let p : PendingRead := { eyeTag := 0, left := 0, bound := none }
    (running.takesCans = true ∧ (withReads (List.replicate 7 1) running).track.reads.length < 8) ∧
    (let s := withReads (List.replicate 8 0) (withEntries [e] running)
     s.takesCans = true ∧ s.track.reads = p :: List.replicate 7 p ∧ p.bound = none ∧ oldestOf .transit s = some e) ∧
    (resting .stopped).pins.lineRun = false ∧
    (let s := withReads [1, 0, 0] (withEntries [e] running)
     s.pins.lineRun = true ∧ s.track.reads = [{ p with left := 1 }] ++ p :: [p] ∧ p.left = 0 ∧
     oldestOf .transit s = some e) ∧
    (let s := withReads [0] running
     s.pins.lineRun = true ∧ s.track.reads = [] ++ p :: [] ∧ oldestOf .transit s = none) ∧
    (let late := fun (l : List Entry) => withBound 102 0 (withEntries l running)
     let open1 := { entry 102 .onPlatform with read := none, readOpen := true }
     let weighed := { open1 with stage := .weighed, weighing := some (.gross 348921) }
     (late []).track.reads = [] ++ { p with bound := some 102 } :: [] ∧ entryOf 102 (late []) = none ∧
     entryOf 102 (late [open1]) = some open1 ∧ open1.weighing = none ∧ entryOf 102 (late [weighed]) = some weighed ∧
     weighed.stage = .weighed ∧ weighed.weighing ≠ none ∧ weighed.decision = none) := by decide

theorem witness_ACodeBindsByItsMark :
    let buffer := lotText ++ [0x3B#8, 0x31, 0x30, 0x32, 0x3B, 0x41]
    let e := entry 102 .transit
    let lost := [entry 101 .transit]
    let s := withReaderAsm (.collecting buffer) (withReads [440] (withEntries [entry 101 .transit, e, entry 103 .transit] running))
    s.takesCans = true ∧ s.reader.receiver ≠ .heldLow ∧ s.reader.asm = .collecting buffer ∧ buffer ≠ [0x23#8] ∧
    (match parseCode buffer with | .ok c => decide (c = .code lotText 102 .a) | .error _ => false) = true ∧
    s.track.reads = { eyeTag := 0, left := 440, bound := none } :: [] ∧
    s.track.entries.filter (fun x => decide (x.stage = .transit)) = lost ++ e :: [entry 103 .transit] ∧ lost.length < 32 ∧
    (∀ x ∈ lost, x.serial % 1000 ≠ 102) ∧ e.serial % 1000 = 102 ∧ (s.track.entries.map (·.serial)).Nodup ∧
    s.recipes.retiring = none ∧ e.recipe = .active := by decide

theorem witness_ACodeWithoutAMatchOrLate :
    let buffer := lotText ++ [0x3B#8, 0x31, 0x30, 0x32, 0x3B, 0x41]
    let p : PendingRead := { eyeTag := 0, left := 440, bound := none }
    let s := fun (b : Option Nat) (l : List Entry) =>
      let u := withReaderAsm (.collecting buffer) (withEntries l running)
      { u with track := { u.track with reads := [{ p with bound := b }] } }
    let open1 := { entry 102 .onPlatform with read := none, readOpen := true, attribution := some .positional }
    let weighed := { open1 with stage := .weighed, weighing := some (.gross 348921) }
    (buffer ≠ [0x23#8] ∧ (match parseCode buffer with | .ok c => decide (c = .code lotText 102 .a) | .error _ => false) = true) ∧
    (let u := s none [entry 101 .transit]
     u.takesCans = true ∧ u.reader.receiver ≠ .heldLow ∧ u.reader.asm = .collecting buffer ∧ u.track.reads = p :: [] ∧
     (∀ x ∈ (u.track.entries.filter (fun x => decide (x.stage = .transit))).take 32, x.serial % 1000 ≠ 102)) ∧
    ((s (some 102) []).track.reads = { p with bound := some 102 } :: [] ∧ entryOf 102 (s (some 102) []) = none) ∧
    (entryOf 102 (s (some 102) [open1]) = some open1 ∧ open1.weighing = none) ∧
    (entryOf 102 (s (some 102) [weighed]) = some weighed ∧ weighed.stage = .weighed ∧ weighed.weighing ≠ none ∧
      weighed.decision = none) := by decide

theorem witness_TheReaderAssemblesAMessage :
    let garbled := lotText ++ [0x3B#8, 0x31, 0x30, 0x3B, 0x41]
    ({ running.reader with receiver := .heldLow }.receiver = .heldLow) ∧
    running.takesCans = true ∧ running.reader.receiver ≠ .heldLow ∧ (0x41#8 : Byte) ≠ 0x0D#8 ∧ (0x41#8 : Byte) ≠ 0x0A#8 ∧
    running.track.reads = [] ∧ running.reader.asm = .idle ∧
    (∀ k ∈ [39, 40], (withReaderAsm (.collecting (List.replicate k 0x41)) running).reader.asm =
      .collecting (List.replicate k 0x41)) ∧
    (withReaderAsm (.skipping .overlong false) running).reader.asm = .skipping .overlong false ∧
    (withReaderAsm (.skipping .charError true) running).reader.asm = .skipping .charError true ∧
    (withReaderAsm (.collecting [0x23]) running).reader.asm = .collecting [0x23#8] ∧
    (withReaderAsm (.collecting garbled) running).reader.asm = .collecting garbled ∧ garbled ≠ [0x23#8] ∧
    (match parseCode garbled with | .error k => k | .ok _ => 0) = 3 ∧
    (let p : PendingRead := { eyeTag := 0, left := 440, bound := none }
     let u := withReads [440] (withEntries [entry 104 .transit] running)
     u.takesCans = true ∧ u.reader.receiver ≠ .heldLow ∧ u.track.reads = p :: [] ∧ p.bound = none ∧
     oldestOf .transit u = some (entry 104 .transit) ∧
     ∀ a ∈ [ReaderAsm.collecting [0x23], .skipping .charError true, .skipping .overlong false, .collecting garbled],
       (withReaderAsm a u).reader.asm = a) ∧
    (withBound 102 440 running).track.reads = { eyeTag := 0, left := 440, bound := some 102 } :: [] := by decide

/-- The assembler of the filler link in a state, with a length and payload. -/
def withFillerAsm (a : FillerAsm) (len : Byte) (payload : List Byte) (s : State) : State :=
  { s with filler := { s.filler with asm := a, len := len, payload := payload, gap := some 10 } }

theorem witness_TheFillerLinkTakesAndDiscardsFrames :
    let ones := fun (c : LineChar) =>
      ((List.range 8).filter (fun k => c.data.getLsbD k)).length + (if c.parity then 1 else 0)
    (running.takesCans = true ∧ running.part.state ≠ .clearing ∧ running.filler.receiver ≠ .heldLow ∧
      running.filler.asm = .hunt ∧ (withFillerAsm .kind 0 [] running).filler.asm = .kind ∧
      (withFillerAsm .length 0 [] running).filler.asm = .length) ∧
    (∀ len ∈ [72#8, 73#8], let p := (withFillerAsm .payload len (List.replicate 71 0) running).filler
      p.asm = .payload ∧ p.payload.length < 72 ∧ (p.payload.length + 1 = p.len.toNat ↔ len = 72#8)) ∧
    (let odd : LineChar := { data := 0x2C, parity := false, stopIdle := true, held := false }
     odd.stopIdle = true ∧ ones odd % 2 = 1 ∧ ones { odd with parity := true } % 2 = 0 ∧
     { odd with stopIdle := false }.stopIdle = false) ∧
    (let p := (withFillerAsm .payload 255 (List.replicate 72 0) running).filler
     p.asm = .payload ∧ 72 ≤ p.payload.length) ∧
    ({ running.filler with gap := some 0 }.gap = some 0) ∧
    (let p := (withFrame 0x11 [1, 0, 1] 1 running).filler
     p.asm = .check ∧ p.sum + 0#8 ≠ 0) ∧
    (let p := (withFrame 0x13 [1, 0, 1] 1 running).filler
     p.asm = .check ∧ p.sum + 0xFF#8 = 0 ∧ p.kind ≠ 0x11#8 ∧ p.kind ≠ 0x12#8) ∧
    (let p := { (withFrame 0x12 [1, 0] 1 running).filler with len := 2 }
     p.asm = .check ∧ p.sum + 0xFF#8 = 0 ∧ p.kind = 0x12#8 ∧ p.len ≠ 3) ∧
    (let p := (withFrame 0x12 [1, 0, 4] 1 running).filler
     p.asm = .check ∧ p.sum + 0xFF#8 = 0 ∧ p.kind = 0x12#8 ∧ p.len = 3 ∧ p.payload.getD 2 0 ≠ 1 ∧ p.payload.getD 2 0 ≠ 2 ∧
     p.payload.getD 2 0 ≠ 3) ∧
    (let p := { running.filler with tx := .sending [1, 2] 2200 }
     p.tx = .sending [1, 2] 2200 ∧ 1100 * [1, 2].length ≤ 2200 ∧ 2199 < 1100 * [1, 2].length ∧ p.waiting = none ∧
     { p with waiting := some [3] }.waiting = some [3#8] ∧ { p with receiver := .heldLow }.receiver = .heldLow) := by decide

set_option maxRecDepth 20000 in
theorem witness_ADischargeCreatesAnEntry :
    let s := fun valve n (st : Stage) => withFrame 0x11 [valve, 0x00, 0x28] 0x4D (withEntries (List.replicate n (entry 1 st)) running)
    let framed := fun (valve : Byte) (u : State) => u.takesCans = true ∧ u.filler.receiver ≠ .heldLow ∧ u.filler.asm = .check ∧
      u.filler.kind = 0x11#8 ∧ u.filler.len = 3 ∧ u.filler.payload = [valve, 0x00, 0x28] ∧ u.filler.sum + 0xB3#8 = 0 ∧
      u.recipes.active.isSome = true ∧ (activeRecipe u).valveCount ≤ 128 ∧ u.recipes.retiring = none
    (∀ valve ∈ [96#8, 97#8], framed valve (s valve 255 .transit) ∧ (s valve 255 .transit).track.entries.length < 256) ∧
    ¬(recipeOf (s 96 0 .read) .active).valveCount < (96#8).toNat ∧ (recipeOf (s 97 0 .read) .active).valveCount < (97#8).toNat ∧
    (framed 96 (s 96 256 .read) ∧ 256 ≤ (s 96 256 .read).track.entries.length ∧ oldestOf .transit (s 96 256 .read) = none) ∧
    (framed 96 (s 96 256 .transit) ∧ 256 ≤ (s 96 256 .transit).track.entries.length ∧
      oldestOf .transit (s 96 256 .transit) = some (entry 1 .transit)) := by decide

theorem witness_ADecisionFollowsItsReasons :
    let e := { entry 7 .weighed with weighing := some (.gross 333300), net := some 319800, zone := some .softLow }
    let s := withEntries [e] running
    (e ∈ s.track.entries ∧ lotOf s e.recipe = some lot ∧ (activeRecipe s).lotCanLimit = 0) ∧
    (let u := { s with recipes := { s.recipes with
       active := some { recipe with lotCanLimit := 5 }, activeLot := some { lot with accepted := 4 } } }
     e ∈ u.track.entries ∧ lotOf u e.recipe = some { lot with accepted := 4 } ∧ e.recipe = .active ∧
     (activeRecipe u).lotCanLimit ≠ 0 ∧ ((4#32 : Word) + 1).toNat = (activeRecipe u).lotCanLimit) ∧
    (e.zone = some .softLow ∧ ¬(e.zone = some .hardLow) ∧ e.read = some (.code true 7 .a) ∧ lot.softUsed < lot.allowance) ∧
    ({ lot with softUsed := 2 }.softUsed = { lot with softUsed := 2 }.allowance) ∧
    (∀ extra ∈ [0#10, 0x100, 0x300], extra = 0 ∨ extra = 0x100#10 ∨ extra = 0x300#10) := by decide

theorem witness_TheRejectEyeSettlesACan :
    let settles := fun (e : Entry) (s : State) => s.takesCans = true ∧ oldestOf .weighed s = some e ∧ entryOf e.serial s = some e
    (settles (entry 7 .weighed) (withEntries [entry 7 .weighed] running) ∧ (entry 7 .weighed).decision = none) ∧
    (settles (rejected412 .weighed) (withEntries [rejected412 .weighed] running) ∧
      (rejected412 .weighed).decision = some .reject) ∧
    settles (entry 7 .weighed) (withEntries [entry 7 .weighed] failed) ∧
    (settles entry5117 (withEntries [entry5117] failed) ∧ failed.part.state = .faultStop) ∧
    (let counted := { entry5117 with countedLot := some 12 }
     settles counted (withEntries [counted] failed) ∧ counted.decision ≠ none ∧ lotOf failed .active = some lot ∧
     counted.countedLot = some lot.index ∧ lotOf failed .retiring = none) ∧
    (settles entry5117 (withEntries [entry5117] running) ∧ running.part.state ≠ .faultStop ∧
      entry5117.decision = some .accept) ∧
    (running.takesCans = true ∧ oldestOf .weighed running = none) ∧
    ({ running.reject with actuator := .firing 0 }.actuator = .firing 0) ∧
    ({ running.reject with actuator := .firing 1 }.actuator = .firing (0 + 1)) := by decide

theorem witness_AnEntryLeavesPastTheReject :
    (let accepted := { rejected412 .pastReject with decision := some .accept }
     (running.takesCans = true ∧ running.recipes.retiring = none ∧ oldestOf .pastReject running = none) ∧
     (oldestOf .pastReject (withEntries [accepted] running) = some accepted ∧ accepted.decision = some .accept) ∧
     (oldestOf .pastReject (withEntries [rejected412 .pastReject] failed) = some (rejected412 .pastReject) ∧
       failed.part.state = .faultStop ∧ failed.takesCans = true) ∧
     (let s := withEntries [rejected412 .pastReject] running
      oldestOf .pastReject s = some (rejected412 .pastReject) ∧ s.part.state ≠ .faultStop ∧ s.weigh.zeroSet = none ∧
      s.cal.averaging = none ∧ s.cal.store = .idle)) ∧
    (let e := { rejected412 .pastReject with deadline := some 0 }
     let a := { e with decision := some .accept }
     let before := [{ entry 411 .pastReject with deadline := some 1 }]
     (∀ x ∈ [e, a], (withEntries (before ++ x :: []) running).track.entries = before ++ x :: [] ∧ x.stage = .pastReject ∧
       x.deadline = some 0 ∧ (∀ y ∈ before, y.serial ≠ x.serial)) ∧
     (∀ x ∈ before, ¬(x.stage = .pastReject ∧ x.deadline = some 0)) ∧ running.recipes.retiring = none ∧
     running.pins.lineRun = true ∧ e.decision = some .reject ∧ a.decision = some .accept ∧
     (resting .stopped).pins.lineRun = false) := by decide

/-- A running part with valve 17 in a state. -/
def withValve17 (x : Valve) : State :=
  { running with valves := { running.valves with table := setNumbered running.valves.table 17 x } }

/-- Entry 5,117 qualifies for valve 17 apart from its zone. -/
def qualifies (s : State) : Bool :=
  decide (s.part.state = .run ∧ entry5117.origin = .filler ∧ entry5117.attribution = some .exact ∧ entry5117.valve = some 17 ∧
    entry5117.genKnown = some true ∧ entry5117.recipe = .active) &&
  decide (entry5117.weighing = some (.gross 348921) ∧ entry5117.net = some 335421 ∧ entry5117.generation = some 40 ∧
    17 ≤ s.valves.table.length ∧ (valveAt s 17).effectGen = some 33 ∧ ((40#16 : Gen) - 33).toNat < 32768)

set_option maxRecDepth 20000 in
theorem witness_AQualifyingCanActsOnItsValve :
    (qualifies (withValve17 { valve17 with n := 6 }) = true ∧ entry5117.zone = some .good ∧
      (valveAt (withValve17 { valve17 with n := 6 }) 17).n + 1 < (activeRecipe running).sampleMin) ∧
    (qualifies (withValve17 valve17) = true ∧ (activeRecipe running).sampleMin ≤ (valveAt (withValve17 valve17) 17).n + 1) ∧
    (qualifies (withValve17 { valve17 with state := .waitEffect, awaitedGen := none }) = true ∧
      (valveAt (withValve17 { valve17 with state := .waitEffect, awaitedGen := none }) 17).awaitedGen = none) ∧
    (qualifies (withValve17 { valve17 with state := .waitEffect, awaitedGen := some 40 }) = true ∧
      ((40#16 : Gen) - 40).toNat < 32768) ∧
    (qualifies (withValve17 { valve17 with state := .waitEffect, awaitedGen := some 41 }) = true ∧
      ¬((40#16 : Gen) - 41).toNat < 32768) ∧
    qualifies (withValve17 { valve17 with hardLowRun := 2 }) = true ∧
    qualifies (withValve17 { valve17 with hardLowRun := 1 }) = true ∧
    (∀ st ∈ [ValveState.idle, .locked, .faulty], qualifies (withValve17 { valve17 with state := st }) = true ∧
      (valveAt (withValve17 { valve17 with state := st }) 17).state = st) ∧
    (∀ e ∈ [{ entry5117 with genKnown := some false }, { entry5117 with recipe := .retiring },
        { entry5117 with weighing := some (.fault .short), net := none, zone := none },
        { entry5117 with generation := some 32 }, { entry5117 with zone := some .over }],
      e.origin = .filler ∧ e.attribution = some .exact ∧ e.valve = some 17 ∧ e.generation.isSome = true) ∧
    ((withValve17 valve17).valves.table.length = 128 ∧ (resting .stopped).part.state ≠ .run ∧
      ¬((32#16 : Gen) - 33).toNat < 32768) ∧
    ({ entry5117 with attribution := some .positional }.attribution ≠ some .exact) := by decide

set_option maxRecDepth 20000 in
theorem witness_ABlockEndCorrectsTheTrim :
    let at17 := fun (s : State) => 17 ≤ s.valves.table.length ∧ 17 ≤ s.dose.trims.length ∧
      (activeRecipe s).sampleMin ≤ (valveAt s 17).n + 1
    let due := fun (s : State) (net : Int) => s.valves.loop = true ∧ s.dose.link ≠ .down ∧
      16 * (activeRecipe s).deadband < (averaged (activeRecipe s) (valveAt s 17).avg net).natAbs
    let changed := fun (s : State) (net : Int) => clampAbs (activeRecipe s).trimLimit ((trimAt s 17).wanted
      + correction (activeRecipe s) (averaged (activeRecipe s) (valveAt s 17).avg net)) ≠ (trimAt s 17).wanted
    (at17 beforeBlockEnd ∧ due beforeBlockEnd 335421 ∧ changed beforeBlockEnd 335421) ∧
    (let s := { beforeBlockEnd with dose := { beforeBlockEnd.dose with
       trims := setNumbered beforeBlockEnd.dose.trims 17 { wanted := 5000, served := 5000 } } }
     at17 s ∧ due s 335421 ∧ ¬changed s 335421) ∧
    at17 { beforeBlockEnd with recipes := { running.recipes with active := some { recipe with sampleMin := 1 } } } ∧
    (let s := withDose (some 40) (some message) .down beforeBlockEnd
     at17 s ∧ ¬due s 335421) := by decide

set_option maxRecDepth 20000 in
theorem witness_UpdatesAreSentAndTimeOut :
    let d := fun (link : LinkState) (ack : Option Nat) (probe : Nat) =>
      let s := withDose (some 40) (some message) link running
      { s with dose := { s.dose with ack := ack, probe := probe } }
    let free := fun (s : State) => s.takesCans = true ∧ s.dose.ack = none
    let busy := { running with filler := { running.filler with tx := .sending [1] 0 } }
    ((d .up (some 1) 0).takesCans = true ∧ (d .up (some 1) 0).dose.ack ≠ none) ∧
    (free busy ∧ busy.filler.tx = .sending [1#8] 0) ∧
    (free running ∧ running.dose.link = .up ∧ running.dose.inflight = none ∧ running.dose.served = none) ∧
    (let s := withDose (some 40) none .up running
     free s ∧ s.dose.link = .up ∧ s.dose.inflight = none ∧ s.dose.served.isSome = true ∧ s.dose.changeover = none ∧
     (∀ x ∈ s.dose.trims, x.wanted = x.served)) ∧
    (free (d .retry none 0) ∧ (d .retry none 0).dose.link = .retry ∧ (d .retry none 0).dose.inflight = some message) ∧
    (free (d .down none 14) ∧ (d .down none 14).dose.link = .down ∧ (d .down none 14).dose.probe < 15) ∧
    (free (d .down none 15) ∧ (d .down none 15).dose.probe = 15 ∧ (d .down none 15).dose.inflight = some message) ∧
    (∀ link ∈ [LinkState.up, .retry, .down], (d link (some 0) 0).dose.ack = some 0 ∧ (d link (some 0) 0).dose.link = link ∧
      (d link (some 0) 0).dose.inflight = some message) := by decide

set_option maxRecDepth 20000 in
theorem witness_AnUpdateListsTheChangedValves :
    let u := withDose (some 65535) none .up running
    let s := { u with dose := { u.dose with rr := 95, trims := setNumbered running.dose.trims 96 { wanted := 5, served := 0 } } }
    let c : PendingChangeover := { base := 336000, limit := 3, clear := false, valveCount := 96 }
    let later := fun b => { s with dose := { s.dose with changeover := some { c with clear := b } } }
    s.takesCans = true ∧ s.dose.ack = none ∧ s.dose.link = .up ∧ s.dose.inflight = none ∧
    s.dose.served = some 65535 ∧ s.recipes.active = some recipe ∧ s.dose.changeover = none ∧ 96 ≤ recipe.valveCount ∧
    (trimAt s 96).wanted ≠ (trimAt s 96).served ∧
    (∀ b ∈ [false, true], (later b).dose.changeover = some { c with clear := b } ∧ (later b).dose.link = .up ∧
      (later b).dose.inflight = none ∧ (later b).dose.served = some 65535) := by decide

set_option maxRecDepth 20000 in
theorem witness_UpdateFramesCarryTheirMessage :
    let m := { message with
      base := some 1600000, limit := some 20000, list := List.replicate 10 (1, -20000) ++ List.replicate 10 (128, (20000 : Int)) }
    m.base = some 1600000 ∧ m.limit = some 20000 ∧ m.list.length = 20 ∧
    (∀ a ∈ m.list, 1 ≤ a.1 ∧ a.1 ≤ 128 ∧ -20000 ≤ a.2 ∧ a.2 ≤ 20000) ∧ updateFrame m = updateFrame { m with changeover := true } := by
  decide

/-- A part with an ack of generation 41 at its check byte 0 and a message in flight. -/
def acked (res : Byte) (m : Option Message) (link : LinkState) : State :=
  withFrame 0x12 [0x00, 0x29, res] 0 (withDose (some 40) m link running)

theorem witness_AnAckServesRefusesOrStrays :
    (∀ res ∈ [1#8, 2#8, 3#8], ∀ link ∈ [LinkState.up, .down],
      let s := acked res (some message) link
      s.takesCans = true ∧ s.filler.receiver ≠ .heldLow ∧ s.filler.asm = .check ∧ s.filler.kind = 0x12#8 ∧ s.filler.len = 3 ∧
      s.filler.payload = [0x00, 0x29, res] ∧ s.filler.sum + 0#8 = 0 ∧ s.dose.inflight = some message) ∧
    message.generation = (0x00#8 ++ 0x29#8 : BitVec 16) ∧ message.changeover = false ∧
    (acked 3 none .up).dose.inflight = none ∧
    ({ message with generation := 42 }.generation ≠ (0x00#8 ++ 0x29#8 : BitVec 16)) ∧
    (let m := { message with changeover := true }
     let s := acked 3 (some m) .down
     let u := { s with recipes := { s.recipes with next := some recipe, held := some (3 : Slot) } }
     u.dose.inflight = some m ∧ m.changeover = true ∧ u.recipes.held = some (3 : Slot) ∧ s.recipes.held = none) := by decide

set_option maxRecDepth 20000 in
theorem witness_TheValvesFollowAnAck :
    let with17 := fun (x : Valve) (s : State) =>
      { s with valves := { s.valves with table := setNumbered s.valves.table 17 x } }
    let waits := { valve17 with state := .waitEffect, awaitedGen := none, effectGen := some 16425 }
    let swaps := { message with changeover := true }
    let s := fun res m x =>
      let u := with17 x (acked res (some m) .up)
      { u with recipes := { u.recipes with next := some { recipe with valveCount := 17 } } }
    let acks := fun (u : State) (res : Byte) (m : Message) => u.takesCans = true ∧ u.filler.receiver ≠ .heldLow ∧
      u.filler.asm = .check ∧ u.filler.kind = 0x12#8 ∧ u.filler.len = 3 ∧ u.filler.payload = [0x00, 0x29, res] ∧
      u.filler.sum + 0#8 = 0 ∧ u.dose.inflight = some m ∧ m.generation = (0x00#8 ++ 0x29#8 : BitVec 16) ∧
      17 ≤ u.valves.table.length
    (∀ res ∈ [1#8, 2#8], acks (s res message waits) res message ∧ message.changeover = false) ∧
    (valveAt (s 1 message waits) 17 = waits ∧ 16384 ≤ ((41#16 : Gen) - 16425).toNat) ∧
    (acks (s 3 message waits) 3 message ∧ 17 ∈ message.list.map (·.1) ∧ (s 3 message waits).dose.served = some 40) ∧
    (acks (s 1 swaps waits) 1 swaps ∧ swaps.changeover = true ∧
      (s 1 swaps waits).recipes.next = some { recipe with valveCount := 17 } ∧ 18 ≤ (s 1 swaps waits).valves.table.length) ∧
    (∀ st ∈ [ValveState.locked, .faulty], (valveAt (s 1 swaps { valve17 with state := st }) 17).state = st) := by
  refine ⟨?_, ?_, ?_, ?_, ?_⟩ <;> decide

set_option maxRecDepth 20000 in
theorem witness_AChangeoverSwapsTheRecipes :
    let m := { message with changeover := true }
    let new := { recipe with target := 341000, trimLimit := 3000, valveCount := 80 }
    let s := fun res link entries (held : Option Slot) =>
      let u := withEntries entries (acked res (some m) link)
      { u with recipes := { u.recipes with next := some new, held := held } }
    ∀ res ∈ [1#8, 2#8], ∀ link ∈ [LinkState.up, .down], ∀ entries ∈ [[], [entry 7 .transit]],
      ∀ held ∈ [none, some (3 : Slot)],
      let u := s res link entries held
      u.takesCans = true ∧ u.filler.receiver ≠ .heldLow ∧ u.filler.asm = .check ∧ u.filler.kind = 0x12#8 ∧ u.filler.len = 3 ∧
      u.filler.payload = [0x00, 0x29, res] ∧ (res = 1 ∨ res = 2) ∧ u.filler.sum + 0#8 = 0 ∧ u.dose.inflight = some m ∧
      m.generation = (0x00#8 ++ 0x29#8 : BitVec 16) ∧ m.changeover = true ∧ u.recipes.active = some recipe ∧
      u.recipes.next = some new ∧ u.recipes.activeLot = some lot ∧ u.track.entries = entries ∧ u.recipes.held = held ∧
      u.dose.link = link := by
  decide

theorem witness_AMinuteStepCountsOrClosesTheLot :
    let r := { recipe with lotMinutes := 2 }
    let low := { lot with accepted := 5, netSum := 1664999 }
    let s := fun (l : Lot) => { running with recipes := { running.recipes with
      active := some r, activeLot := some l, fine := 0 } }
    (∀ l ∈ [lot, low, { low with netSum := 1665000 }], (s l).part.state = .run ∧ (s l).recipes.active = some r ∧
      r.lotMinutes ≠ 0 ∧ (s l).recipes.fine = 0 ∧ (s l).recipes.activeLot = some l ∧ (s l).exch.read 0x00C1 = 0 ∧
      -2147483648 ≤ Int.tdiv l.netSum.toInt l.accepted.toNat ∧ Int.tdiv l.netSum.toInt l.accepted.toNat ≤ 2147483647) ∧
    (withWords 0x00C1 [1] (s lot)).exch.read 0x00C1 ≠ 0 ∧ (low.accepted ≠ 0 ∧ Int.tdiv low.netSum.toInt 5 < r.nominal) := by
  decide

theorem witness_TheFirstFailedCheckRefusesAnOrder :
    let order := fun (p : PartState) (kind arg : Word) => withWords 0x0041 [kind, arg] (resting p)
    let switched := fun (s : State) => { s with pins := { s.pins with calSwitch := true } }
    let kind := fun (s : State) (code : Nat) => (s.exch.read 0x0041).toNat = code
    kind (order .stopped 13 0) 13 ∧ kind (order .stopped 0 0) 0 ∧
    (kind (order .run 3 0) 3 ∧ (order .run 3 0).part.state ∉ [PartState.stopped]) ∧
    (kind (order .stopped 4 0) 4 ∧ (order .stopped 4 0).part.state ∈ [PartState.config, .stopped] ∧
      (order .stopped 4 0).pins.calSwitch = false) ∧
    (let s := { switched (order .stopped 5 1000) with cal := State.reset.cal }
     kind s 5 ∧ s.part.state ∈ [PartState.config, .stopped] ∧ s.pins.calSwitch = true ∧ s.cal.state = .none) ∧
    (let s := switched (order .stopped 4 200001)
     kind s 4 ∧ s.pins.calSwitch = true ∧ ¬(s.exch.read 0x0042).toNat ≤ 200000) ∧
    (let s := order .run 7 97
     kind s 7 ∧ s.part.state ∈ [PartState.config, .stopped, .run, .faultStop] ∧ s.recipes.active = some recipe ∧
     ¬(s.exch.read 0x0042).toNat ≤ recipe.valveCount) ∧
    (let s := switched (order .stopped 5 1000)
     kind s 5 ∧ s.cal.state ≠ .none ∧ 1000 ≤ (s.exch.read 0x0042).toNat ∧ (s.exch.read 0x0042).toNat ≤ 2000000 ∧
     { s.cal with held := some 1 }.held.isSome = true) := by decide

set_option maxRecDepth 20000 in
theorem witness_TheScanTakesThePostedOrders :
    let s := fun (x : Valve) =>
      let u := withWords 0x0050 [1, 7, 17] (withValve17 x)
      { u with orders := { scan := some 0, taken := [] } }
    (running.orders.scan ≠ some 0 ∧ State.reset.part.state = .clearing) ∧
    (let u := withWords 0x0040 [1, 13] (withWords 0x0070 [4] (withWords 0x0080 [1, 10] failed))
     (u.takesCans = true ∧ { u.orders with scan := some 0 }.scan = some 0) ∧
     ∀ k : Slot, u.exch.read (0x0040 + 16 * k.val) = 1 ↔ k = 0 ∨ k = 4) ∧
    ∀ st ∈ [ValveState.locked, .faulty, .averaging],
      let u := s { valve17 with state := st }
      u.orders.scan = some 0 ∧ u.takesCans = true ∧ u.exch.read (0x0040 + 16) = 1 ∧ u.exch.read (0x0040 + 16 + 1) = 7 ∧
      u.exch.read (0x0040 + 16 + 2) = BitVec.ofNat 32 17 ∧ (∀ other : Slot, other ≠ 1 → u.exch.read (0x0040 + 16 * other.val) ≠ 1) ∧
      u.orders.taken = [] ∧ u.recipes.active = some recipe ∧ 17 ≤ recipe.valveCount ∧ recipe.valveCount ≤ 128 ∧
      u.valves.table.length = 128 ∧ (valveAt u 17).state = st ∧ (valveAt u 17).awaitedGen = none := by decide

set_option maxRecDepth 20000 in
theorem witness_TheValveOrdersAreCarriedOut :
    let order := fun (st : ValveState) (w : List Word) => withWords 0x0041 w (withValve17 { valve17 with state := st })
    (∀ w ∈ [[6#32, 17], [8#32, 17, 0xFFFFEC77], [9#32, 0], [10#32, 0]],
      let s := order .waitEffect w
      s.takesCans = true ∧ s.recipes.active = some recipe ∧ recipe.valveCount ≤ 128 ∧ 17 ≤ recipe.valveCount ∧
      s.valves.table.length = 128 ∧ s.dose.trims.length = 128 ∧ s.exch.read 0x0041 = w.getD 0 0 ∧
      s.exch.read 0x0042 = w.getD 1 0) ∧
    (valveAt (order .waitEffect []) 17).state = .waitEffect ∧ (valveAt (order .locked []) 17).state = .locked ∧
    (valveAt (order .locked []) 17).n ≤ 255 ∧ (valveAt (order .locked []) 17).hardLowRun ≤ 3 ∧
    (order .locked []).dose.inflight = none ∧
    (let s := withDose (some 40) (some { message with list := [(17, 5)] }) .up (order .locked [10])
     s.exch.read 0x0041 = 10 ∧ s.dose.inflight = some { message with list := [(17, 5)] }) := by decide

theorem witness_TheOtherOrdersAreCarriedOut :
    let order := fun (p : PartState) (w : List Word) =>
      let s := withWords 0x0041 w (resting p)
      { s with pins := { s.pins with calSwitch := true } }
    let idle := fun (s : State) => s.weigh.zeroSet = none ∧ s.cal.held = none ∧ s.cal.store = .idle
    (let s := order .stopped [3]
     s.exch.read 0x0041 = 3 ∧ s.part.state = .stopped ∧ s.cal.state = .valid ∧ idle s ∧ s.weigh.platform = [] ∧
     idle (withPlatform [weighing 0] s) ∧ (withPlatform [weighing 0] s).weigh.platform ≠ []) ∧
    (let s := order .config [4, 200000]
     s.exch.read 0x0041 = 4 ∧ s.part.state = .config ∧ s.pins.calSwitch = true ∧ (s.exch.read 0x0042).toNat ≤ 200000 ∧
     idle s ∧ s.weigh.platform = []) ∧
    (let s := order .stopped [5, 2000000]
     s.exch.read 0x0041 = 5 ∧ s.part.state = .stopped ∧ s.pins.calSwitch = true ∧ s.cal.state ≠ .none ∧
     1000 ≤ (s.exch.read 0x0042).toNat ∧ (s.exch.read 0x0042).toNat ≤ 2000000 ∧ idle s) ∧
    (let s := order .stopped [2]
     s.exch.read 0x0041 = 2 ∧ s.part.state = .stopped ∧ s.recipes.active = some recipe ∧ s.recipes.activeLot = some lot) ∧
    (let s := withWords 0x0041 [12] failed
     let u := { s with weigh := { s.weigh with converter := .silent } }
     s.exch.read 0x0041 = 12 ∧ s.part.state = .faultStop ∧ s.weigh.converter = .live ∧ u.exch.read 0x0041 = 12 ∧
     u.part.state = .faultStop ∧ u.weigh.converter = .silent ∧ u.weigh.zeroSet = none ∧ u.cal.held = none ∧
     u.cal.averaging = none) := by decide

theorem witness_TheDrainEndsAtTheLastEntryOrAFlush :
    let e := { rejected412 .pastReject with decision := some .accept, recipe := .retiring }
    let before := [entry 411 .transit]
    let draining := fun (s : State) => { s with recipes := { s.recipes with
      retiring := some recipe, retiringLot := some lot, held := some (3 : Slot), boundary := 40 } }
    let s := fun (after : List Entry) => draining (withEntries (before ++ e :: after) running)
    let held := fun (u : State) =>
      u.recipes.retiring = some recipe ∧ u.recipes.retiringLot = some lot ∧ u.recipes.held = some (3 : Slot)
    let flush := withWords 0x0041 [11] failed
    (∀ after ∈ [[], [{ entry 413 .weighed with recipe := .retiring }]], (s after).takesCans = true ∧ held (s after) ∧
      (s after).track.entries = before ++ e :: after) ∧
    (∀ x ∈ before, x.stage ≠ .pastReject ∧ x.serial ≠ e.serial ∧ x.recipe ≠ .retiring) ∧ e.stage = .pastReject ∧
    e.decision = some .accept ∧
    (flush.exch.read (0x0040 + 16 * (0 : Slot).val + 1) = 11 ∧ flush.part.state = .faultStop ∧
      flush.recipes.retiring = none ∧ held (draining flush)) := by decide

/-- A staged recipe that passes its checks. -/
def staged : List Word := recipeWords { recipe with minSamples := 2, rest := List.replicate 94 0 }

theorem witness_AChangeoverIsTaken :
    let s := fun (u : State) => withWords 0x0041 [1] (withWords 0x0100 staged u)
    let free := fun (u : State) => u.exch.read (0x0040 + 16 * (0 : Slot).val + 1) = 1 ∧ u.recipes.held = none ∧
      u.recipes.retiring = none ∧ recipeFailure (fun k => u.exch.read (0x0100 + k)) = none
    (free (s running) ∧ (s running).part.state = .run ∧ { running.recipes with held := some 3 }.held ≠ none) ∧
    (let u := s (resting .config)
     free u ∧ u.part.state = .config ∧ u.weigh.converter = .live ∧ u.cal.averaging = none ∧ u.cal.state = .valid ∧
     u.recipes.activeLot = some lot) ∧
    (let u := s { resting .config with cal := State.reset.cal, recipes := State.reset.recipes }
     free u ∧ u.part.state = .config ∧ u.weigh.converter = .live ∧ u.cal.averaging = none ∧ u.cal.state ≠ .valid ∧
     u.recipes.activeLot = none) := by decide

/-- The words of the staged recipe that passes its checks: six characters of text, and every field in its range. -/
theorem witness_TheStagedRecipeIsChecked :
    let s := withWords 0x0041 [1] (withWords 0x0100 staged running)
    let word := fun k => s.exch.read (0x0100 + k)
    let byte := fun k => (word (1 + k / 4)).toNat / 256 ^ (3 - k % 4) % 256
    (s.part.state = .run ∧ s.exch.read (0x0040 + 16 * (0 : Slot).val + 1) = 1 ∧ s.recipes.held = none ∧
      s.recipes.retiring = none) ∧
    ((∀ k, k < 6 → 0x20 ≤ byte k ∧ byte k ≤ 0x7E) ∧ (∀ k, k < 12 → 6 ≤ k → byte k = 0)) ∧
    (List.range 30).map (fun k => (word (k + 4)).toNat) =
      [333000, 336000, 13500, 20000, 10000, 15000, 1, 2, 0, 0, 96, 3, 8, 300, 60, 500, 5000, 0, 80, 40, 2, 4000, 40, 50, 1, 2,
        35, 40, 60, 400] ∧
    (let u := withWords 0x0104 [999] s
     ((u.exch.read 0x0104).toNat < 1000 ∧ u.exch.read 0x0101 = word 1 ∧ u.exch.read 0x0102 = word 2 ∧
      u.exch.read 0x0103 = word 3)) := by decide

/-- A running part that tracks its zero, with one command waiting. -/
def legalState : State :=
  { running with weigh := { running.weigh with tracking := true }, pending := [.readerEyeArrival] }

theorem witness_EveryStepKeepsTheMemoryAndTheOutputs :
    MemoryLegal legalState ∧ AttnLegal legalState ∧ DriveLegal legalState ∧ ReaderTxLegal legalState ∧
    HeldLegal legalState ∧ (∃ t, step legalState = .next t) ∧
    (after .fullReset running).pins.resetHeld = true ∧ ∃ t, step (after .fullReset running) = .next t :=
  ⟨rfl, rfl, rfl, rfl, (fun h => nomatch h), ⟨_, rfl⟩, rfl, ⟨_, rfl⟩⟩

theorem witness_EveryStepKeepsThePartConfigured :
    PartLegal legalState ∧ Configured legalState ∧ ChangeoverLegal legalState ∧ RetiringLegal legalState ∧
    ∃ t, step legalState = .next t := by
  refine ⟨⟨rfl, rfl, fun _ => rfl, fun h => ?_⟩, fun _ => ⟨rfl, rfl⟩, ⟨fun h => ?_, fun m h => ?_⟩, fun h => ?_, ⟨_, rfl⟩⟩
  · cases h
  · cases h
  · cases h
  · obtain ⟨e, he, -⟩ := h; cases he

theorem witness_EveryStepKeepsTheWeighChannel :
    CalLegal legalState ∧ JamLegal legalState ∧ TrackingLegal legalState ∧ ListsBounded legalState ∧
    ∃ t, step legalState = .next t := by
  refine ⟨⟨by decide, fun h => ?_, fun h => ?_, fun _ => by decide⟩, fun h => ?_, rfl, ⟨by decide, by decide, by decide⟩, ⟨_, rfl⟩⟩
  · cases h
  · cases h
  · exact absurd rfl h

theorem witness_EveryStepKeepsTheCanTrack :
    let s0 := withPlatform [weighing 1] (withEntries [entry 9 .onPlatform, entry 11 .read, entry 12 .transit] running)
    let s := { s0 with track := { s0.track with nextSerial := 13 }, pending := [.readerEyeArrival] }
    TrackLegal s ∧ NextSerialFree s ∧ s.weigh.platform.length ≤ 4 ∧ ∃ t, step s = .next t := by
  refine ⟨?_, ?_, by decide, ⟨_, rfl⟩⟩
  · unfold TrackLegal; decide
  · unfold NextSerialFree; decide

theorem witness_EveryStepKeepsTheTakenOrders : TakenLegal legalState ∧ ∃ t, step legalState = .next t := by
  refine ⟨⟨fun slot owner => ⟨fun h => ?_, fun h => ?_⟩, List.nodup_nil, fun h => ?_⟩, ⟨_, rfl⟩⟩
  · cases h
  · cases owner <;> cases h
  · cases h.1

theorem witness_EveryStepKeepsLotsValvesAndDoses :
    LotsLegal legalState ∧ RecipesLegal legalState ∧ DoseLegal legalState ∧ ValvesLegal legalState ∧ Configured legalState ∧
    ∃ t, step legalState = .next t := by
  refine ⟨⟨fun l h => ?_, fun l h => ?_⟩, fun r h => ?_, ⟨fun _ _ => rfl, fun h => ?_, fun h => ?_⟩, ⟨rfl, fun x h => ?_⟩,
    fun _ => ⟨rfl, rfl⟩, ⟨_, rfl⟩⟩
  · cases h; exact ⟨by decide, by decide⟩
  · cases h
  · rcases h with h | h | h <;> cases h
    unfold Recipe.legal; decide
  · exact absurd rfl h
  · cases h
  · rw [List.eq_of_mem_replicate h]; exact ⟨by decide, by decide, by decide, by decide, by decide⟩

theorem witness_ThePartStateMovesOnlyByItsEvents :
    Instr.readerEyeArrival.wellFormed = true ∧ PartLegal legalState ∧ JamLegal legalState ∧
    ∃ t, exec .readerEyeArrival legalState = .next t :=
  ⟨rfl, witness_EveryStepKeepsThePartConfigured.1, witness_EveryStepKeepsTheWeighChannel.2.1, ⟨_, rfl⟩⟩

theorem witness_TheChangeCountNeverFalls :
    running.cal.changeCount ≤ 4294967295 ∧ { running.cal with changeCount := 4294967295 }.changeCount ≤ 4294967295 ∧
    Instr.timeWrap ≠ .fullReset ∧ (∀ bytes, Instr.timeWrap ≠ .storeReadEnd bytes) ∧
    (∀ count, Instr.timeWrap ≠ .sampleArrival count) ∧ (∃ t, exec .timeWrap running = .next t) ∧
    (∀ a, running.cal.averaging = some a → a.avg.n < 255) ∧ (∃ t, exec (.sampleArrival 5) running = .next t) ∧
    (let s := { resting .stopped with cal := { goodCal with
       averaging := some (calAveraging .span 500000 255 154593750 604880 607710), held := some 0 } }
     (after (.sampleArrival 606250) s).cal.f ≠ s.cal.f ∧ ∃ t, exec (.sampleArrival 606250) s = .next t) := by
  refine ⟨by decide, by decide, by decide, ?_, ?_, ⟨_, rfl⟩, ?_, ⟨_, rfl⟩, ⟨by decide, ⟨_, rfl⟩⟩⟩ <;> intro x h <;> cases h

end Sys2Proof.Tests
end

namespace Sys2Proof.Machine

/-! PROOFS. The pending read list under the operations of the track: all of them keep it but the take, the binding and the room
of a read (R43). -/

@[simp] theorem removeWithDrain_reads (e : Entry) (d : Disposition) (s : State) :
    (removeWithDrain e d s).track.reads = s.track.reads := by simp [removeWithDrain]

@[simp] theorem flushEntries_reads (s : State) : (flushEntries s).track.reads = s.track.reads := by
  unfold flushEntries
  generalize s.track.entries = l
  induction l generalizing s with
  | nil => rfl
  | cons e l ih => simpa using ih (removeEntry e .flushed s)

@[simp] theorem makeRoom_reads (s : State) : (makeRoom s).track.reads = s.track.reads := by
  unfold makeRoom
  repeat' split
  all_goals simp

@[simp] theorem createAtReader_reads (origin : Origin) (a : Attribution) (m : ReadMessage) (s : State) :
    (createAtReader origin a m s).track.reads = s.track.reads := rfl

@[simp] theorem bindByPosition_reads (s : State) : (bindByPosition s).1.track.reads = s.track.reads := by
  unfold bindByPosition
  split <;> simp

@[simp] theorem loseEntries_reads (lost : List Entry) (s : State) : (loseEntries lost s).track.reads = s.track.reads := by
  unfold loseEntries
  induction lost generalizing s with
  | nil => rfl
  | cons e l ih => simpa using ih (removeWithDrain e .lostInTransit s)

@[simp] theorem bindByMark_reads (text : List Byte) (mark : Nat) (grade : Grade) (s : State) :
    (bindByMark text mark grade s).1.track.reads = s.track.reads := by
  unfold bindByMark
  dsimp only
  split <;> simp

@[simp] theorem decideEntry_reads (extra : BitVec 10) (e : Entry) (s : State) :
    (decideEntry extra e s).track.reads = s.track.reads := by simp [decideEntry]

@[simp] theorem decideIfDue_reads (e : Entry) (s : State) : (decideIfDue e s).track.reads = s.track.reads := by
  unfold decideIfDue
  split <;> simp

@[simp] theorem resolveLate_reads (serial : Nat) (m : ReadMessage) (s : State) :
    (resolveLate serial m s).1.track.reads = s.track.reads := by
  unfold resolveLate
  split <;> simp

@[simp] theorem resolveRead_reads (p : PendingRead) (m : ReadMessage) (s : State) :
    (resolveRead p m s).1.track.reads = s.track.reads := by
  unfold resolveRead
  split <;> simp

@[simp] theorem createAtPlatform_reads (s : State) : (createAtPlatform s).track.reads = s.track.reads := by
  simp [createAtPlatform]

theorem bindOldestRead_length (serial : Nat) (l : List PendingRead) : (bindOldestRead serial l).length = l.length := by
  induction l with
  | nil => rfl
  | cons p l ih => unfold bindOldestRead; split <;> simp [ih]

theorem bindEarly_reads_length (s : State) : (bindEarly s).track.reads.length = s.track.reads.length := by
  unfold bindEarly
  split <;> simp [bindOldestRead_length]

theorem trackPlatformIn_reads_length (s : State) : (trackPlatformIn s).track.reads.length = s.track.reads.length := by
  unfold trackPlatformIn
  split
  · simp
  · split
    · exact bindEarly_reads_length s
    · simp

@[simp] theorem trackPlatformOut_reads (w : WeighResult) (s : State) :
    (trackPlatformOut w s).track.reads = s.track.reads := by
  unfold trackPlatformOut
  split <;> simp

theorem takeReadResult_reads_length (m : ReadMessage) (s : State) :
    (takeReadResult m s).track.reads.length ≤ s.track.reads.length := by
  unfold takeReadResult
  split
  · split
    · simp
    · next h => simp [h]
  · exact le_rfl

/-- Room for a ninth pending read: at most seven are left where there were no more than eight (R43). -/
theorem makeReadRoom_reads_length (s : State) (h : s.track.reads.length ≤ 8) :
    (makeReadRoom s).track.reads.length ≤ 7 := by
  unfold makeReadRoom
  split
  · next hr => simp [hr]
  · next p rest hr =>
    rw [hr] at h
    simp only [hr, List.length_cons] at h ⊢
    split
    · simp; omega
    · simp [hr]; omega

@[simp] theorem forceEntry_reads (e : Entry) (s : State) : (forceEntry e s).track.reads = s.track.reads := by
  simp [forceEntry]

@[simp] theorem settleAtEye_reads (e : Entry) (s : State) : (settleAtEye e s).track.reads = s.track.reads := by
  unfold settleAtEye
  repeat' split
  all_goals simp

@[simp] theorem passEye_reads (e : Entry) (s : State) : (passEye e s).track.reads = s.track.reads := by
  unfold passEye
  dsimp only
  split <;> simp

@[simp] theorem takeAtEye_reads (e : Entry) (s : State) : (takeAtEye e s).track.reads = s.track.reads := by
  unfold takeAtEye
  dsimp only
  split <;> simp

@[simp] theorem rejectFailed_reads (e : Entry) (s : State) : (rejectFailed e s).track.reads = s.track.reads := by
  simp [rejectFailed]

@[simp] theorem settleDeadline_reads (e : Entry) (s : State) : (settleDeadline e s).track.reads = s.track.reads := by
  unfold settleDeadline
  split <;> simp

@[simp] theorem swap_reads (b : Gen) (s : State) : (swap b s).track.reads = s.track.reads := by simp [swap]

@[simp] theorem serve_reads (m : Message) (res : AckResult) (s : State) :
    (serve m res s).track.reads = s.track.reads := by
  unfold serve
  dsimp only
  split <;> simp

@[simp] theorem takeAck_reads (g : Gen) (res : AckResult) (s : State) :
    (takeAck g res s).track.reads = s.track.reads := by
  unfold takeAck
  repeat' split
  all_goals simp

@[simp] theorem trackDischarge_reads (valve : Byte) (g : Gen) (s : State) :
    (trackDischarge valve g s).track.reads = s.track.reads := by simp [trackDischarge]

@[simp] theorem takeDischarge_reads (valve : Byte) (g : Gen) (s : State) :
    (takeDischarge valve g s).track.reads = s.track.reads := by
  unfold takeDischarge
  repeat' split
  all_goals simp

@[simp] theorem settleFrame_reads (f : Frame) (s : State) : (settleFrame f s).track.reads = s.track.reads := by
  unfold settleFrame
  repeat' split
  all_goals simp

@[simp] theorem fillerTake_reads (b : Byte) (s : State) : (fillerTake b s).track.reads = s.track.reads := by
  unfold fillerTake
  dsimp only
  repeat' split
  all_goals simp

@[simp] theorem fillerReceive_reads (c : LineChar) (s : State) : (fillerReceive c s).track.reads = s.track.reads := by
  unfold fillerReceive
  split <;> simp

theorem takeMessage_reads_length (m : List Byte) (s : State) :
    (takeMessage m s).track.reads.length ≤ s.track.reads.length := by
  unfold takeMessage
  split
  · exact takeReadResult_reads_length ..
  · split
    · exact takeReadResult_reads_length ..
    · exact (takeReadResult_reads_length ..).trans (by simp)

theorem readerEnd_reads_length (s : State) : (readerEnd s).track.reads.length ≤ s.track.reads.length := by
  unfold readerEnd
  split
  · exact le_rfl
  · exact (takeMessage_reads_length ..).trans (by simp)
  · exact (takeReadResult_reads_length ..).trans (by simp)
  · exact (takeReadResult_reads_length ..).trans (by simp)

theorem readerTake_reads_length (c : Byte) (s : State) : (readerTake c s).track.reads.length ≤ s.track.reads.length := by
  unfold readerTake
  repeat' split
  · exact readerEnd_reads_length s
  · exact le_rfl
  · simp
  · exact le_rfl

end Sys2Proof.Machine

namespace Sys2Proof.Machine

/-! PROOFS. What every operation keeps of the Weigh Channel: Z to its limit, the jam timer, zero tracking and the lists
(R1, R5, R8, R14, R18, R23, R43). -/

/-- The four conditions on the Weigh Channel together. -/
structure WeighLegal (s : State) : Prop where
  cal : CalLegal s
  jam : JamLegal s
  tracking : TrackingLegal s
  lists : ListsBounded s

/-- What those conditions read of the state, but for the pending read list. -/
structure WeighView where
  weigh : Weigh
  zc : Int
  f : Nat
  zeroLimit : Nat
  calState : CalState
  calAverages : Bool
  part : PartState

/-- The view of a state. -/
def weighView (s : State) : WeighView :=
  { weigh := s.weigh, zc := s.cal.zc, f := s.cal.f, zeroLimit := s.cal.zeroLimit, calState := s.cal.state
    calAverages := s.cal.averaging.isNone, part := s.part.state }

theorem weighView_of_blocks {s t : State} (hw : t.weigh = s.weigh) (hc : t.cal = s.cal) (hp : t.part = s.part) :
    weighView t = weighView s := by simp [weighView, hw, hc, hp]

/-- An operation that keeps the view, and adds no pending read, keeps the conditions. -/
theorem WeighLegal.of_view {s t : State} (h : WeighLegal s) (hv : weighView t = weighView s)
    (hr : t.track.reads.length ≤ s.track.reads.length) : WeighLegal t := by
  obtain ⟨hcal, hjam, htracking, hlists⟩ := h
  simp only [weighView, WeighView.mk.injEq] at hv
  obtain ⟨hw, hzc, hf, hzl, hcs, hav, hp⟩ := hv
  constructor
  · simpa only [CalLegal, hw, hzc, hf, hzl, hcs] using hcal
  · simpa only [JamLegal, hw, hp] using hjam
  · simpa only [TrackingLegal, zeroConditions, hw, hcs, hav, hp] using htracking
  · simp only [ListsBounded, hw] at hlists ⊢
    exact ⟨hlists.1, hlists.2.1, hr.trans hlists.2.2⟩

/-- The same for an operation that leaves the three blocks and the pending reads, as its frame lemma says. -/
theorem WeighLegal.of_blocks {s t : State} (h : WeighLegal s) (hw : t.weigh = s.weigh := by simp)
    (hc : t.cal = s.cal := by simp) (hp : t.part = s.part := by simp)
    (hr : t.track.reads = s.track.reads := by simp) : WeighLegal t :=
  h.of_view (weighView_of_blocks hw hc hp) (by rw [hr])

/-- The conditions of zero tracking read whether the platform is empty, the zero-set averaging, the calibration and the part
state (R14). -/
theorem zeroConditions_congr {s t : State} (hp : t.weigh.platform.isEmpty = s.weigh.platform.isEmpty)
    (hz : t.weigh.zeroSet = s.weigh.zeroSet) (hc : t.cal = s.cal) (hs : t.part.state = s.part.state) :
    zeroConditions t = zeroConditions s := by simp only [zeroConditions, hp, hz, hc, hs]

@[simp] theorem zeroConditions_refreshZero (s : State) : zeroConditions (refreshZero s) = zeroConditions s := by
  simp [zeroConditions]

/-- The test of zero tracking's conditions makes tracking legal; the other conditions do not read what it writes. -/
theorem weighLegal_refreshZero {s : State} (hc : CalLegal s) (hj : JamLegal s) (hl : ListsBounded s) :
    WeighLegal (refreshZero s) where
  cal := by simpa [CalLegal] using hc
  jam := by simpa [JamLegal] using hj
  tracking := by simp [TrackingLegal]
  lists := by simpa [ListsBounded] using hl

/-- A change of the part state sets the jam timer and zero tracking, whatever they were (R178, R8, R14). -/
theorem weighLegal_changePart (new : PartState) (why : ChangeReason) {s : State} (hc : CalLegal s) (hl : ListsBounded s) :
    WeighLegal (changePart new why s) := by
  refine weighLegal_refreshZero (by simpa [CalLegal] using hc) ?_ (by simpa [ListsBounded] using hl)
  simp only [JamLegal, raiseEvent_frame, jamAfter]
  split <;> simp_all

theorem weighLegal_endZeroSet (o : Outcome) (detail : Word) {s : State} (h : WeighLegal s) :
    WeighLegal (endZeroSet o detail s) := by
  obtain ⟨hcal, hjam, -, hlists⟩ := id h
  unfold endZeroSet
  split
  · exact h
  · exact weighLegal_refreshZero (by simpa [CalLegal] using hcal) (by simpa [JamLegal] using hjam)
      (by simpa [ListsBounded] using hlists)

theorem weighView_finishHeldCal (o : Outcome) (detail : Word) (s : State) :
    weighView (finishHeldCal o detail s) = weighView s := by
  unfold finishHeldCal
  split <;> simp [weighView]

theorem weighLegal_finishHeldCal (o : Outcome) (detail : Word) {s : State} (h : WeighLegal s) :
    WeighLegal (finishHeldCal o detail s) := h.of_view (weighView_finishHeldCal o detail s) (by simp)

theorem weighLegal_endCalAveraging (o : Outcome) (detail : Word) {s : State} (h : WeighLegal s) :
    WeighLegal (endCalAveraging o detail s) := by
  unfold endCalAveraging
  split
  · exact h
  · obtain ⟨hcal, hjam, -, hlists⟩ := h
    have hv := weighView_finishHeldCal o detail { s with cal := { s.cal with averaging := none } }
    simp only [weighView, WeighView.mk.injEq] at hv
    obtain ⟨hw, hzc, hf, hzl, hcs, -, hp⟩ := hv
    exact weighLegal_refreshZero (by simpa only [CalLegal, hw, hzc, hf, hzl, hcs] using hcal)
      (by simpa only [JamLegal, hw, hp] using hjam) (by simpa [ListsBounded] using hlists)

theorem weighLegal_abortStoreOrder {s : State} (h : WeighLegal s) : WeighLegal (abortStoreOrder s) := by
  unfold abortStoreOrder
  split
  · exact h
  · exact weighLegal_finishHeldCal _ _ h

/-- The entry to FAULT_STOP stops the jam timer, so it asks nothing of the timer and of tracking before (R173, R8). -/
theorem weighLegal_enterFaultStop (c : Cause) {s : State} (hc : CalLegal s) (hl : ListsBounded s) :
    WeighLegal (enterFaultStop c s) := by
  refine weighLegal_abortStoreOrder (weighLegal_endCalAveraging _ _ (weighLegal_endZeroSet _ _ ?_))
  refine (weighLegal_changePart .faultStop c.reason (s := { s with part := { s.part with cause := some c, stopReq := true } })
    hc hl).of_blocks ?_ ?_ ?_ ?_ <;> simp

theorem weighLegal_handCause (c : Cause) {s : State} (h : WeighLegal s) : WeighLegal (handCause c s) := by
  unfold handCause
  split
  · exact weighLegal_enterFaultStop c h.cal h.lists
  · exact weighLegal_enterFaultStop c h.cal h.lists
  · exact h

theorem weighLegal_silentCheck {s : State} (h : WeighLegal s) : WeighLegal (silentCheck s) := by
  unfold silentCheck
  split
  · exact h
  · exact weighLegal_handCause _ h

theorem weighLegal_readinessTest {s : State} (h : WeighLegal s) : WeighLegal (readinessTest s) := by
  unfold readinessTest
  dsimp only
  have hchange := weighLegal_changePart (lineState s) .ready h.cal h.lists
  repeat' split
  · exact weighLegal_silentCheck (weighLegal_endCalAveraging _ _ hchange)
  · exact weighLegal_silentCheck hchange
  · exact h

/-! #### Samples, zero tracking and the averagings -/

theorem appendSample_length_le (x : Sample) (l : List Sample) : (appendSample x l).length ≤ 64 := by
  simp [appendSample]; omega

theorem weighLegal_takeSample (x : Sample) {s : State} (h : WeighLegal s) : WeighLegal (takeSample x s) where
  cal := by simpa [CalLegal] using h.cal
  jam := by simpa [JamLegal] using h.jam
  tracking := by simpa [TrackingLegal, zeroConditions] using h.tracking
  lists := by
    obtain ⟨-, hp, hr⟩ := h.lists
    exact ⟨by simpa using appendSample_length_le x s.weigh.samples, by simpa using hp, by simpa using hr⟩

theorem clampTo_mem {lo hi : Int} (h : lo ≤ hi) (x : Int) : lo ≤ clampTo lo hi x ∧ clampTo lo hi x ≤ hi := by
  unfold clampTo
  repeat' split
  all_goals omega

/-- Z moved within zero_limit of Zc, with any refusal run, accumulator and tracked sample, keeps the conditions. -/
theorem WeighLegal.with_zero {s t : State} (h : WeighLegal s)
    (hw : t.weigh = { s.weigh with z := t.weigh.z, acc := t.weigh.acc, refusals := t.weigh.refusals })
    (hz : (t.weigh.z - s.cal.zc).natAbs ≤ s.cal.zeroLimit) (hc : t.cal = s.cal) (hp : t.part = s.part)
    (ht : t.track = s.track) : WeighLegal t := by
  obtain ⟨⟨-, hcal⟩, hjam, htracking, hlists⟩ := h
  constructor
  · exact ⟨by rw [hc]; exact hz, by rw [hc]; exact hcal⟩
  · rw [JamLegal, hw, hp]; exact hjam
  · rw [TrackingLegal, zeroConditions, hw, hc, hp]; exact htracking
  · rw [ListsBounded, hw, ht]; exact hlists

theorem weighLegal_zeroStep (cand : Int) {s : State} (h : WeighLegal s) : WeighLegal (zeroStep cand s) := by
  have hclamp := clampTo_mem (lo := s.cal.zc - s.cal.zeroLimit) (hi := s.cal.zc + s.cal.zeroLimit) (by omega)
    (s.weigh.z + Int.tdiv (cand - s.weigh.z) 8)
  unfold zeroStep
  dsimp only
  split <;> exact h.with_zero (by simp) (by simp only [raiseEvent_frame]; omega) (by simp) (by simp) (by simp)

theorem weighLegal_zeroRefuse (cand : Int) {s : State} (h : WeighLegal s) : WeighLegal (zeroRefuse cand s) := by
  unfold zeroRefuse
  dsimp only
  split <;> exact h.with_zero (by simp) (by simpa using h.cal.1) (by simp) (by simp) (by simp)

theorem weighLegal_takeCandidate (cand : Int) {s : State} (h : WeighLegal s) : WeighLegal (takeCandidate cand s) := by
  unfold takeCandidate
  split
  · exact weighLegal_zeroStep cand h
  · exact weighLegal_zeroRefuse cand h

theorem weighLegal_zeroTrackSample (x : Sample) {s : State} (h : WeighLegal s) : WeighLegal (zeroTrackSample x s) := by
  have hacc (a : ZeroAcc) : WeighLegal { s with weigh := { s.weigh with acc := a } } :=
    h.with_zero rfl h.cal.1 rfl rfl rfl
  unfold zeroTrackSample
  dsimp only
  repeat' split
  · exact hacc _
  · exact hacc _
  · exact weighLegal_takeCandidate _ (hacc _)
  · exact h

/-- A zero-set averaging ends: its order is finished and zero tracking tested again (R21). -/
theorem weighLegal_finishZeroSet (slot : Slot) (o : Outcome) (detail : Int) {s : State} (hc : CalLegal s) (hj : JamLegal s)
    (hl : ListsBounded s) : WeighLegal (finishZeroSet slot o detail s) :=
  weighLegal_refreshZero (by simpa [CalLegal] using hc) (by simpa [JamLegal] using hj) (by simpa [ListsBounded] using hl)

theorem weighLegal_completeZeroSet (z : ZeroSet) {s : State} (h : WeighLegal s) : WeighLegal (completeZeroSet z s) := by
  unfold completeZeroSet
  dsimp only
  split
  · exact weighLegal_finishZeroSet _ _ _ h.cal h.jam h.lists
  split
  · exact weighLegal_finishZeroSet _ _ _ h.cal h.jam h.lists
  split
  · exact weighLegal_finishZeroSet _ _ _ h.cal h.jam h.lists
  · next hlimit => exact weighLegal_finishZeroSet _ _ _ ⟨by simpa using hlimit, h.cal.2⟩ h.jam h.lists

theorem weighLegal_zeroSetSample (x : Sample) {s : State} (h : WeighLegal s) : WeighLegal (zeroSetSample x s) := by
  unfold zeroSetSample
  dsimp only
  split
  · exact h
  · next z hz =>
    split
    · exact ⟨h.cal, h.jam, by simpa [TrackingLegal, zeroConditions, hz] using h.tracking, h.lists⟩
    · exact weighLegal_completeZeroSet _ h

/-- The calibration state changed, with values that fit it (R23). -/
theorem weighLegal_setCalState (c : CalState) {s : State} (hc : CalLegal { s with cal := { s.cal with state := c } })
    (hj : JamLegal s) (hl : ListsBounded s) : WeighLegal (setCalState c s) :=
  weighLegal_readinessTest (weighLegal_refreshZero hc hj hl)

theorem weighLegal_setCalZero (mean : Int) (limit : Nat) {s : State} (h : WeighLegal s) :
    WeighLegal (setCalZero mean limit s) := by
  obtain ⟨⟨-, hnone, honly, hvalid⟩, hjam, htracking, hlists⟩ := h
  unfold setCalZero
  dsimp only
  split
  · next hstate =>
    refine weighLegal_setCalState _ ⟨by simp, by simp, fun _ => ?_, by simp⟩ hjam hlists
    exact (hnone hstate).2.1
  · next hstate => exact ⟨⟨by simp, fun hs => absurd hs hstate, honly, hvalid⟩, hjam, htracking, hlists⟩

theorem weighLegal_setCalSpan (f : Nat) (hf : 1 ≤ f ∧ f ≤ 4194303) {s : State} (h : WeighLegal s) :
    WeighLegal (setCalSpan f s) := by
  obtain ⟨⟨hz, -⟩, hjam, htracking, hlists⟩ := h
  unfold setCalSpan
  dsimp only
  split
  · next hstate => exact ⟨⟨hz, by simp [hstate], by simp [hstate], fun _ => hf⟩, hjam, htracking, hlists⟩
  · exact weighLegal_setCalState _ ⟨hz, by simp, by simp, fun _ => hf⟩ hjam hlists

theorem weighLegal_beginStoreWrite (kind : CalKind) {s : State} (h : WeighLegal s) : WeighLegal (beginStoreWrite kind s) :=
  h.of_view (by simp [weighView, beginStoreWrite]) (by simp)

theorem weighLegal_completeCal (c : CalAveraging) {s : State} (h : WeighLegal s) : WeighLegal (completeCal c s) := by
  have hended : WeighLegal (refreshZero { s with cal := { s.cal with averaging := none } }) :=
    weighLegal_refreshZero h.cal h.jam h.lists
  unfold completeCal
  dsimp only
  split
  · exact weighLegal_finishHeldCal _ _ hended
  split
  · exact weighLegal_finishHeldCal _ _ hended
  split
  · exact weighLegal_beginStoreWrite _ (weighLegal_setCalZero _ _ hended)
  split
  · exact weighLegal_finishHeldCal _ _ hended
  split
  · exact weighLegal_finishHeldCal _ _ hended
  · next hrange =>
    refine weighLegal_beginStoreWrite _ (weighLegal_setCalSpan _ ?_ hended)
    simp only [Bool.or_eq_true, decide_eq_true_eq, not_or, not_lt] at hrange
    omega

theorem weighLegal_calSample (x : Sample) {s : State} (h : WeighLegal s) : WeighLegal (calSample x s) := by
  unfold calSample
  dsimp only
  split
  · exact h
  · next c hc =>
    split
    · exact h.of_view (by simp [weighView, hc]) le_rfl
    · exact weighLegal_completeCal _ h

/-! #### The platform -/

theorem openWeighing_length (tag : Word) (l : List Weighing) : (openWeighing tag l).length = l.length + 1 := by
  unfold openWeighing
  split <;> simp_all

theorem openWeighing_ne_nil (tag : Word) (l : List Weighing) : openWeighing tag l ≠ [] :=
  List.ne_nil_of_length_pos (by rw [openWeighing_length]; omega)

theorem weighLegal_openPlatform {s : State} (h : WeighLegal s) (hroom : s.weigh.platform.length < 4) :
    WeighLegal (openPlatform s) := by
  refine weighLegal_refreshZero h.cal ?_ ?_
  · intro hj
    refine ⟨?_, openWeighing_ne_nil _ _⟩
    dsimp only at hj ⊢
    split at hj
    · simp_all
    · exact (h.jam hj).1
  · exact ⟨h.lists.1, by simpa [openWeighing_length] using hroom, h.lists.2.2⟩

theorem weighLegal_emptyPlatform {s : State} (h : WeighLegal s) : WeighLegal (emptyPlatform s) :=
  weighLegal_refreshZero h.cal (fun hj => absurd rfl hj) ⟨h.lists.1, by simp, h.lists.2.2⟩

theorem weighLegal_closeOldest {w : Weighing} {rest : List Weighing} {s : State} (h : WeighLegal s)
    (hp : s.weigh.platform = w :: rest) : WeighLegal (closeOldest rest s) := by
  unfold closeOldest
  split
  · exact weighLegal_emptyPlatform h
  · next hrest =>
    have hlen := h.lists.2.1
    rw [hp, List.length_cons] at hlen
    have hstill : rest.isEmpty = s.weigh.platform.isEmpty := by simpa [hp] using hrest
    refine ⟨h.cal, fun hj => ⟨(h.jam hj).1, hrest⟩, ?_, ⟨h.lists.1, by dsimp only; omega, h.lists.2.2⟩⟩
    refine h.tracking.trans (Eq.symm ?_)
    exact zeroConditions_congr hstill rfl rfl rfl

theorem weighLegal_interruptWeighings {s : State} (h : WeighLegal s) : WeighLegal (interruptWeighings s) where
  cal := h.cal
  jam hj := ⟨(h.jam hj).1, by simpa [interruptWeighings] using (h.jam hj).2⟩
  tracking := by
    refine h.tracking.trans (Eq.symm ?_)
    exact zeroConditions_congr (by simp [interruptWeighings]) rfl rfl rfl
  lists := by simpa [ListsBounded, interruptWeighings] using h.lists

end Sys2Proof.Machine

namespace Sys2Proof.Machine

/-! PROOFS. The conditions on the Weigh Channel under the orders and the commands. -/

theorem weighLegal_orderChangeover (slot : Slot) {s : State} (h : WeighLegal s) : WeighLegal (orderChangeover slot s) := by
  unfold orderChangeover
  split
  · exact h.of_blocks
  split
  · exact h.of_blocks
  split
  · exact weighLegal_readinessTest (h.of_blocks)
  · exact h.of_blocks

theorem weighLegal_orderZeroSet (slot : Slot) {s : State} (h : WeighLegal s) : WeighLegal (orderZeroSet slot s) := by
  unfold orderZeroSet
  split
  · exact weighLegal_refreshZero h.cal h.jam h.lists
  · exact h.of_blocks

theorem weighLegal_beginCalAveraging (kind : CalKind) (slot : Slot) {s : State} (h : WeighLegal s) :
    WeighLegal (beginCalAveraging kind slot s) := weighLegal_refreshZero h.cal h.jam h.lists

theorem weighLegal_orderCalZero (slot : Slot) {s : State} (h : WeighLegal s) : WeighLegal (orderCalZero slot s) := by
  unfold orderCalZero
  split
  · exact weighLegal_beginCalAveraging _ _ h
  · exact h.of_blocks

theorem weighLegal_orderTrackFlush (slot : Slot) {s : State} (h : WeighLegal s) : WeighLegal (orderTrackFlush slot s) := by
  have hempty : WeighLegal (emptyPlatform (setReads [] (flushEntries s))) :=
    weighLegal_emptyPlatform (h.of_view (weighView_of_blocks (by simp) (by simp) (by simp)) (by simp))
  unfold orderTrackFlush
  dsimp only
  split <;> exact hempty.of_blocks

theorem weighLegal_orderFaultClear (slot : Slot) {s : State} (h : WeighLegal s) : WeighLegal (orderFaultClear slot s) :=
  weighLegal_silentCheck <|
    (weighLegal_changePart (lineState s) .faultClear (s := { s with part := { s.part with cause := none, stopReq := false } })
      h.cal h.lists).of_blocks

/-- An order handed to its block keeps the conditions; those of the production and the valve orders do not touch them. -/
theorem weighLegal_handOver (k : OrderKind) (slot : Slot) {s : State} (h : WeighLegal s) :
    WeighLegal (handOver k slot s) := by
  cases k with
  | changeover => exact weighLegal_orderChangeover slot h
  | zeroSet => exact weighLegal_orderZeroSet slot h
  | calZero => exact weighLegal_orderCalZero slot h
  | calSpan => exact weighLegal_beginCalAveraging .span slot h
  | trackFlush => exact weighLegal_orderTrackFlush slot h
  | faultClear => exact weighLegal_orderFaultClear slot h
  | lotClose | valveLock | valveRelease | valveTrim | loopSet | snapshot =>
    exact h.of_blocks (by simp [handOver]) (by simp [handOver]) (by simp [handOver]) (by simp [handOver])

theorem weighLegal_examineSlot (slot : Slot) {s : State} (h : WeighLegal s) : WeighLegal (examineSlot slot s) := by
  unfold examineSlot takeOrder
  split
  · split
    · exact h.of_blocks
    · split
      · exact h.of_blocks
      · exact weighLegal_handOver _ slot h
  · exact h

theorem weighLegal_scanSlots {s : State} (h : WeighLegal s) : WeighLegal (scanSlots s) := by
  unfold scanSlots
  induction scanOrder generalizing s with
  | nil => exact h
  | cons slot l ih => exact ih (weighLegal_examineSlot slot h)

/-! #### The commands -/

/-- RESTART sets Z to Zc, empties the platform and the pending reads, and ends with a change of the part state. -/
theorem weighLegal_restartPart {s : State} (h : WeighLegal s) : WeighLegal (restartPart s) := by
  have horders : WeighLegal (calOrdersAtRestart (restartQueue { s with part := { s.part with cause := none, stopReq := false } })) :=
    weighLegal_abortStoreOrder (weighLegal_endCalAveraging _ _ (weighLegal_endZeroSet _ _
      (h.of_view (by simp [weighView]) (by simp))))
  obtain ⟨⟨hz, hcal⟩, -, -, hlists⟩ := horders
  refine weighLegal_silentCheck (weighLegal_changePart _ _ ?_ ?_)
  · refine ⟨?_, ?_⟩
    · simp [restartBlocks, weighAtRestart]
    · simpa [restartBlocks] using hcal
  · refine ⟨?_, ?_, ?_⟩
    · simpa [restartBlocks, weighAtRestart] using hlists.1
    · simp [restartBlocks, weighAtRestart]
    · simp [restartBlocks]

theorem weighLegal_hostWrite (addr value : Word) {s : State} (h : WeighLegal s) : WeighLegal (hostWrite addr value s) := by
  unfold hostWrite writeControl
  split
  · exact h
  split
  · exact h.of_blocks
  split
  · split
    · exact weighLegal_restartPart h
    · exact h
  split
  · exact h.of_blocks
  split
  · exact h.of_blocks
  · exact h

/-- A good record gives a span factor in its range with VALID, and none with ZERO_ONLY (R34, R35). -/
theorem recordCal_fits {bytes : List Byte} (hgood : recordFailure bytes = none) (c : Calibration) :
    (recordCal bytes c).state ≠ .none ∧ ((recordCal bytes c).state = .zeroOnly → (recordCal bytes c).f = 0) ∧
    ((recordCal bytes c).state = .valid → 1 ≤ (recordCal bytes c).f ∧ (recordCal bytes c).f ≤ 4194303) := by
  unfold recordFailure at hgood
  dsimp only at hgood
  split_ifs at hgood with hsign hsum hlevel hfields hfields
  · simpa [recordCal, hlevel, inRange] using (Bool.and_eq_true_iff.mp hfields).2
  · simpa [recordCal, hlevel] using (Bool.and_eq_true_iff.mp hfields).2

theorem calLegal_takeRecord {bytes : List Byte} {s : State} (hgood : recordFailure bytes = none) :
    CalLegal (takeRecord bytes s) := by
  obtain ⟨hstate, honly, hvalid⟩ := recordCal_fits hgood s.cal
  exact ⟨by simp [takeRecord], fun hnone => absurd hnone hstate, honly, hvalid⟩

theorem weighLegal_storeReadEnd (bytes : List Byte) {s t : State} (h : WeighLegal s)
    (ht : execStoreReadEnd bytes s = .next t) : WeighLegal t := by
  cases ht
  split
  · split
    · next hgood =>
      exact (weighLegal_changePart .config .loaded (calLegal_takeRecord hgood) h.lists).of_blocks rfl rfl rfl rfl
    · next test _ =>
      exact (weighLegal_changePart .config .loaded (s := raiseEvent .storeBlank test 0 0 s) h.cal h.lists).of_blocks
        rfl rfl rfl rfl
  · exact h

theorem weighLegal_sampleArrival (count : BitVec 24) {s t : State} (h : WeighLegal s)
    (ht : execSampleArrival count s = .next t) : WeighLegal t := by
  cases ht
  split
  · exact weighLegal_calSample _ (weighLegal_zeroSetSample _ (weighLegal_zeroTrackSample _ (weighLegal_takeSample _ h)))
  · exact h

theorem weighLegal_storeSaved {s : State} (h : WeighLegal s) : WeighLegal (storeSaved s) :=
  weighLegal_finishHeldCal _ _ (h.of_view rfl le_rfl)

theorem weighLegal_storeFailed (how : Nat) {s : State} (h : WeighLegal s) : WeighLegal (storeFailed how s) :=
  weighLegal_finishHeldCal _ _ (h.of_view rfl le_rfl)

theorem weighLegal_storeWriteCompared (readBack : List Byte) {s t : State} (h : WeighLegal s)
    (ht : execStoreWriteCompared readBack s = .next t) : WeighLegal t := by
  cases ht
  repeat' split
  · exact h
  · exact weighLegal_storeSaved h
  · exact weighLegal_storeFailed _ h

theorem weighLegal_storeTimerExpiry {s t : State} (h : WeighLegal s) (ht : execStoreTimerExpiry s = .next t) :
    WeighLegal t := by
  cases ht
  split
  · exact weighLegal_storeFailed _ h
  · exact h

theorem weighLegal_converterWatchExpiry {s t : State} (h : WeighLegal s) (ht : execConverterWatchExpiry s = .next t) :
    WeighLegal t := by
  cases ht
  split
  · exact weighLegal_handCause _ ⟨h.cal, h.jam, h.tracking, h.lists⟩
  · exact h

theorem weighLegal_platformInArrival {s t : State} (h : WeighLegal s) (ht : execPlatformInArrival s = .next t) :
    WeighLegal t := by
  cases ht
  split
  · split
    · exact h.of_blocks
    · next hroom =>
      have hopen := weighLegal_openPlatform h (by omega)
      exact (weighLegal_endCalAveraging .disturbed 0 (weighLegal_endZeroSet .disturbed 0 hopen)).of_view
        (weighView_of_blocks (by simp) (by simp) (by simp)) (trackPlatformIn_reads_length _).le
  split
  · exact weighLegal_endCalAveraging _ _ h
  · exact h

theorem weighLegal_platformOutArrival {s t : State} (h : WeighLegal s) (ht : execPlatformOutArrival s = .next t) :
    WeighLegal t := by
  cases ht
  split
  · split
    · exact h.of_blocks
    · next w rest hp =>
      exact (weighLegal_closeOldest h hp).of_blocks
  · exact h

theorem weighLegal_lineRunRise {s t : State} (h : WeighLegal s) (ht : execLineRunRise s = .next t) : WeighLegal t := by
  have hlevel : WeighLegal (setLineRun true s) := h.of_blocks
  cases ht
  split
  · have hended := weighLegal_endCalAveraging .wrongState 0 (weighLegal_endZeroSet .wrongState 0 hlevel)
    exact weighLegal_changePart _ _ hended.cal hended.lists
  · exact hlevel

theorem weighLegal_lineRunFall {s t : State} (h : WeighLegal s) (ht : execLineRunFall s = .next t) : WeighLegal t := by
  have hlevel : WeighLegal (interruptWeighings (setLineRun false s)) :=
    weighLegal_interruptWeighings (h.of_blocks)
  cases ht
  split
  · exact weighLegal_changePart _ _ hlevel.cal hlevel.lists
  · exact hlevel

theorem weighLegal_jamTimerExpiry {s t : State} (h : WeighLegal s) (ht : execJamTimerExpiry s = .next t) : WeighLegal t := by
  cases ht
  split
  · split
    · next hrun =>
      unfold jam handCause
      simp only [raiseEvent_frame, hrun]
      exact weighLegal_enterFaultStop _ (by simpa [CalLegal] using h.cal) (by simpa [ListsBounded] using h.lists)
    · exact h
  · exact h

theorem weighLegal_readerEyeArrival {s t : State} (h : WeighLegal s) (ht : execReaderEyeArrival s = .next t) :
    WeighLegal t := by
  cases ht
  split
  · have hroom := makeReadRoom_reads_length s h.lists.2.2
    have hmade : WeighLegal (setReads [] (makeReadRoom s)) :=
      h.of_view (weighView_of_blocks (by simp) (by simp) (by simp)) (by simp)
    exact ⟨hmade.cal, hmade.jam, hmade.tracking, hmade.lists.1, hmade.lists.2.1, by simpa using Nat.lt_succ_of_le hroom⟩
  · exact h

theorem weighLegal_readDeadlineExpiry {s t : State} (h : WeighLegal s) (ht : execReadDeadlineExpiry s = .next t) :
    WeighLegal t := by
  cases ht
  repeat' split
  · exact h
  · exact h.of_view (weighView_of_blocks (by simp) (by simp) (by simp))
      (by simpa using (List.eraseP_sublist (p := PendingRead.expired) (l := s.track.reads)).length_le)
  · exact h

theorem weighLegal_readerTake (c : Byte) {s : State} (h : WeighLegal s) : WeighLegal (readerTake c s) :=
  h.of_view (weighView_of_blocks (by simp) (by simp) (by simp)) (readerTake_reads_length c s)

theorem weighLegal_orderScan (switchOn : Bool) {s t : State} (h : WeighLegal s) (ht : execOrderScan switchOn s = .next t) :
    WeighLegal t := by
  have hnoted : WeighLegal (noteSwitch switchOn s) := h.of_blocks
  cases ht
  split
  · exact weighLegal_scanSlots (hnoted.of_blocks rfl rfl rfl rfl)
  · exact hnoted

end Sys2Proof.Machine

namespace Sys2Proof.Machine

theorem weighLegal_fullReset : WeighLegal State.reset :=
  ⟨⟨by decide, fun _ => ⟨rfl, rfl, rfl⟩, nofun, nofun⟩, fun h => absurd rfl h, rfl, by decide, by decide, by decide⟩

theorem weighLegal_passUnit {s : State} (h : WeighLegal s) : WeighLegal (passUnit s) := by
  have hjam : (passUnit s).weigh.jam ≠ .stopped → s.weigh.jam ≠ .stopped := by
    intro hne heq
    simp [passUnit, tickWeigh, heq] at hne
  refine ⟨h.cal, fun hne => h.jam (hjam hne), h.tracking, h.lists.1, h.lists.2.1, ?_⟩
  simpa [passUnit, tickTrack, apply_ite Track.reads, apply_ite List.length] using h.lists.2.2

theorem weighLegal_tick {s : State} (h : WeighLegal s) : WeighLegal (tick s) := by
  unfold tick
  split
  · exact h.of_blocks
  · exact (weighLegal_passUnit h).of_blocks rfl rfl rfl rfl

/-- Every command keeps the conditions: those that touch what they read by the lemmas above, the others by their frames. -/
theorem weighLegal_exec (c : Instr) {s t : State} (h : WeighLegal s) (ht : exec c s = .next t) : WeighLegal t := by
  cases c with
  | fullReset => cases ht; exact weighLegal_fullReset.of_blocks rfl rfl rfl rfl
  | clearingComplete =>
    cases ht
    split
    · exact weighLegal_changePart _ _ h.cal h.lists
    · exact h
  | storeReadEnd bytes => exact weighLegal_storeReadEnd bytes h ht
  | restart value => cases ht; exact weighLegal_hostWrite _ _ h
  | noticeClear value => cases ht; exact weighLegal_hostWrite _ _ h
  | noticeMaskWrite value => cases ht; exact weighLegal_hostWrite _ _ h
  | registerWriteIgnored addr value => cases ht; exact weighLegal_hostWrite _ _ h
  | hostMemoryWrite addr value => cases ht; exact weighLegal_hostWrite _ _ h
  | sampleArrival count => exact weighLegal_sampleArrival count h ht
  | storeWriteCompared readBack => exact weighLegal_storeWriteCompared readBack h ht
  | storeTimerExpiry => exact weighLegal_storeTimerExpiry h ht
  | converterWatchExpiry => exact weighLegal_converterWatchExpiry h ht
  | platformInArrival => exact weighLegal_platformInArrival h ht
  | platformOutArrival => exact weighLegal_platformOutArrival h ht
  | lineRunRise => exact weighLegal_lineRunRise h ht
  | lineRunFall => exact weighLegal_lineRunFall h ht
  | jamTimerExpiry => exact weighLegal_jamTimerExpiry h ht
  | calSwitchOff => cases ht; exact weighLegal_endCalAveraging _ _ (h.of_blocks rfl rfl rfl rfl)
  | readerEyeArrival => exact weighLegal_readerEyeArrival h ht
  | readDeadlineExpiry => exact weighLegal_readDeadlineExpiry h ht
  | readerMessage => cases ht; exact weighLegal_readerTake _ h
  | readerOverlong c => cases ht; exact weighLegal_readerTake _ h
  | readerCharacter c => cases ht; exact weighLegal_readerTake _ h
  | readerFramingError brk => cases ht; exact h.of_blocks
  | dischargeFrame b => cases ht; exact h.of_blocks
  | doseAckFrame b => cases ht; exact h.of_blocks
  | fillerBufferOverrun b => cases ht; exact h.of_blocks
  | fillerCharacter b => cases ht; exact h.of_blocks
  | badFrameCompleted b => cases ht; exact h.of_blocks
  | fillerErroredCharacter c => cases ht; exact h.of_blocks
  | rejectEyeArrival =>
    cases ht
    repeat' split
    all_goals exact h.of_blocks
  | confirmEyeArrival =>
    cases ht
    repeat' split
    · exact h.of_blocks
    · unfold rejectFailed
      exact weighLegal_handCause _ (h.of_blocks)
    · exact h.of_blocks
    · exact h
  | orderScan switchOn => exact weighLegal_orderScan switchOn h ht
  | refusalHoldoffExpiry | timeWrap | gapTimerExpiry | transmitFrameEnd | fillerIndexArrival | ackTimerExpiry
  | pulseTimerExpiry | pastRejectDeadlineExpiry | lotMinuteStep | breakEnd link =>
    cases ht
    repeat' split
    all_goals exact h.of_blocks

/-- A step is a command on the state without it, or a unit of time (logs 1, 25). -/
theorem weighLegal_step {s t : State} (h : WeighLegal s) (ht : step s = .next t) : WeighLegal t := by
  unfold step at ht
  split at ht
  · cases ht; exact weighLegal_tick h
  · next c rest _ => exact weighLegal_exec c (s := { s with pending := rest }) (h.of_blocks rfl rfl rfl rfl) ht

/-- Settles O55: the four conditions hold together after every step, by the split of a step into its command or unit. -/
theorem everyStepKeepsTheWeighChannel : Obligations.EveryStepKeepsTheWeighChannel := by
  intro s t hcal hjam htracking hlists ht
  obtain ⟨hcal', hjam', htracking', hlists'⟩ := weighLegal_step ⟨hcal, hjam, htracking, hlists⟩ ht
  exact ⟨hcal', hjam', htracking', hlists'⟩

end Sys2Proof.Machine

namespace Sys2Proof.Machine

/-! PROOFS. The frame in a form that its fields prove, and the rounding of the conventions as the only nearest quotient. -/

/-- A frame from its fourteen blocks: each is listed, or the same by the frame lemmas. -/
theorem ChangesOnly.intro {bs : List Block} {s t : State} (hpins : .pins ∈ bs ∨ t.pins = s.pins := by simp)
    (hpart : .part ∈ bs ∨ t.part = s.part := by simp) (hweigh : .weigh ∈ bs ∨ t.weigh = s.weigh := by simp)
    (hcal : .cal ∈ bs ∨ t.cal = s.cal := by simp) (htrack : .track ∈ bs ∨ t.track = s.track := by simp)
    (hreader : .reader ∈ bs ∨ t.reader = s.reader := by simp) (hfiller : .filler ∈ bs ∨ t.filler = s.filler := by simp)
    (hreject : .reject ∈ bs ∨ t.reject = s.reject := by simp) (hvalves : .valves ∈ bs ∨ t.valves = s.valves := by simp)
    (hdose : .dose ∈ bs ∨ t.dose = s.dose := by simp) (hrecipes : .recipes ∈ bs ∨ t.recipes = s.recipes := by simp)
    (horders : .orders ∈ bs ∨ t.orders = s.orders := by simp) (hexch : .exch ∈ bs ∨ t.exch = s.exch := by simp)
    (hpending : .pending ∈ bs ∨ t.pending = s.pending := by simp) : ChangesOnly bs s t := by
  intro b hb
  cases b with
  | pins => exact hpins.resolve_left hb
  | part => exact hpart.resolve_left hb
  | weigh => exact hweigh.resolve_left hb
  | cal => exact hcal.resolve_left hb
  | track => exact htrack.resolve_left hb
  | reader => exact hreader.resolve_left hb
  | filler => exact hfiller.resolve_left hb
  | reject => exact hreject.resolve_left hb
  | valves => exact hvalves.resolve_left hb
  | dose => exact hdose.resolve_left hb
  | recipes => exact hrecipes.resolve_left hb
  | orders => exact horders.resolve_left hb
  | exch => exact hexch.resolve_left hb
  | pending => exact hpending.resolve_left hb

/-- The quotient of the magnitudes with the numerator's sign: at a tie it lies past the numerator. -/
theorem roundAway_nearest (num : Int) {den : Nat} (hden : 0 < den) : NearestAway num den (roundAway num den) := by
  have hlow := Nat.div_mul_le_self (2 * num.natAbs + den) (2 * den)
  have hhigh := Nat.lt_div_mul_add (a := 2 * num.natAbs + den) (b := 2 * den) (by omega)
  unfold NearestAway roundAway
  dsimp only
  generalize (2 * num.natAbs + den) / (2 * den) = q at hlow hhigh
  have hmul : q * (2 * den) = 2 * (q * den) := by ring
  rw [hmul] at hlow hhigh
  have hcast : ((q * den : Nat) : Int) = (q : Int) * den := by push_cast; ring
  have hneg : -(q : Int) * den = -((q * den : Nat) : Int) := by push_cast; ring
  split
  · rw [hneg]; generalize q * den = p at *; omega
  · rw [← hcast]; generalize q * den = p at *; omega

/-- Two nearest quotients with ties away from zero are the same: were one larger, both would be ties, on the two sides of the
numerator, and the one toward zero would not lie past it. -/
theorem NearestAway.not_lt {num : Int} {den : Nat} {p q : Int} (hden : 0 < den) (hp : NearestAway num den p)
    (hq : NearestAway num den q) : ¬p < q := by
  intro hlt
  obtain ⟨hpn, hpt⟩ := hp
  obtain ⟨hqn, hqt⟩ := hq
  have hgap : p * den + den ≤ q * den := by
    have := Int.mul_le_mul_of_nonneg_right (Int.add_one_le_of_lt hlt) (Int.natCast_nonneg den)
    linarith [add_mul p 1 (den : Int)]
  rcases le_or_gt 0 p with hsign | hsign
  · have hpos : 0 ≤ p * den := by positivity
    omega
  · have hqneg : q * den ≤ 0 := by
      have hadjacent : q * den = p * den + den := by omega
      have hsucc : (p + 1) * den ≤ 0 := mul_nonpos_of_nonpos_of_nonneg (by omega) (by omega)
      rw [hadjacent]; linarith [add_mul p 1 (den : Int)]
    omega

/-- The nearest quotient with ties away from zero is `roundAway` (Conventions, Rounding). -/
theorem NearestAway.eq_roundAway {num : Int} {den : Nat} {q : Int} (hden : 0 < den) (hq : NearestAway num den q) :
    q = roundAway num den := by
  have hnear := roundAway_nearest num hden
  have hnotlt := hq.not_lt hden hnear
  have hnotgt := hnear.not_lt hden hq
  omega

/-! PROOFS. The candidate of zero tracking at the band test (R16, R17). -/

/-- Settles O15: the step in the band, by whether the clamp holds the value before it at the upper, the lower or no bound. -/
theorem aCandidateWithinTheBandMovesZ : Obligations.ACandidateWithinTheBandMovesZ := by
  intro cand s hband before low high t
  have ht : t = zeroStep cand s := if_pos hband
  have hz : t.weigh.z = clampTo low high before := by
    rw [ht]; unfold zeroStep; dsimp only; split <;> simp [low, high, before]
  have hw : t.weigh = { s.weigh with z := t.weigh.z, refusals := 0 } := by
    rw [ht]; unfold zeroStep; dsimp only; split <;> simp
  have hexch : t.exch = if clampTo low high before = before then s.exch
      else s.exch.event .zeroClamped (if clampTo low high before < before then 1 else 2) (wordOfInt before)
        (wordOfInt (clampTo low high before)) := by
    rw [ht]; unfold zeroStep; dsimp only; split <;> simp [*, low, high, before, raiseEvent]
  have hbounds : low ≤ high := by simp only [low, high]; omega
  refine ⟨by rw [hw], fun hlow hhigh => ?_, fun hhigh => ?_, fun hlow => ?_, hw, ?_⟩
  · have hin : clampTo low high before = before := by unfold clampTo; split_ifs <;> omega
    exact ⟨hz.trans hin, by simp [hexch, hin]⟩
  · have htop : clampTo low high before = high := by unfold clampTo; split_ifs <;> omega
    exact ⟨hz.trans htop, by simp only [hexch, htop, hhigh.ne, if_false, hhigh, if_true]; rfl⟩
  · have hbottom : clampTo low high before = low := by unfold clampTo; split_ifs; omega
    exact ⟨hz.trans hbottom, by simp only [hexch, hbottom, hlow.ne', if_false, hlow.not_gt]; rfl⟩
  · rw [ht]; exact .intro

/-! PROOFS. The judgement of a weighing (R10 to R13). -/

/-- The samples of the window are those whose span from the PLATFORM_IN lies in settle..D − guard (R10). -/
theorem mem_windowOf {r : Recipe} {inTag outTag : Word} {l : List Sample} {x : Sample} :
    x ∈ windowOf r inTag outTag l ↔ x ∈ l ∧ r.settle + r.guard ≤ tagSpan outTag inTag ∧
      r.settle ≤ tagSpan x.tag inTag ∧ tagSpan x.tag inTag ≤ tagSpan outTag inTag - r.guard := by
  unfold windowOf
  dsimp only
  split
  · simp; omega
  · simp; omega

/-- The spread passes a limit exactly where two counts lie further apart: it is the difference of the greatest and the least. -/
theorem lt_countSpread_iff (n : Nat) (l : List Sample) :
    (n : Int) < countSpread l ↔ ∃ x ∈ l, ∃ y ∈ l, (n : Int) < x.count - y.count := by
  cases l with
  | nil => simp [countSpread]
  | cons x t =>
    have hmax : ((x :: t).map (·.count)).max? = some (t.foldl (fun m y => max m y.count) x.count) := by
      rw [List.map_cons, List.max?_cons', List.foldl_map]
    have hmin : ((x :: t).map (·.count)).min? = some (t.foldl (fun m y => min m y.count) x.count) := by
      rw [List.map_cons, List.min?_cons', List.foldl_map]
    obtain ⟨hmaxmem, hmaxle⟩ := List.max?_eq_some_iff.mp hmax
    obtain ⟨hminmem, hminle⟩ := List.min?_eq_some_iff.mp hmin
    obtain ⟨a, ha, hacount⟩ := List.mem_map.mp hmaxmem
    obtain ⟨b, hb, hbcount⟩ := List.mem_map.mp hminmem
    simp only [countSpread]
    constructor
    · intro h
      exact ⟨a, ha, b, hb, by rw [hacount, hbcount]; exact h⟩
    · rintro ⟨y, hy, z, hz, h⟩
      have := hmaxle y.count (List.mem_map_of_mem hy)
      have := hminle z.count (List.mem_map_of_mem hz)
      omega

theorem sumCounts_eq_sum (l : List Sample) : sumCounts l = (l.map (·.count)).sum := by
  rw [List.sum_eq_foldl, List.foldl_map]; rfl

/-- Settles O22: the tests of R11 one after another, and the zone by the bounds of R13. -/
theorem aWeighingIsJudgedInOrder : Obligations.AWeighingIsJudgedInOrder := by
  intro r inTag outTag z f w l mg d win spread overload
  have hover : win.any (·.overload) = true ↔ overload := by simp [overload]
  have hspread : (r.stability : Int) < countSpread win ↔ spread := lt_countSpread_iff ..
  refine ⟨fun x => mem_windowOf, fun hd => ?_, fun hd hshort => ?_, fun hd hlen ho => ?_, fun hd hlen ho hs => ?_,
    fun hd hlen ho hs hi => ?_, fun hdev => ?_⟩
  · simp [weighResult, hd]
  · simp [weighResult, hd, hshort]
  · simp [weighResult, hd, hlen.not_gt, hover.mpr ho]
  · simp only [weighResult, hd, hlen.not_gt, hover, ho, hspread, hs, if_true, if_false, Bool.false_eq_true]
  · simp only [weighResult, hd, hlen.not_gt, hover, ho, hspread, hs, hi, if_true, if_false, Bool.false_eq_true]
  · intro net
    refine ⟨rfl, fun _ => rfl, ?_, ?_, ?_⟩
    all_goals
      unfold zoneOf
      dsimp only
      split_ifs <;> simp_all <;> omega

/-- Settles O23: the gross mass is formed by the two roundings, each the nearest quotient; the range decides the result. -/
theorem theGrossMassIsFormedExactly : Obligations.TheGrossMassIsFormedExactly := by
  intro r z f w win hd hi hmin hlen hover hspread
  have hany : win.any (·.overload) = false := by simpa using hover
  have hsteady : ¬(r.stability : Int) < countSpread win := by
    rw [lt_countSpread_iff]
    rintro ⟨x, hx, y, hy, h⟩
    have := hspread x hx y hy
    omega
  have hresult : weighResult r z f w win =
      if grossMass z f (roundAway (sumCounts win) win.length) < 0 ||
        2000000 < grossMass z f (roundAway (sumCounts win) win.length) then .fault .range
      else .gross (grossMass z f (roundAway (sumCounts win) win.length)).toNat := by
    simp only [weighResult, hd, hlen.not_gt, hany, hsteady, hi, if_false, Bool.false_eq_true]
  have hmean := roundAway_nearest (win.map (·.count)).sum (den := win.length) (by omega)
  rw [← sumCounts_eq_sum] at hmean ⊢
  generalize roundAway (sumCounts win) win.length = mean at hresult hmean
  have hgross : NearestAway ((mean - z) * f) 65536 (grossMass z f mean) := roundAway_nearest _ (by norm_num)
  generalize grossMass z f mean = gross at hresult hgross
  refine ⟨mean, gross, hmean, hgross, fun hrange => ?_, fun hrange => ?_, fun e _ k hk => ?_⟩
  · rw [hresult, if_neg (by simp; omega)]
  · rw [hresult, if_pos (by simp; omega)]
  · simp [logWords, hk, grossOf, wordOfNat]

end Sys2Proof.Machine

namespace Sys2Proof.Machine

/-! PROOFS. Outside the states that take cans: no line event, no read result, no frame has an effect (R39, R71, R82). -/

section OutsideProduction

variable {s : State} (hout : s.takesCans = false)

include hout

theorem raiseLineEvent_outside (k : EventKind) (arg0 : Nat) (arg1 arg2 : Word) : raiseLineEvent k arg0 arg1 arg2 s = s := by
  simp [raiseLineEvent, hout]

theorem takeReadResult_outside (m : ReadMessage) : takeReadResult m s = s := by simp [takeReadResult, hout]

theorem takeMessage_outside (m : List Byte) : takeMessage m s = s := by
  simp only [takeMessage, garbled, raiseLineEvent_outside hout, takeReadResult_outside hout]
  repeat' split
  all_goals rfl

theorem settleFrame_outside (f : Frame) : settleFrame f s = s := by
  simp only [settleFrame, raiseLineEvent_outside hout, hout]
  split <;> rfl

/-- A CR leaves the assembler in IDLE, whatever it held, and nothing else comes of it. -/
theorem readerEnd_outside : readerEnd s = setReaderAsm .idle s := by
  have hidle : (setReaderAsm .idle s).takesCans = false := hout
  unfold readerEnd
  split
  · next h => simp [setReaderAsm, ← h]
  · exact takeMessage_outside hidle _
  · rw [raiseLineEvent_outside hidle, takeReadResult_outside hidle]
  · exact takeReadResult_outside hidle _

theorem readerDamage_outside : ∃ a, readerDamage s = setReaderAsm a s := by
  have hquiet (a : ReaderAsm) := raiseLineEvent_outside (s := setReaderAsm a s) hout
  unfold readerDamage
  split
  · exact ⟨_, hquiet ..⟩
  · exact ⟨_, hquiet ..⟩
  · exact ⟨_, hquiet ..⟩
  · next h => exact ⟨s.reader.asm, rfl⟩

/-- A character changes the filler link alone; the one in CHECK ends the frame (R81, R82). -/
theorem fillerTake_outside (b : Byte) :
    ∃ p, fillerTake b s = { s with filler := p } ∧
      (s.part.state ≠ .clearing → s.filler.receiver ≠ .heldLow → s.filler.asm = .check → p = s.filler.dropped) := by
  unfold fillerTake
  dsimp only
  split
  · split
    · split
      · exact ⟨_, rfl, by simp_all⟩
      · exact ⟨s.filler, rfl, by simp_all⟩
    · exact ⟨_, rfl, by simp_all⟩
    · exact ⟨_, rfl, by simp_all⟩
    · split
      · exact ⟨_, rfl, by simp_all⟩
      · exact ⟨s.filler.dropped, raiseLineEvent_outside (s := { s with filler := s.filler.dropped }) hout .., fun _ _ _ => rfl⟩
    · exact ⟨s.filler.dropped, settleFrame_outside (s := { s with filler := s.filler.dropped }) hout _, fun _ _ _ => rfl⟩
  · next hdeaf => exact ⟨s.filler, rfl, fun ha hr _ => absurd (by simp [fillerListens, State.awake, ha, hr]) hdeaf⟩

/-- A character with an error drops the frame under way (R76, R82). -/
theorem fillerFault_outside (fault : CharFault) :
    ∃ p, fillerFault fault s = { s with filler := p } ∧
      (s.part.state ≠ .clearing → s.filler.receiver ≠ .heldLow → p.asm = .hunt ∧ p.gap = none) := by
  unfold fillerFault
  dsimp only
  split
  · have hquiet (p : FillerPort) := raiseLineEvent_outside (s := { s with filler := p }) hout
    exact ⟨_, hquiet .., fun _ _ => ⟨rfl, rfl⟩⟩
  · next hdeaf => exact ⟨s.filler, rfl, fun ha hr => absurd (by simp [fillerListens, State.awake, ha, hr]) hdeaf⟩

theorem fillerReceive_outside (c : LineChar) :
    ∃ p, fillerReceive c s = { s with filler := p } ∧
      (s.part.state ≠ .clearing → s.filler.receiver ≠ .heldLow → s.filler.asm = .check → p.asm = .hunt ∧ p.gap = none) := by
  unfold fillerReceive
  split
  · next fault _ =>
    obtain ⟨p, hp, hdrop⟩ := fillerFault_outside hout fault
    exact ⟨p, hp, fun ha hr _ => hdrop ha hr⟩
  · obtain ⟨p, hp, hdrop⟩ := fillerTake_outside hout c.data
    exact ⟨p, hp, fun ha hr hc => by rw [hdrop ha hr hc]; exact ⟨rfl, rfl⟩⟩

end OutsideProduction

/-- In CLEARING neither link takes a character (R63, R75). -/
theorem linksDeaf_of_clearing {s : State} (h : s.part.state = .clearing) :
    readerListens s = false ∧ fillerListens s = false := by simp [readerListens, fillerListens, State.awake, h]

/-- Settles O24: the eyes and the pulse by their test of the part state, the links by what each operation does outside the states
that take cans. -/
theorem arrivalsOutsideProductionAreIgnored : Obligations.ArrivalsOutsideProductionAreIgnored := by
  intro b brk c s hs
  have hout : s.takesCans = false := by rcases hs with h | h | h <;> simp [State.takesCans, h]
  refine ⟨by simp [exec, execReaderEyeArrival, hout], by simp [exec, execPlatformOutArrival, hout],
    by simp [exec, execRejectEyeArrival, hout], by simp [exec, execConfirmEyeArrival, hout],
    by simp [exec, execFillerIndexArrival, hout], fun hc => by simp [exec, execPlatformInArrival, hout, hc],
    fun hclear i hi => ?_, fun hawake => ⟨?_, ?_, fun i hi => ?_⟩⟩
  · obtain ⟨hreader, hfiller⟩ := linksDeaf_of_clearing hclear
    have htake (x : Byte) : fillerTake x s = s := by simp [fillerTake, hfiller]
    have hread (x : Byte) : readerTake x s = s := by simp [readerTake, hreader]
    have hframing : readerFramingFault brk s = s := by simp [readerFramingFault, hreader]
    have hreceive : fillerReceive c s = s := by
      unfold fillerReceive fillerFault
      split <;> simp [hfiller, htake]
    simp only [List.mem_cons, List.not_mem_nil, or_false] at hi
    rcases hi with rfl | rfl | rfl | rfl | rfl | rfl | rfl | rfl | rfl | rfl
    · exact congrArg Host.Outcome.next (hread b)
    · exact congrArg Host.Outcome.next (hread b)
    · exact congrArg Host.Outcome.next (hread charCR)
    · exact congrArg Host.Outcome.next hframing
    · exact congrArg Host.Outcome.next (htake b)
    · exact congrArg Host.Outcome.next (htake b)
    · exact congrArg Host.Outcome.next (htake b)
    · exact congrArg Host.Outcome.next (htake b)
    · exact congrArg Host.Outcome.next (htake b)
    · exact congrArg Host.Outcome.next hreceive
  · refine ⟨readerTake charCR s, rfl, fun hr => ?_, ?_⟩
    · have hlistens : readerListens s = true := by simp [readerListens, State.awake, hawake, hr]
      simp [readerTake, hlistens, readerEnd_outside hout, setReaderAsm]
    · unfold readerTake
      rw [if_pos rfl, readerEnd_outside hout]
      split <;> exact .intro
  · unfold exec execReaderFramingError readerFramingFault
    dsimp only
    split
    · obtain ⟨a, ha⟩ := readerDamage_outside
        (s := { s with reader := { s.reader with receiver := if brk then .heldLow else .waiting } }) hout
      exact ⟨_, rfl, fun _ => by rw [ha]; rfl, by rw [ha]; exact .intro⟩
    · next hdeaf => exact ⟨s, rfl, fun hr => absurd (by simp [readerListens, State.awake, hawake, hr]) hdeaf, .intro⟩
  · have hframe : ∃ p, fillerTake b s = { s with filler := p } ∧
        (s.filler.receiver ≠ .heldLow → s.filler.asm = .check → p.asm = .hunt ∧ p.gap = none) := by
      obtain ⟨p, hp, hdrop⟩ := fillerTake_outside hout b
      exact ⟨p, hp, fun hr hc => by rw [hdrop hawake hr hc]; exact ⟨rfl, rfl⟩⟩
    obtain ⟨p, hp, hpdrop⟩ := hframe
    obtain ⟨q, hq, hqdrop⟩ := fillerReceive_outside hout c
    simp only [List.mem_cons, List.not_mem_nil, or_false] at hi
    rcases hi with rfl | rfl | rfl | rfl
    · exact ⟨{ s with filler := p }, congrArg Host.Outcome.next hp, hpdrop, .intro⟩
    · exact ⟨{ s with filler := p }, congrArg Host.Outcome.next hp, hpdrop, .intro⟩
    · exact ⟨{ s with filler := p }, congrArg Host.Outcome.next hp, hpdrop, .intro⟩
    · exact ⟨{ s with filler := q }, congrArg Host.Outcome.next hq, hqdrop hawake, .intro⟩

end Sys2Proof.Machine

namespace Sys2Proof.Machine

/-! PROOFS. The passing of one unit of time (logs 1 to 4, 34, 37). -/

theorem mem_dueIf {c : Bool} {i j : Instr} : i ∈ dueIf c j ↔ c = true ∧ i = j := by
  unfold dueIf
  split <;> simp_all

theorem count_dueIf_of_ne {c : Bool} {i j : Instr} (h : i ≠ j) : (dueIf c j).count i = 0 :=
  List.count_eq_zero.mpr fun hm => h (mem_dueIf.mp hm).2

/-- The commands a unit queues, each with the timer that stands at its end; the two kinds that may come several times stand as
the lists they are. -/
theorem mem_expiries {i : Instr} {wraps : Bool} {u : State} : i ∈ expiries wraps u ↔
    (wraps = true ∧ i = .timeWrap) ∨ ((u.awake && decide (u.weigh.watch = some 0)) = true ∧ i = .converterWatchExpiry) ∨
    (jamDue u = true ∧ i = .jamTimerExpiry) ∨ (storeDue u = true ∧ i = .storeTimerExpiry) ∨
    i ∈ (if u.pins.lineRun then (u.track.reads.filter PendingRead.expired).map (fun _ => Instr.readDeadlineExpiry) else []) ∨
    (u.filler.gap = some 0 ∧ i = .gapTimerExpiry) ∨ (frameDue u = true ∧ i = .transmitFrameEnd) ∨
    (u.reject.actuator = .firing 0 ∧ i = .pulseTimerExpiry) ∨
    i ∈ (if u.pins.lineRun then (u.track.entries.filter Entry.expired).map (fun _ => Instr.pastRejectDeadlineExpiry) else []) ∨
    (u.dose.ack = some 0 ∧ i = .ackTimerExpiry) ∨
    ((fineRuns u && decide (u.recipes.fine = 0)) = true ∧ i = .lotMinuteStep) ∨
    (u.orders.scan = some 0 ∧ i = .orderScan false) ∨ (u.exch.holdoff = some 0 ∧ i = .refusalHoldoffExpiry) := by
  simp only [expiries, List.mem_append, mem_dueIf, decide_eq_true_eq, or_assoc]

theorem count_readDeadlineExpiry (wraps : Bool) (u : State) : (expiries wraps u).count .readDeadlineExpiry =
    if u.pins.lineRun then (u.track.reads.filter PendingRead.expired).length else 0 := by
  simp only [expiries, List.count_append, ne_eq, reduceCtorEq, not_false_eq_true, count_dueIf_of_ne]
  split <;> simp [List.map_const', List.count_replicate]

theorem count_pastRejectDeadlineExpiry (wraps : Bool) (u : State) : (expiries wraps u).count .pastRejectDeadlineExpiry =
    if u.pins.lineRun then (u.track.entries.filter Entry.expired).length else 0 := by
  simp only [expiries, List.count_append, ne_eq, reduceCtorEq, not_false_eq_true, count_dueIf_of_ne]
  split <;> simp [List.map_const', List.count_replicate]

theorem jamDue_iff {u : State} : jamDue u = true ↔ ∃ loaded, u.weigh.jam = .running 0 loaded := by
  unfold jamDue
  split <;> simp_all

theorem storeDue_iff {u : State} : storeDue u = true ↔ ∃ record, u.cal.store = .writing 0 record := by
  unfold storeDue
  split <;> simp_all

theorem frameDue_iff {u : State} : frameDue u = true ↔
    ∃ frame spent, u.filler.tx = .sending frame spent ∧ 1100 * frame.length ≤ spent := by
  unfold frameDue
  split
  · next h => rw [decide_eq_true_iff, h]; simp [charSpan]
  · next h => simp [h]

theorem awake_iff {s : State} : s.awake = true ↔ s.part.state ≠ .clearing := by simp [State.awake]

theorem fineRuns_iff {s : State} :
    fineRuns s = true ↔ s.part.state = .run ∧ ∃ r, s.recipes.active = some r ∧ r.lotMinutes ≠ 0 := by
  unfold fineRuns
  split <;> simp_all

theorem tickRecipes_active (s : State) : (tickRecipes s).active = s.recipes.active := by
  unfold tickRecipes
  repeat' split
  all_goals rfl

theorem fineRuns_passUnit (s : State) : fineRuns (passUnit s) = fineRuns s := by
  rw [Bool.eq_iff_iff]
  simp only [fineRuns_iff, passUnit, tickRecipes_active]

/-- The blocks without a timer. -/
theorem passUnit_frame (s : State) : (passUnit s).pins = s.pins ∧ (passUnit s).part = s.part ∧
    (passUnit s).reader = s.reader ∧ (passUnit s).valves = s.valves := ⟨rfl, rfl, rfl, rfl⟩

/-- Settles O2: the tick is `passUnit` with the expiries of the state it leaves; each expiry stands in the queue exactly where its
timer stands at its end. -/
theorem aUnitOfTimePasses : Obligations.AUnitOfTimePasses := by
  intro s hqueue hheld less timed
  have htimed : fineRuns s = true ↔ timed := fineRuns_iff
  refine ⟨{ passUnit s with pending := expiries (decide (s.exch.timeTag = lastTag)) (passUnit s) }, ?_, ?_⟩
  · simp [step, tick, hqueue, hheld]
  have hexch : (passUnit s).exch = { s.exch with
      holdoff := less s.exch.holdoff
      timeTag := if s.exch.timeTag = 0xFFFFFFFF#32 then 0xFFFFFFFF#32 else s.exch.timeTag + 1 } := by
    simp only [passUnit, tickTag, lastTag, countDown, less]
    split <;> simp_all
  have hweigh : (passUnit s).weigh = { s.weigh with
      watch := if s.part.state = .clearing then s.weigh.watch else less s.weigh.watch
      jam := match s.weigh.jam with
        | .running left loaded => .running (left - 1) loaded
        | .stopped => .stopped
        | .expired => .expired } := by
    simp only [passUnit, tickWeigh, awake_iff, countDown, less, ite_not]
    cases s.weigh.jam <;> rfl
  have hrecipes : (¬timed → (passUnit s).recipes = s.recipes) ∧
      (timed → s.recipes.finePhase < 999 →
        (passUnit s).recipes = { s.recipes with finePhase := s.recipes.finePhase + 1 }) ∧
      (timed → 999 ≤ s.recipes.finePhase →
        (passUnit s).recipes = { s.recipes with finePhase := 0, fine := s.recipes.fine - 1 }) := by
    simp only [passUnit, tickRecipes, htimed]
    refine ⟨fun h => if_neg h, fun h hphase => ?_, fun h hphase => ?_⟩
    · rw [if_pos h, if_pos (by omega)]
    · rw [if_pos h, if_neg (by omega)]
  obtain ⟨huntimed, hphase, hfine⟩ := hrecipes
  refine ⟨hexch, hweigh, rfl, fun hrun => ?_, fun hrun => ?_, rfl, rfl, rfl, rfl, huntimed, hphase, hfine, ?_, ?_, ?_, ?_, ?_, ?_, ?_,
    ?_, ?_, ?_, ?_, ?_, ?_, ?_⟩
  · simp [passUnit, tickTrack, hrun]
  · simp only [passUnit, tickTrack, hrun, if_true]; rfl
  · simp [mem_expiries]; rfl
  · simp [mem_expiries, awake_iff, passUnit]
  · simp [mem_expiries, jamDue_iff]
  · simp [mem_expiries, storeDue_iff]
  · exact count_readDeadlineExpiry ..
  · simp [mem_expiries]
  · simp [mem_expiries, frameDue_iff]
  · simp [mem_expiries]
  · simp only [count_pastRejectDeadlineExpiry]
    congr 3
    funext e
    simp [Entry.expired]
  · simp [mem_expiries]
  · simp [mem_expiries, fineRuns_passUnit, htimed]
  · simp [mem_expiries]
  · simp [mem_expiries]
  · obtain ⟨hpins, hpart, hreader, hvalves⟩ := passUnit_frame s
    exact .intro (hpins := .inr hpins) (hpart := .inr hpart) (hreader := .inr hreader) (hvalves := .inr hvalves)

end Sys2Proof.Machine

namespace Sys2Proof.Machine

/-! PROOFS. A sample: its record, and what it does to zero tracking or to the averaging in flight (R1, R15 to R22, R26). -/

theorem activeRecipe_of_recipes {s t : State} (h : t.recipes = s.recipes) : activeRecipe t = activeRecipe s := by
  simp only [activeRecipe, h]

/-- The OVERLOAD mark stands at the two extremes of the converter's range. -/
theorem sampleOf_overload (count : BitVec 24) (tag : Word) :
    (sampleOf count tag).overload = (decide (count = 0x800000#24) || decide (count = 0x7FFFFF#24)) := by
  have hlow : count.toInt = -8388608 ↔ count = 0x800000#24 := BitVec.toInt_inj (y := 0x800000#24)
  have hhigh : count.toInt = 8388607 ↔ count = 0x7FFFFF#24 := BitVec.toInt_inj (y := 0x7FFFFF#24)
  simp only [sampleOf, hlow, hhigh]

/-- The record appended stands last behind the newest 63 (R1). -/
theorem appendSample_split (x : Sample) (l : List Sample) :
    (appendSample x l).getLast? = some x ∧ (appendSample x l).dropLast = l.drop (l.length - 63) := by
  simp [appendSample]

theorem calSample_of_none (x : Sample) {s : State} (h : s.cal.averaging = none) : calSample x s = s := by
  unfold calSample; simp only [h]

theorem zeroSetSample_of_none (x : Sample) {s : State} (h : s.weigh.zeroSet = none) : zeroSetSample x s = s := by
  unfold zeroSetSample; simp only [h]

theorem zeroTrackSample_of_not_tracking (x : Sample) {s : State} (h : s.weigh.tracking = false) :
    zeroTrackSample x s = s := by simp [zeroTrackSample, h]

/-- A candidate, taken or refused, moves Z and the refusal run alone in the Weigh Channel. -/
theorem takeCandidate_weigh (cand : Int) (s : State) : (takeCandidate cand s).weigh =
    { s.weigh with z := (takeCandidate cand s).weigh.z, refusals := (takeCandidate cand s).weigh.refusals } := by
  unfold takeCandidate zeroStep zeroRefuse
  dsimp only
  split_ifs <;> simp

/-- A candidate does not read the samples, the watch and the accumulator. -/
theorem takeCandidate_congr (cand : Int) (s : State) (samples : List Sample) (conv : Converter) (watch : Option Nat)
    (acc : ZeroAcc) :
    let u := { s with weigh := { s.weigh with samples := samples, converter := conv, watch := watch, acc := acc } }
    (takeCandidate cand u).weigh.z = (takeCandidate cand s).weigh.z ∧
    (takeCandidate cand u).weigh.refusals = (takeCandidate cand s).weigh.refusals ∧
    (takeCandidate cand u).exch = (takeCandidate cand s).exch := by
  unfold takeCandidate zeroStep zeroRefuse activeRecipe
  dsimp only
  split_ifs <;> simp [raiseEvent]

section ZeroTrackSample

variable {x : Sample} {s : State}

theorem zeroTrackSample_gathers (hadds : (s.weigh.tracking && pastSettle s x) = true) (hn : s.weigh.acc.n + 1 < 64) :
    zeroTrackSample x s = { s with weigh := { s.weigh with acc := s.weigh.acc.add x } } := by
  rw [zeroTrackSample, if_pos hadds]
  exact if_pos hn

theorem zeroTrackSample_completes (hadds : (s.weigh.tracking && pastSettle s x) = true) (hn : 64 ≤ s.weigh.acc.n + 1) :
    zeroTrackSample x s =
      if s.weigh.acc.overload || x.overload then { s with weigh := { s.weigh with acc := s.weigh.acc.cleared } }
      else takeCandidate (roundAway (s.weigh.acc.sum + x.count) 64)
        { s with weigh := { s.weigh with acc := s.weigh.acc.cleared } } := by
  rw [zeroTrackSample, if_pos hadds]
  exact if_neg hn.not_gt

/-- Zero tracking moves the accumulator, Z and the refusal run alone in the Weigh Channel. -/
theorem zeroTrackSample_weigh (x : Sample) (s : State) : (zeroTrackSample x s).weigh =
    { s.weigh with
      acc := (zeroTrackSample x s).weigh.acc, z := (zeroTrackSample x s).weigh.z
      refusals := (zeroTrackSample x s).weigh.refusals } := by
  by_cases hadds : (s.weigh.tracking && pastSettle s x) = true
  · rcases lt_or_ge (s.weigh.acc.n + 1) 64 with hn | hn
    · rw [zeroTrackSample_gathers hadds hn]
    · rw [zeroTrackSample_completes hadds hn]
      split
      · rfl
      · rw [takeCandidate_weigh]
  · rw [zeroTrackSample, if_neg hadds]

end ZeroTrackSample

/-- What a sample does where no averaging is in flight. -/
theorem sampleArrival_tracking (count : BitVec 24) {s : State} (hawake : s.part.state ≠ .clearing)
    (hzero : s.weigh.zeroSet = none) (hcal : s.cal.averaging = none) :
    exec (.sampleArrival count) s = .next (zeroTrackSample (sampleOf count s.exch.timeTag)
      (takeSample (sampleOf count s.exch.timeTag) s)) := by
  have hweigh (x : Sample) : (zeroTrackSample x (takeSample x s)).weigh.zeroSet = none := by
    rw [zeroTrackSample_weigh]; simpa using hzero
  simp only [exec, execSampleArrival, awake_iff.mpr hawake, if_true]
  rw [zeroSetSample_of_none _ (hweigh _), calSample_of_none _ (by simpa using hcal)]

/-- What a sample does while a zero-set averaging is in flight. -/
theorem sampleArrival_zeroSet (count : BitVec 24) {s : State} (hawake : s.part.state ≠ .clearing)
    (htracking : s.weigh.tracking = false) (hcal : s.cal.averaging = none) :
    exec (.sampleArrival count) s = .next (zeroSetSample (sampleOf count s.exch.timeTag)
      (takeSample (sampleOf count s.exch.timeTag) s)) := by
  simp only [exec, execSampleArrival, awake_iff.mpr hawake, if_true]
  rw [zeroTrackSample_of_not_tracking _ (by simpa using htracking), calSample_of_none _ (by simpa using hcal)]

/-- What a sample does while a calibration averaging is in flight. -/
theorem sampleArrival_cal (count : BitVec 24) {s : State} (hawake : s.part.state ≠ .clearing)
    (htracking : s.weigh.tracking = false) (hzero : s.weigh.zeroSet = none) :
    exec (.sampleArrival count) s = .next (calSample (sampleOf count s.exch.timeTag)
      (takeSample (sampleOf count s.exch.timeTag) s)) := by
  simp only [exec, execSampleArrival, awake_iff.mpr hawake, if_true]
  rw [zeroTrackSample_of_not_tracking _ (by simpa using htracking), zeroSetSample_of_none _ (by simpa using hzero)]

/-- A sample is added to the accumulator while zero tracking runs and the span from the quiet start is past settle (R15). -/
theorem accumulates_iff {x : Sample} {s : State} : (s.weigh.tracking && pastSettle s x) = true ↔
    s.weigh.tracking = true ∧ 1 ≤ tagSpan x.tag s.weigh.acc.quietStart ∧
      tagSpan x.tag s.weigh.acc.quietStart ≤ 2147483647 ∧
      (activeRecipe s).settle < tagSpan x.tag s.weigh.acc.quietStart := by
  simp [pastSettle, tagLater, and_assoc]

/-- Settles O14: the record by `appendSample`, the accumulator by the three ends of `zeroTrackSample`, each averaging by its own
sample, and a candidate outside the band by `zeroRefuse`. -/
theorem aSampleIsRecorded : Obligations.ASampleIsRecorded := by
  intro count cand z c s a span adds marked restarted recorded gathered
  generalize hx : sampleOf count s.exch.timeTag = x
  have hcount : x.count = count.toInt := by rw [← hx]; rfl
  have htag : x.tag = s.exch.timeTag := by rw [← hx]; rfl
  have hover : x.overload = (decide (count = 0x800000#24) || decide (count = 0x7FFFFF#24)) := by
    rw [← hx]; exact sampleOf_overload ..
  have hmarked : x.overload = true ↔ marked := by simp [hover, marked]
  have hrecorded (t : State) (ht : t.weigh.samples = appendSample x s.weigh.samples) : recorded t := by
    obtain ⟨hlast, hrest⟩ := appendSample_split x s.weigh.samples
    exact ⟨x, hcount, htag, hmarked, by rw [ht, hlast], by rw [ht, hrest]⟩
  have hgathered (b : Averaging) : b.add x = gathered b := by
    simp only [Averaging.add, gathered, hcount, hover, Bool.or_assoc] <;> rfl
  have hadds : ((takeSample x s).weigh.tracking && pastSettle (takeSample x s) x) = true ↔ adds := by
    rw [accumulates_iff, takeSample_tracking, takeSample_acc, activeRecipe_of_recipes (t := takeSample x s) (s := s) rfl, htag]
    rfl
  refine ⟨fun hclear => ?_, fun hawake hzero hcal => ?_, fun hawake htracking hzero hcal hn => ?_,
    fun hawake htracking hzero hcal hn => ?_, fun hband => ?_⟩
  · simp [exec, execSampleArrival, State.awake, hclear]
  · rw [sampleArrival_tracking count hawake hzero hcal, hx]
    have hweigh : (zeroTrackSample x (takeSample x s)).weigh = { s.weigh with
        samples := appendSample x s.weigh.samples, converter := .live, watch := some 50
        acc := (zeroTrackSample x (takeSample x s)).weigh.acc, z := (zeroTrackSample x (takeSample x s)).weigh.z
        refusals := (zeroTrackSample x (takeSample x s)).weigh.refusals } := zeroTrackSample_weigh x (takeSample x s)
    refine ⟨_, rfl, hrecorded _ (by rw [hweigh]), by rw [hweigh], fun hnot => ?_, fun hyes hn => ?_, fun hyes hn => ?_, .intro⟩
    · rw [zeroTrackSample, if_neg (hadds.not.mpr hnot)]
      exact ⟨rfl, rfl, rfl, rfl⟩
    · rw [zeroTrackSample_gathers (hadds.mpr hyes) hn]
      refine ⟨by rw [← hcount]; rfl, rfl, ?_, rfl, rfl, rfl, rfl⟩
      rw [← hmarked, ← Bool.or_eq_true]
      rfl
    · have hend := zeroTrackSample_completes (hadds.mpr hyes) hn
      refine ⟨?_, fun ho => ?_, fun ho hm hnear => ?_⟩
      · rw [hend]
        split
        · rfl
        · rw [takeCandidate_weigh]; rfl
      · rw [hend, if_pos (by rw [Bool.or_eq_true, hmarked]; exact ho)]
        exact ⟨rfl, rfl, rfl⟩
      · rw [hend, if_neg (by rw [Bool.or_eq_true, hmarked, takeSample_acc, ho]; simpa using hm), takeSample_acc, hcount,
          ← hnear.eq_roundAway (by norm_num)]
        exact takeCandidate_congr cand s _ _ _ _
  · rw [sampleArrival_zeroSet count hawake htracking hcal, hx]
    have ht : zeroSetSample x (takeSample x s) = { takeSample x s with
        weigh := { (takeSample x s).weigh with zeroSet := some { z with avg := gathered z.avg } } } := by
      simp only [zeroSetSample, takeSample_zeroSet, hzero, ← hgathered]
      exact if_pos hn
    rw [ht]
    exact ⟨_, rfl, hrecorded _ (by simp), by simp [takeSample], .intro⟩
  · rw [sampleArrival_cal count hawake htracking hzero, hx]
    have ht : calSample x (takeSample x s) = { takeSample x s with
        cal := { s.cal with averaging := some { c with avg := gathered c.avg } } } := by
      simp only [calSample, takeSample_frame, hcal, ← hgathered]
      exact if_pos hn
    rw [ht]
    exact ⟨_, rfl, hrecorded _ (by simp), by simp [takeSample], by simp, .intro⟩
  · have ht : takeCandidate cand s = zeroRefuse cand s := if_neg (by omega)
    rw [ht]
    unfold zeroRefuse saturate
    dsimp only
    split <;> simp [raiseEvent, wordOfInt, *] <;> exact .intro

end Sys2Proof.Machine

namespace Sys2Proof.Machine

/-! PROOFS. The completion of a zero-set averaging (R21). -/

/-- The first check of R21 that fails gives the outcome and its detail; past the three the order is DONE with the mean. -/
theorem completeZeroSet_cases (z : ZeroSet) (s : State) :
    let cand := roundAway z.avg.sum 64
    (z.avg.overload = true → completeZeroSet z s = finishZeroSet z.slot .range 0 s) ∧
    (z.avg.overload = false → ((activeRecipe s).stability : Int) < z.avg.spread →
      completeZeroSet z s = finishZeroSet z.slot .unstable z.avg.spread s) ∧
    (z.avg.overload = false → z.avg.spread ≤ (activeRecipe s).stability → s.cal.zeroLimit < (cand - s.cal.zc).natAbs →
      completeZeroSet z s = finishZeroSet z.slot .range ((cand - s.cal.zc).natAbs : Nat) s) ∧
    (z.avg.overload = false → z.avg.spread ≤ (activeRecipe s).stability → (cand - s.cal.zc).natAbs ≤ s.cal.zeroLimit →
      completeZeroSet z s =
        finishZeroSet z.slot .done cand { s with weigh := { s.weigh with z := cand, refusals := 0 } }) := by
  intro cand
  unfold completeZeroSet
  refine ⟨fun ho => if_pos ho, fun ho hs => ?_, fun ho hs ha => ?_, fun ho hs ha => ?_⟩
  · simp only [ho, hs, Bool.false_eq_true, if_false, if_true]
  · simp only [ho, hs.not_gt, ha, cand, Bool.false_eq_true, if_false, if_true]
  · simp only [ho, hs.not_gt, ha.not_gt, cand, Bool.false_eq_true, if_false]

/-- Settles O16: the 64th sample ends in `completeZeroSet`, whose four ends are the four clauses. -/
theorem aZeroSetCompletes : Obligations.AZeroSetCompletes := by
  intro count cand z s hawake hzero hn htracking hcal hnear overload low high spread away
  rw [sampleArrival_zeroSet count hawake htracking hcal]
  generalize hx : sampleOf count s.exch.timeTag = x
  have hcount : x.count = count.toInt := by rw [← hx]; rfl
  have hover : x.overload = (decide (count = 0x800000#24) || decide (count = 0x7FFFFF#24)) := by
    rw [← hx]; exact sampleOf_overload ..
  have ht : zeroSetSample x (takeSample x s) = completeZeroSet { z with avg := z.avg.add x } (takeSample x s) := by
    simp only [zeroSetSample, takeSample_zeroSet, hzero]
    exact if_neg (by simp [Averaging.add, hn])
  have hoverload : (z.avg.add x).overload = true ↔ overload := by simp [Averaging.add, hover, overload]
  have hspread : (z.avg.add x).spread = spread := by
    simp only [Averaging.spread, Averaging.add, hcount, Option.getD_some]; rfl
  have hcand : roundAway (z.avg.add x).sum 64 = cand := by
    rw [hnear.eq_roundAway (by norm_num), ← hcount]; rfl
  have hactive : activeRecipe (takeSample x s) = activeRecipe s := rfl
  obtain ⟨hrange, hunstable, hfar, hdone⟩ := completeZeroSet_cases { z with avg := z.avg.add x } (takeSample x s)
  dsimp only at hrange hunstable hfar hdone
  rw [hcand] at hfar hdone
  rw [hspread, hactive] at hunstable hfar hdone
  rw [← ht] at hrange hunstable hfar hdone
  have hnot (ho : ¬overload) : (z.avg.add x).overload = false := Bool.eq_false_iff.mpr (hoverload.not.mpr ho)
  refine ⟨_, rfl, ?_, ?_, fun ho => ?_, fun ho hs => ?_, fun ho hs ha => ?_, fun ho hs ha => ?_, .intro⟩
  · rw [ht]; unfold completeZeroSet; dsimp only; split_ifs <;> rfl
  · rw [ht]; unfold completeZeroSet; dsimp only; split_ifs <;> rfl
  · rw [hrange (hoverload.mpr ho)]; exact ⟨rfl, rfl⟩
  · rw [hunstable (hnot ho) hs]; exact ⟨rfl, rfl⟩
  · rw [hfar (hnot ho) hs ha]
    exact ⟨rfl, congrArg (s.exch.finishSlot z.slot .range) (BitVec.ofInt_natCast ..)⟩
  · rw [hdone (hnot ho) hs ha]; exact ⟨rfl, rfl, rfl⟩

end Sys2Proof.Machine

namespace Sys2Proof.Machine

/-! PROOFS. The platform eyes (R5, R6, R8, R14, R50, R54, R55). -/

theorem endZeroSet_of_none (o : Outcome) (detail : Word) {s : State} (h : s.weigh.zeroSet = none) :
    endZeroSet o detail s = s := by simp only [endZeroSet, h]

theorem endCalAveraging_of_none (o : Outcome) (detail : Word) {s : State} (h : s.cal.averaging = none) :
    endCalAveraging o detail s = s := by simp only [endCalAveraging, h]

/-- What an accepted PLATFORM_IN does to the Weigh Channel: zero tracking stops with its accumulator cleared (R5, R8, R14). -/
theorem openPlatform_weigh (s : State) : (openPlatform s).weigh = { s.weigh with
    platform := openWeighing s.exch.timeTag s.weigh.platform
    jam := if s.weigh.platform.isEmpty && decide (s.part.state = .run) then loadedJam s else s.weigh.jam
    tracking := false, acc := s.weigh.acc.cleared } := by
  have hstops : (openWeighing s.exch.timeTag s.weigh.platform).isEmpty = false := by
    simpa using openWeighing_ne_nil s.exch.timeTag s.weigh.platform
  simp only [openPlatform, refreshZero, zeroConditions, hstops, Bool.false_and, Bool.false_eq_true, if_false]

/-- An accepted PLATFORM_IN with no averaging in flight. -/
theorem platformInArrival_accepted {s : State} (htakes : s.takesCans = true) (hroom : s.weigh.platform.length < 4) :
    exec .platformInArrival s =
      .next (trackPlatformIn (endCalAveraging .disturbed 0 (endZeroSet .disturbed 0 (openPlatform s)))) := by
  simp only [exec, execPlatformInArrival, htakes, if_true, if_neg hroom.not_ge]

theorem trackPlatformIn_of_read {e : Entry} {s : State} (h : oldestOf .read s = some e) :
    trackPlatformIn s = setEntry { e with stage := .onPlatform } s := by simp only [trackPlatformIn, h]

theorem oldestOf_of_track {st : Stage} {s t : State} (h : t.track = s.track) : oldestOf st t = oldestOf st s := by
  simp only [oldestOf, h]

/-- The weighing that an accepted PLATFORM_IN opens, by whether the platform is occupied. -/
theorem openWeighing_nil (tag : Word) :
    openWeighing tag [] = [{ inTag := tag, double := false, interrupted := false }] := rfl

theorem openWeighing_of_ne_nil (tag : Word) {l : List Weighing} (h : l ≠ []) : openWeighing tag l =
    l.map (fun w => { w with double := true }) ++ [{ inTag := tag, double := true, interrupted := false }] :=
  if_neg (by simpa using h)

/-- Settles O19: the refusal by the length of the list, the acceptance by `openPlatform` and the move of the READ entry. -/
theorem platformInOpensAWeighing : Obligations.PlatformInOpensAWeighing := by
  intro e s htakes
  refine ⟨fun hfull => ?_, fun hroom hzero hcal hread => ?_⟩
  · exact ⟨raiseEvent .eyeSequence 2 s.exch.timeTag 0 s, by simp [exec, execPlatformInArrival, htakes, hfull], rfl, .intro⟩
  have hweigh := openPlatform_weigh s
  rw [platformInArrival_accepted htakes hroom, endZeroSet_of_none _ _ (by rw [hweigh]; exact hzero),
    endCalAveraging_of_none _ _ (by simpa using hcal),
    trackPlatformIn_of_read ((oldestOf_of_track (by simp)).trans hread)]
  refine ⟨_, rfl, fun hempty => ?_, fun hoccupied => ?_, ?_, ?_, ?_, ?_, ?_, ?_, .intro⟩
  · simp [hweigh, hempty, openWeighing_nil, loadedJam]
  · simp [hweigh, hoccupied, openWeighing_of_ne_nil]
  · simp [hweigh]
  · simp [hweigh]
  · simp [hweigh]
  · simp [hweigh]
  · simp [hweigh]
  · simp [setEntry]

/-- What a platform that empties leaves in the Weigh Channel (R6, R9, R14). -/
theorem emptyPlatform_weigh (s : State) :
    (emptyPlatform s).weigh = { s.weigh with
      platform := [], jam := .stopped, tracking := (emptyPlatform s).weigh.tracking, acc := (emptyPlatform s).weigh.acc } ∧
    (emptyPlatform s).weigh.acc.quietStart = s.exch.timeTag ∧
    (s.weigh.tracking = false →
      (emptyPlatform s).weigh.acc = { sum := 0, n := 0, overload := false, quietStart := s.exch.timeTag }) ∧
    ((emptyPlatform s).weigh.tracking = true ↔ s.cal.state = .valid ∧ (s.part.state = .stopped ∨ s.part.state = .run) ∧
      s.weigh.zeroSet = none ∧ s.cal.averaging = none) := by
  refine ⟨rfl, ?_, fun h => ?_, ?_⟩
  · simp only [emptyPlatform, refreshZero_acc]
    split_ifs <;> rfl
  · simp only [emptyPlatform, refreshZero_acc, h, Bool.false_eq_true, if_false]
    split_ifs <;> rfl
  · simp [emptyPlatform, zeroConditions, and_assoc]

theorem closeOldest_of_ne_nil {rest : List Weighing} (h : rest ≠ []) (s : State) :
    closeOldest rest s = { s with weigh := { s.weigh with platform := rest } } := by
  unfold closeOldest
  split
  · exact absurd rfl h
  · rfl

/-- A decision replaces the entries of its serial by the decided entry. -/
theorem decideEntry_entries (extra : BitVec 10) (e : Entry) (s : State) : (decideEntry extra e s).track.entries =
    s.track.entries.map (fun x => if x.serial = e.serial then decidedEntry s extra e else x) := by
  simp only [decideEntry, offerCan_frame, lotLimitCheck_frame, setLot_frame, setEntry_entries]
  rfl

theorem decideIfDue_of_due {e : Entry} (hw : e.weighing.isSome = true) (hr : e.readOpen = false) (hd : e.decision = none)
    (s : State) : decideIfDue e s = decideEntry 0 e s := by simp [decideIfDue, hw, hr, hd]

theorem decideIfDue_of_not_due {e : Entry} (h : e.readOpen = true ∨ e.decision ≠ none) (s : State) :
    decideIfDue e s = s := by
  rw [decideIfDue, if_neg]
  rcases h with h | h <;> simp [h]

/-- Settles O21: the weighing closes in `closeOldest`, the entry is set, and it is decided where `decideIfDue` finds it due. -/
theorem platformOutClosesAWeighing : Obligations.PlatformOutClosesAWeighing := by
  intro w rest e s htakes
  refine ⟨fun hempty => ?_, fun hplatform hoccupied => ?_⟩
  · exact ⟨raiseEvent .eyeSequence 1 s.exch.timeTag 0 s, by simp [exec, execPlatformOutArrival, htakes, hempty], rfl, .intro⟩
  intro res net e' w0
  have hclosed : oldestOf .onPlatform (closeOldest rest s) = some e := (oldestOf_of_track (by simp)).trans hoccupied
  have hentry : weighedEntry (closeOldest rest s) res e = e' := by
    have hrecipe : recipeOf (closeOldest rest s) e.recipe = recipeOf s e.recipe := by
      cases e.recipe <;> simp [recipeOf, activeRecipe]
    simp [weighedEntry, hrecipe, e', net]
  have hexec : exec .platformOutArrival s = .next (decideIfDue e' (setEntry e' (closeOldest rest s))) := by
    simp only [exec, execPlatformOutArrival, htakes, if_true, hplatform, trackPlatformOut]
    rw [← hentry]
    simp only [hclosed]
    rfl
  have hdecided (hopen : e.readOpen = false) (hnone : e.decision = none) :
      decideIfDue e' (setEntry e' (closeOldest rest s)) = decideEntry 0 e' (setEntry e' (closeOldest rest s)) :=
    decideIfDue_of_due (e := e') rfl hopen hnone _
  refine ⟨_, setEntry e' (closeOldest rest s), hexec, fun hnot => decideIfDue_of_not_due (e := e') hnot _,
    hdecided, ?_, fun hrest => ?_, fun hrest => ?_, .intro, by simp, fun hopen hnone => ?_, .intro⟩
  · simp [setEntry, e']
  · simp [closeOldest_of_ne_nil hrest, w0]
  · obtain ⟨hweigh, hquiet, hacc, htracking⟩ := emptyPlatform_weigh s
    simp only [setEntry_frame, hrest]
    exact ⟨hweigh, hquiet, hacc, htracking⟩
  · rw [hdecided hopen hnone, decideEntry_entries]
    have hmem : e ∈ s.track.entries := List.mem_of_find?_eq_some hoccupied
    refine ⟨decidedEntry (setEntry e' (closeOldest rest s)) 0 e', ?_, rfl, rfl⟩
    simp only [setEntry_entries, closeOldest_frame, List.map_map, List.mem_map]
    exact ⟨e, hmem, by simp [e']⟩

end Sys2Proof.Machine

namespace Sys2Proof.Machine

/-! PROOFS. The change of the part state and the orders of the calibration class that end early (R20, R27, R33, R178). -/

theorem changePart_part (new : PartState) (why : ChangeReason) (s : State) :
    (changePart new why s).part = { s.part with state := new } := rfl

/-- STATE_CHANGE with the new state, the old state and the reason (R178). -/
theorem changePart_event (new : PartState) (why : ChangeReason) (s : State) : (changePart new why s).exch =
    s.exch.event .stateChange new.code (wordOfNat s.part.state.code) (wordOfNat why.code) := rfl

/-- The Weigh Channel after a change of the part state: only the jam timer and zero tracking follow (R8, R14). -/
theorem changePart_weigh (new : PartState) (why : ChangeReason) (s : State) : (changePart new why s).weigh =
    { s.weigh with
      jam := jamAfter new s, tracking := (changePart new why s).weigh.tracking, acc := (changePart new why s).weigh.acc } := rfl

/-- An averaging of a calibration order that is held ends: the order is finished and zero tracking tested again (R27). -/
theorem endCalAveraging_of_held {slot : Slot} {s : State} (o : Outcome) (detail : Word) (ha : s.cal.averaging.isSome = true)
    (hh : s.cal.held = some slot) : endCalAveraging o detail s =
      refreshZero (finishOrder slot o detail { s with cal := { s.cal with averaging := none, held := none } }) := by
  obtain ⟨a, ha⟩ := Option.isSome_iff_exists.mp ha
  simp only [endCalAveraging, ha, finishHeldCal, hh]

theorem endZeroSet_of_some {z : ZeroSet} {s : State} (o : Outcome) (detail : Word) (h : s.weigh.zeroSet = some z) :
    endZeroSet o detail s =
      refreshZero (finishOrder z.slot o detail { s with weigh := { s.weigh with zeroSet := none } }) := by
  simp only [endZeroSet, h]

/-- Settles O12: each event ends the averaging in flight by `endCalAveraging` or `endZeroSet`, and goes on as without it. -/
theorem eventsEndTheAveragings : Obligations.EventsEndTheAveragings := by
  intro slot e s frees opens
  have hopenWeigh := openPlatform_weigh s
  have hopens (t : State) (ht : t.weigh.platform = openWeighing s.exch.timeTag s.weigh.platform)
      (htrack : t.track = (setEntry { e with stage := .onPlatform } s).track) : opens t :=
    ⟨by rw [ht]; cases s.weigh.platform <;> rfl, by simp [htrack, setEntry]⟩
  refine ⟨fun ha hh hz => ?_, fun z hz hslot ha => ?_⟩
  · intro ended
    refine ⟨?_, fun hconfig => ?_, fun htakes hroom hread => ?_, fun hstopped => ?_⟩
    · refine ⟨_, rfl, ?_⟩
      rw [endCalAveraging_of_held (s := { s with pins := { s.pins with calSwitch := false } }) _ _ ha hh]
      exact ⟨⟨rfl, hz, rfl, rfl, rfl, rfl⟩, rfl, rfl, rfl, .intro⟩
    · refine ⟨endCalAveraging .disturbed 0 s, ?_, ?_⟩
      · simp [exec, execPlatformInArrival, State.takesCans, hconfig]
      · rw [endCalAveraging_of_held _ _ ha hh]
        exact ⟨⟨rfl, hz, rfl, rfl, rfl, rfl⟩, rfl, rfl, .intro⟩
    · rw [platformInArrival_accepted htakes hroom, endZeroSet_of_none _ _ (by rw [hopenWeigh]; exact hz),
        endCalAveraging_of_held (slot := slot) _ _ (by simpa using ha) (by simpa using hh),
        trackPlatformIn_of_read ((oldestOf_of_track (by simp)).trans hread)]
      refine ⟨_, rfl, ⟨by simp, by simp [hopenWeigh, hz], by simp [finishOrder], ?_⟩, hopens _ (by simp [hopenWeigh]) (by simp [setEntry]), ?_, .intro⟩
      · simp [hopenWeigh]
      · simp [finishOrder]
    · refine ⟨_, by simp [exec, execLineRunRise, hstopped]; rfl, ?_⟩
      rw [endZeroSet_of_none _ _ (by simpa using hz),
        endCalAveraging_of_held (slot := slot) _ _ (by simpa using ha) (by simpa using hh)]
      refine ⟨⟨by simp, hz, by simp [finishOrder], rfl, rfl, rfl⟩, by simp [setLineRun], rfl, rfl, ?_, .intro⟩
      simp [changePart_event, finishOrder, hstopped]
      rfl
  · refine ⟨fun htakes hroom hread => ?_, fun hstopped => ?_⟩
    · rw [platformInArrival_accepted htakes hroom, endZeroSet_of_some (z := z) _ _ (by rw [hopenWeigh]; exact hz), hslot,
        endCalAveraging_of_none _ _ (by simpa using ha), trackPlatformIn_of_read ((oldestOf_of_track (by simp)).trans hread)]
      refine ⟨_, rfl, by simp, ⟨by simp [finishOrder], ?_⟩, hopens _ (by simp [hopenWeigh]) (by simp [setEntry]), ?_, .intro⟩
      · simp [hopenWeigh]
      · simp [finishOrder]
    · refine ⟨_, by simp [exec, execLineRunRise, hstopped]; rfl, ?_⟩
      rw [endZeroSet_of_some (z := z) _ _ (by simpa using hz), hslot, endCalAveraging_of_none _ _ (by simpa using ha)]
      refine ⟨rfl, ⟨by simp [finishOrder], rfl, rfl, rfl⟩, by simp [setLineRun], rfl, rfl, ?_, .intro⟩
      simp [changePart_event, finishOrder, hstopped]
      rfl

end Sys2Proof.Machine

namespace Sys2Proof.Machine

/-! PROOFS. The end of the calibration class at FAULT_STOP and at RESTART, and the entry to FAULT_STOP (R20, R27, R33, R173). -/

/-- The exchange memory after the orders of the calibration class have ended ABORTED: the zero-set's slot, then the held
calibration order, with detail 0 for its averaging and 1 for its store write. -/
def abortedExch (s : State) (e : Exchange) : Exchange :=
  let e1 := match s.weigh.zeroSet with
    | none => e
    | some z => e.finishSlot z.slot .aborted 0
  match s.cal.held with
  | none => e1
  | some slot => if s.cal.averaging.isSome then e1.finishSlot slot .aborted 0
    else if s.cal.store ≠ .idle then e1.finishSlot slot .aborted 1 else e1

/-- The calibration's blocks end with no averaging, and with no order held where one averaged or wrote. -/
def abortedCal (c : Calibration) : Calibration :=
  { c with averaging := none, held := if c.averaging.isSome ∨ c.store ≠ .idle then none else c.held }

theorem endZeroSet_fields (o : Outcome) (s : State) :
    (endZeroSet o 0 s).exch =
      (match s.weigh.zeroSet with
       | none => s.exch
       | some z => s.exch.finishSlot z.slot o 0) ∧
    (endZeroSet o 0 s).orders.scan = s.orders.scan ∧
    (∀ x, x ∈ (endZeroSet o 0 s).orders.taken ↔ x ∈ s.orders.taken ∧ ∀ z, s.weigh.zeroSet = some z → x.1 ≠ z.slot) := by
  unfold endZeroSet
  split
  · next h => simp [h]
  · next z h => simp [h, finishOrder]

/-- Each of the two ends leaves the Weigh Channel but zero tracking, and the zero-set one takes its averaging. -/
theorem endZeroSet_weigh (o : Outcome) (detail : Word) (s : State) : (endZeroSet o detail s).weigh =
    { s.weigh with
      zeroSet := none, tracking := (endZeroSet o detail s).weigh.tracking, acc := (endZeroSet o detail s).weigh.acc } := by
  unfold endZeroSet
  split
  · next h => rw [← h]
  · rfl

theorem endCalAveraging_weigh (o : Outcome) (detail : Word) (s : State) : (endCalAveraging o detail s).weigh =
    { s.weigh with
      tracking := (endCalAveraging o detail s).weigh.tracking, acc := (endCalAveraging o detail s).weigh.acc } := by
  unfold endCalAveraging
  split
  · rfl
  · simp only [refreshZero, finishHeldCal_frame]

/-- In FAULT_STOP the conditions of R14 do not hold, so zero tracking that stands still goes on to. -/
theorem zeroConditions_of_faultStop {s : State} (h : s.part.state = .faultStop) : zeroConditions s = false := by
  simp [zeroConditions, h]

theorem endZeroSet_tracking (o : Outcome) (detail : Word) {s : State} (hs : s.part.state = .faultStop)
    (ht : s.weigh.tracking = false) : (endZeroSet o detail s).weigh.tracking = false := by
  unfold endZeroSet
  split
  · exact ht
  · exact zeroConditions_of_faultStop (by simpa using hs)

theorem endCalAveraging_tracking (o : Outcome) (detail : Word) {s : State} (hs : s.part.state = .faultStop)
    (ht : s.weigh.tracking = false) : (endCalAveraging o detail s).weigh.tracking = false := by
  unfold endCalAveraging
  split
  · exact ht
  · exact zeroConditions_of_faultStop (by simpa using hs)

theorem finishHeldCal_of_none (o : Outcome) (detail : Word) {s : State} (h : s.cal.held = none) :
    finishHeldCal o detail s = s := by simp only [finishHeldCal, h]

/-- The held calibration order is finished, and its slot alone leaves the taken slots. -/
theorem finishHeldCal_fields (o : Outcome) (detail : Word) (s : State) :
    (finishHeldCal o detail s).cal = { s.cal with held := none } ∧
    (finishHeldCal o detail s).exch =
      (match s.cal.held with
       | none => s.exch
       | some slot => s.exch.finishSlot slot o detail) ∧
    (finishHeldCal o detail s).orders.scan = s.orders.scan ∧
    (∀ x, x ∈ (finishHeldCal o detail s).orders.taken ↔ x ∈ s.orders.taken ∧ s.cal.held ≠ some x.1) := by
  unfold finishHeldCal
  split
  · next h => exact ⟨by rw [← h], by simp [h], rfl, by simp [h]⟩
  · next slot h => simp [h, finishOrder, eq_comm (a := slot)]

/-- An averaging ends its order first; a store write ends one that is then still held. -/
theorem abortStoreOrder_endCalAveraging (s : State) : abortStoreOrder (endCalAveraging .aborted 0 s) =
    if s.cal.averaging.isSome then
      refreshZero (finishHeldCal .aborted 0 { s with cal := { s.cal with averaging := none } })
    else if s.cal.store ≠ .idle then finishHeldCal .aborted 1 s else s := by
  unfold endCalAveraging
  split
  · next h =>
    unfold abortStoreOrder
    split <;> simp_all
  · next h =>
    obtain ⟨hcal, -⟩ := finishHeldCal_fields .aborted 0 { s with cal := { s.cal with averaging := none } }
    rw [h, Option.isSome_some, if_pos rfl]
    unfold abortStoreOrder
    split
    · rfl
    · exact finishHeldCal_of_none _ _ (congrArg Calibration.held hcal)

/-- What the end of the calibration order leaves: at most one of the averaging and the store write finishes its slot. -/
theorem abortCal_fields (s : State) :
    let t := abortStoreOrder (endCalAveraging .aborted 0 s)
    t.cal = abortedCal s.cal ∧
    t.exch = (match s.cal.held with
      | none => s.exch
      | some slot => if s.cal.averaging.isSome then s.exch.finishSlot slot .aborted 0
        else if s.cal.store ≠ .idle then s.exch.finishSlot slot .aborted 1 else s.exch) ∧
    t.orders.scan = s.orders.scan ∧
    (∀ x, x ∈ t.orders.taken ↔ x ∈ s.orders.taken ∧
      (s.cal.averaging.isSome = true ∨ s.cal.store ≠ .idle → s.cal.held ≠ some x.1)) := by
  intro t
  have ht : t = _ := abortStoreOrder_endCalAveraging s
  by_cases havg : s.cal.averaging.isSome = true
  · rw [if_pos havg] at ht
    obtain ⟨hcal, hexch, hscan, htaken⟩ := finishHeldCal_fields .aborted 0 { s with cal := { s.cal with averaging := none } }
    rw [ht]
    refine ⟨hcal.trans (by simp [abortedCal, havg]), hexch.trans ?_, hscan, fun x => (htaken x).trans (by simp [havg])⟩
    cases s.cal.held <;> simp [havg]
  rw [if_neg havg] at ht
  have hnone : s.cal.averaging = none := by simpa using havg
  by_cases hstore : s.cal.store = .idle
  · rw [if_neg (by simpa using hstore)] at ht
    rw [ht]
    refine ⟨by rw [abortedCal, if_neg (by simp [hnone, hstore]), ← hnone], ?_, rfl, fun x => by simp [hnone, hstore]⟩
    cases s.cal.held <;> simp [havg, hstore]
  · rw [if_pos hstore] at ht
    obtain ⟨hcal, hexch, hscan, htaken⟩ := finishHeldCal_fields .aborted 1 s
    rw [ht]
    refine ⟨hcal.trans (by simp [abortedCal, hstore, ← hnone]), hexch.trans ?_, hscan,
      fun x => (htaken x).trans (by simp [hstore])⟩
    cases s.cal.held <;> simp [havg, hstore]

/-- What the end of the whole calibration class leaves. -/
theorem calOrdersAtRestart_fields (s : State) :
    let t := calOrdersAtRestart s
    t.cal = abortedCal s.cal ∧ t.exch = abortedExch s s.exch ∧
    t.weigh = { s.weigh with zeroSet := none, tracking := t.weigh.tracking, acc := t.weigh.acc } ∧
    t.orders.scan = s.orders.scan ∧
    (∀ x, x ∈ t.orders.taken ↔ x ∈ s.orders.taken ∧ (∀ z, s.weigh.zeroSet = some z → x.1 ≠ z.slot) ∧
      (s.cal.averaging.isSome = true ∨ s.cal.store ≠ .idle → s.cal.held ≠ some x.1)) := by
  intro t
  obtain ⟨hzexch, hzscan, hztaken⟩ := endZeroSet_fields .aborted s
  obtain ⟨hcal, hexch, hscan, htaken⟩ := abortCal_fields (endZeroSet .aborted 0 s)
  simp only [endZeroSet_frame] at hcal hexch htaken
  refine ⟨hcal, ?_, ?_, hscan.trans hzscan, fun x => (htaken x).trans ?_⟩
  · refine hexch.trans ?_
    rw [hzexch]
    rfl
  · simp only [t, calOrdersAtRestart, abortStoreOrder_frame]
    rw [endCalAveraging_weigh, endZeroSet_weigh]
  · rw [hztaken, and_assoc]

/-- The entry to FAULT_STOP is the change of state with its cause, the notice, and the end of the calibration class. -/
theorem enterFaultStop_eq (c : Cause) (s : State) : enterFaultStop c s = calOrdersAtRestart (raiseNotice .fault
    (changePart .faultStop c.reason { s with part := { s.part with cause := some c, stopReq := true } })) := rfl

/-- What an entry to FAULT_STOP leaves in each block it touches (R173, R20, R27, R33). -/
theorem enterFaultStop_fields (c : Cause) (s : State) :
    let t := enterFaultStop c s
    t.part = { state := .faultStop, cause := some c, stopReq := true } ∧
    t.weigh = { s.weigh with jam := .stopped, zeroSet := none, tracking := false, acc := t.weigh.acc } ∧
    t.cal = abortedCal s.cal ∧
    t.exch = abortedExch s ((s.exch.event .stateChange 5 (wordOfNat s.part.state.code) (wordOfNat c.reason.code)).raiseNotice
      .fault) ∧
    t.orders.scan = s.orders.scan ∧
    (∀ x, x ∈ t.orders.taken ↔ x ∈ s.orders.taken ∧ (∀ z, s.weigh.zeroSet = some z → x.1 ≠ z.slot) ∧
      (s.cal.averaging.isSome = true ∨ s.cal.store ≠ .idle → s.cal.held ≠ some x.1)) := by
  intro t
  have ht : t = _ := enterFaultStop_eq c s
  generalize hu : raiseNotice .fault
    (changePart .faultStop c.reason { s with part := { s.part with cause := some c, stopReq := true } }) = u at ht
  have hweigh : u.weigh = { s.weigh with jam := .stopped, tracking := false, acc := u.weigh.acc } := by
    rw [← hu]
    simp only [raiseNotice_frame]
    rw [changePart_weigh]
    simp [changePart, jamAfter, zeroConditions]
  have hpart : u.part = { state := .faultStop, cause := some c, stopReq := true } := by rw [← hu]; rfl
  have hstop : u.part.state = .faultStop := by rw [hpart]
  have hcal : u.cal = s.cal := by rw [← hu]; simp
  obtain ⟨htcal, htexch, htweigh, htscan, httaken⟩ := calOrdersAtRestart_fields u
  rw [← ht] at htcal htexch htweigh htscan httaken
  have htracking : t.weigh.tracking = false := by
    simp only [ht, calOrdersAtRestart, abortStoreOrder_frame]
    exact endCalAveraging_tracking _ _ (by simpa using hstop) (endZeroSet_tracking _ _ hstop (by rw [hweigh]))
  refine ⟨?_, ?_, by rw [htcal, hcal], ?_, ?_, fun x => ?_⟩
  · rw [ht]; simpa [calOrdersAtRestart] using hpart
  · rw [htweigh, htracking, hweigh]
  · rw [htexch, abortedExch, abortedExch, hcal, hweigh, ← hu]; rfl
  · rw [htscan, ← hu]; simp
  · rw [httaken, hweigh, hcal, ← hu]; simp

theorem handCause_of_producing (c : Cause) {s : State} (h : s.part.state = .stopped ∨ s.part.state = .run) :
    handCause c s = enterFaultStop c s := by
  rcases h with h | h <;> simp only [handCause, h]

theorem handCause_of_not_producing (c : Cause) {s : State} (hs : s.part.state ≠ .stopped) (hr : s.part.state ≠ .run) :
    handCause c s = s := by
  unfold handCause
  split <;> simp_all

theorem lastSampleTag_eq (s : State) : lastSampleTag s = (s.weigh.samples.getLast?.map (·.tag)).getD 0 := by
  unfold lastSampleTag
  cases s.weigh.samples.getLast? <;> rfl

/-- A cause handed on leaves the platform, Z, the samples, the converter and the watch. -/
theorem handCause_weigh (c : Cause) (s : State) :
    (handCause c s).weigh.platform = s.weigh.platform ∧ (handCause c s).weigh.z = s.weigh.z ∧
    (handCause c s).weigh.samples = s.weigh.samples ∧ (handCause c s).weigh.converter = s.weigh.converter ∧
    (handCause c s).weigh.watch = s.weigh.watch := by
  obtain ⟨-, hweigh, -⟩ := enterFaultStop_fields c s
  unfold handCause
  split
  · rw [hweigh]; simp
  · rw [hweigh]; simp
  · simp

/-- Settles O13: both faults hand their cause, and the entry to FAULT_STOP leaves what `enterFaultStop_fields` says. -/
theorem converterAndJamFaultsStopThePart : Obligations.ConverterAndJamFaultsStopThePart := by
  intro left loaded w rest s aborts stops
  have haborts (e : Exchange) : abortedExch s e = aborts e := rfl
  refine ⟨fun hawake hwatch => ?_, fun hjam hplatform hrun => ⟨fun hleft => ?_, fun hleft => ?_⟩⟩
  · intro tag
    have htag : lastSampleTag s = tag := lastSampleTag_eq s
    have hexec : exec .converterWatchExpiry s = .next (handCause .converterFault (raiseEvent .converterFault 0 (lastSampleTag s) 0
        { s with weigh := { s.weigh with converter := .silent, watch := none } })) := by
      simp [exec, execConverterWatchExpiry, State.awake, hawake, hwatch]
    rw [hexec, htag]
    generalize hu : raiseEvent .converterFault 0 tag 0 { s with weigh := { s.weigh with converter := .silent, watch := none } } = u
    have hpart : u.part = s.part := by rw [← hu]; rfl
    obtain ⟨hp, hz, hsamples, hconv, hw⟩ := handCause_weigh .converterFault u
    refine ⟨_, rfl, ?_, ?_, ?_, ?_, ?_, fun hproducing => ?_, fun hs hr => ?_, ?_⟩
    · rw [hconv, ← hu]; rfl
    · rw [hw, ← hu]; rfl
    · rw [hp, ← hu]; rfl
    · rw [hz, ← hu]; rfl
    · rw [hsamples, ← hu]; rfl
    · rw [handCause_of_producing _ (by rw [hpart]; exact hproducing)]
      obtain ⟨htpart, htweigh, htcal, htexch, htscan, httaken⟩ := enterFaultStop_fields .converterFault u
      subst hu
      exact ⟨⟨htpart, by rw [htweigh], by rw [htweigh], by rw [htweigh], htcal, httaken, htscan⟩, htexch⟩
    · rw [handCause_of_not_producing _ (by rw [hpart]; exact hs) (by rw [hpart]; exact hr), ← hu]
      exact ⟨rfl, .intro⟩
    · rw [← hu]; exact .intro
  · subst hleft
    have hexec : exec .jamTimerExpiry s = .next (enterFaultStop .platformJam (raiseEvent .platformJam s.weigh.platform.length
        w.inTag (wordOfNat loaded) { s with weigh := { s.weigh with jam := .expired } })) := by
      simp [exec, execJamTimerExpiry, hjam, hplatform, hrun, jam, handCause]
    rw [hexec]
    obtain ⟨htpart, htweigh, htcal, htexch, htscan, httaken⟩ := enterFaultStop_fields .platformJam
      (raiseEvent .platformJam s.weigh.platform.length w.inTag (wordOfNat loaded) { s with weigh := { s.weigh with jam := .expired } })
    refine ⟨_, rfl, ⟨htpart, by rw [htweigh], by rw [htweigh], by rw [htweigh], htcal, httaken, htscan⟩, ?_, ?_, ?_, ?_, .intro⟩
    · rw [htexch]; simp [hrun]; rfl
    · rw [htweigh]; rfl
    · rw [htweigh]; rfl
    · rw [htweigh]; rfl
  · cases left with
    | zero => exact absurd rfl hleft
    | succ n => simp [exec, execJamTimerExpiry, hjam]

end Sys2Proof.Machine

namespace Sys2Proof.Machine

/-! PROOFS. The time tag under the operations of the exchange memory, and the orders that are carried out at their take (R19, R25,
R163, R175). -/

@[simp] theorem Exchange.event_timeTag (e : Exchange) (k : EventKind) (arg0 : Nat) (arg1 arg2 : Word) :
    (e.event k arg0 arg1 arg2).timeTag = e.timeTag := by
  unfold Exchange.event
  split <;> rfl

@[simp] theorem Exchange.finishSlot_timeTag (e : Exchange) (slot : Slot) (o : Outcome) (detail : Word) :
    (e.finishSlot slot o detail).timeTag = e.timeTag := rfl

@[simp] theorem Exchange.logRecord_timeTag (e : Exchange) (ws : List Word) : (e.logRecord ws).timeTag = e.timeTag := by
  unfold Exchange.logRecord
  dsimp only
  split <;> rfl

@[simp] theorem lotCloseEvents_timeTag (l : Lot) (nominal : Nat) (c : LotCause) (e : Exchange) :
    (lotCloseEvents l nominal c e).timeTag = e.timeTag := by
  unfold lotCloseEvents
  dsimp only
  repeat' split
  all_goals simp

/-- The active lot filed and its successor opened, where one is open under ACTIVE (R161 to R163). -/
theorem reopenActiveLot_of_open {r : Recipe} {l : Lot} (c : LotCause) {s : State} (hr : s.recipes.active = some r)
    (hl : s.recipes.activeLot = some l) :
    (reopenActiveLot c s).recipes = { s.recipes with
      activeLot := some (freshLot s.recipes.nextLot r s.exch.timeTag), nextLot := nextNumber s.recipes.nextLot
      fine := 600, finePhase := 0, closedPos := s.recipes.closedPos + 1 } ∧
    (reopenActiveLot c s).exch = ((lotCloseEvents l r.nominal c (s.exch.write (0x0300 + 32 * s.recipes.closedPos.val)
      (closedLotWords l s.exch.timeTag c r.nominal))).raiseNotice .lot).write lotMinutesAddr [wordOfNat r.lotMinutes] := by
  simp [reopenActiveLot, closeActiveLot, openLot, fileLot, setLot, recipeOf, activeRecipe, hr, hl]

/-- An order that no check of R183 refuses is handed to its block (R182, R184). -/
theorem takeOrder_of_kind {k : OrderKind} {slot : Slot} {s : State} (hk : orderKindOf (slotWord s slot 1) = some k)
    (hf : orderFailure k s slot = none) : takeOrder slot s = handOver k slot s := by
  simp only [takeOrder, hk, hf]

theorem calClassBusy_of_idle {s : State} (hz : s.weigh.zeroSet = none) (hh : s.cal.held = none) (hs : s.cal.store = .idle) :
    calClassBusy s = false := by simp [calClassBusy, hz, hh, hs, StoreState.isWriting]

/-- Zero tracking tested where its conditions do not hold: it stands still with the accumulator cleared (R14). -/
theorem refreshZero_stops {s : State} (h : zeroConditions s = false) :
    (refreshZero s).weigh = { s.weigh with tracking := false, acc := s.weigh.acc.cleared } := by
  simp [refreshZero, h]

/-- A calibration order that is accepted starts its averaging and is held; zero tracking stops (R25). -/
theorem beginCalAveraging_fields (kind : CalKind) (slot : Slot) (s : State) :
    let t := beginCalAveraging kind slot s
    t.cal = { s.cal with
      held := some slot, averaging := some { kind := kind, arg := (slotArg1 s slot).toNat, avg := Averaging.fresh } } ∧
    t.weigh = { s.weigh with tracking := false, acc := s.weigh.acc.cleared } ∧
    t.orders = { s.orders with taken := s.orders.taken ++ [(slot, .calibration)] } ∧
    t.exch = s.exch.write (slotBase slot) [2] := by
  refine ⟨rfl, refreshZero_stops ?_, rfl, rfl⟩
  simp [zeroConditions]

/-- The same of ZERO_SET (R19). -/
theorem orderZeroSet_fields {slot : Slot} {s : State} (h : s.weigh.platform = []) :
    let t := orderZeroSet slot s
    t.weigh = { s.weigh with
      zeroSet := some { slot := slot, avg := Averaging.fresh }, tracking := false, acc := s.weigh.acc.cleared } ∧
    t.orders = { s.orders with taken := s.orders.taken ++ [(slot, .weigh)] } ∧
    t.exch = s.exch.write (slotBase slot) [2] := by
  intro t
  have ht : t = refreshZero (holdOrder slot .weigh
      { s with weigh := { s.weigh with zeroSet := some { slot := slot, avg := Averaging.fresh } } }) := by
    simp only [t, orderZeroSet, h, List.isEmpty_nil, if_true]
  rw [ht, refreshZero_stops (by simp [zeroConditions])]
  exact ⟨rfl, rfl, rfl⟩

/-- The state LINE_RUN gives takes cans and can be stopped by a cause. -/
theorem lineState_producing (s : State) : lineState s = .stopped ∨ lineState s = .run := by
  unfold lineState
  split <;> simp

/-- FAULT_CLEAR before the converter's test: the change of state, then the finish of its order (R175). -/
def faultCleared (slot : Slot) (s : State) : State :=
  finishOrder slot .done (wordOfNat (causeCode s.part.cause))
    (changePart (lineState s) .faultClear { s with part := { s.part with cause := none, stopReq := false } })

@[simp] theorem faultCleared_frame (slot : Slot) (s : State) :
    (faultCleared slot s).pins = s.pins ∧ (faultCleared slot s).cal = s.cal ∧ (faultCleared slot s).track = s.track ∧
    (faultCleared slot s).reader = s.reader ∧ (faultCleared slot s).filler = s.filler ∧
    (faultCleared slot s).reject = s.reject ∧ (faultCleared slot s).valves = s.valves ∧
    (faultCleared slot s).dose = s.dose ∧ (faultCleared slot s).recipes = s.recipes ∧
    (faultCleared slot s).pending = s.pending := by simp [faultCleared]

theorem orderFaultClear_eq (slot : Slot) (s : State) : orderFaultClear slot s = silentCheck (faultCleared slot s) := rfl

theorem faultCleared_fields (slot : Slot) (s : State) :
    let u := faultCleared slot s
    u.part = { state := lineState s, cause := none, stopReq := false } ∧
    u.weigh = { s.weigh with jam := jamAfter (lineState s) s, tracking := u.weigh.tracking, acc := u.weigh.acc } ∧
    u.exch = (s.exch.event .stateChange (lineState s).code (wordOfNat s.part.state.code) 9).finishSlot slot .done
      (wordOfNat (causeCode s.part.cause)) := ⟨rfl, rfl, rfl⟩

theorem silentCheck_of_live {s : State} (h : s.weigh.converter = .live) : silentCheck s = s := by
  simp only [silentCheck, h]

/-- A part that has come to STOPPED or RUN with a silent converter enters FAULT_STOP at once (R2, R175). -/
theorem silentCheck_of_silent {s : State} (h : s.weigh.converter = .silent)
    (hp : s.part.state = .stopped ∨ s.part.state = .run) : silentCheck s = enterFaultStop .converterFault s := by
  simp only [silentCheck, h, handCause_of_producing _ hp]

theorem silentCheck_weigh (s : State) : (silentCheck s).weigh.platform = s.weigh.platform ∧
    (silentCheck s).weigh.z = s.weigh.z ∧ (silentCheck s).weigh.samples = s.weigh.samples ∧
    (silentCheck s).weigh.converter = s.weigh.converter ∧ (silentCheck s).weigh.watch = s.weigh.watch := by
  unfold silentCheck
  split
  · simp
  · exact handCause_weigh .converterFault s

theorem abortedCal_of_none {c : Calibration} (ha : c.averaging = none) (hh : c.held = none) : abortedCal c = c := by
  rw [abortedCal, hh, ite_self, ← ha, ← hh]

/-- Settles O48: the checks of R183 let each order through to its block, whose effect is the clause. -/
theorem theOtherOrdersAreCarriedOut : Obligations.TheOtherOrdersAreCarriedOut := by
  intro slot r l s line word fresh idle t starts
  have htake {k : OrderKind} {w : Word} (hw : word 1 = w) (hk : orderKindOf w = some k) (hf : orderFailure k s slot = none) :
      t = handOver k slot s := takeOrder_of_kind (by rw [← hk, ← hw]; rfl) hf
  refine ⟨fun hword hstate hcal hidle => ?_, fun hword hstate hswitch harg hidle => ?_,
    fun hword hstate hswitch hcal hlow hhigh hidle => ?_, fun hword hstate hr hl => ?_, fun hword hstate => ?_⟩
  · obtain ⟨hz, hh, hstore⟩ := hidle
    have ht : t = orderZeroSet slot s := htake hword rfl (by
      simp [orderFailure, OrderKind.allowedIn, OrderKind.needsSwitch, OrderKind.admittedBy, OrderKind.argsIn, hstate, hcal,
        calClassBusy_of_idle hz hh hstore])
    rw [ht]
    refine ⟨fun hoccupied => if_neg (by simpa using hoccupied), fun hempty => ?_⟩
    obtain ⟨hweigh, horders, hexch⟩ := orderZeroSet_fields (slot := slot) hempty
    simp only [starts, ht]
    exact ⟨⟨by rw [hweigh]; rfl, by rw [hweigh]; rfl, by rw [hweigh]; rfl, horders, hexch⟩, .intro⟩
  · obtain ⟨hz, hh, hstore⟩ := hidle
    have ht : t = orderCalZero slot s := htake hword rfl (by
      have harg1 : (slotArg1 s slot).toNat ≤ 200000 := harg
      have hargs : OrderKind.calZero.argsIn s slot = true := by simpa [OrderKind.argsIn, inRange] using harg1
      rcases hstate with h | h <;>
      simp [orderFailure, OrderKind.allowedIn, OrderKind.needsSwitch, OrderKind.admittedBy, hargs, h, hswitch,
        calClassBusy_of_idle hz hh hstore])
    rw [ht]
    refine ⟨fun hoccupied => if_neg (by simpa using hoccupied), fun hempty => ?_⟩
    have hbegin : orderCalZero slot s = beginCalAveraging .zero slot s := if_pos (by simp [hempty])
    obtain ⟨hcal, hweigh, horders, hexch⟩ := beginCalAveraging_fields .zero slot s
    simp only [starts, ht, hbegin]
    exact ⟨hcal, ⟨by rw [hweigh], by rw [hweigh]; rfl, by rw [hweigh]; rfl, horders, hexch⟩, .intro⟩
  · obtain ⟨hz, hh, hstore⟩ := hidle
    have ht : t = beginCalAveraging .span slot s := htake hword rfl (by
      have hrange : 1000 ≤ (slotArg1 s slot).toNat ∧ (slotArg1 s slot).toNat ≤ 2000000 := ⟨hlow, hhigh⟩
      have hargs : OrderKind.calSpan.argsIn s slot = true := by simpa [OrderKind.argsIn, inRange] using hrange
      rcases hstate with h | h <;>
      simp [orderFailure, OrderKind.allowedIn, OrderKind.needsSwitch, OrderKind.admittedBy, hargs, h, hswitch, hcal,
        calClassBusy_of_idle hz hh hstore])
    obtain ⟨hcal, hweigh, horders, hexch⟩ := beginCalAveraging_fields .span slot s
    simp only [starts, ht]
    exact ⟨hcal, ⟨by rw [hweigh], by rw [hweigh]; rfl, by rw [hweigh]; rfl, horders, hexch⟩, .intro⟩
  · have ht : t = orderLotClose slot s := htake hword rfl (by
      rcases hstate with h | h <;>
      simp [orderFailure, OrderKind.allowedIn, OrderKind.needsSwitch, OrderKind.admittedBy, OrderKind.argsIn,
        OrderKind.calClass, h])
    obtain ⟨hrecipes, hexch⟩ := reopenActiveLot_of_open .order hr hl
    rw [ht]
    refine ⟨?_, ?_, .intro⟩
    · simp only [orderLotClose, finishOrder_frame, hrecipes]
    · simp only [orderLotClose, finishOrder, hexch, activeLotIndex, hl]; rfl
  · intro new cleared
    have ht : t = silentCheck (faultCleared slot s) := (htake hword rfl (by
      simp [orderFailure, OrderKind.allowedIn, OrderKind.needsSwitch, OrderKind.admittedBy, OrderKind.argsIn,
        OrderKind.calClass, hstate])).trans (orderFaultClear_eq slot s)
    obtain ⟨hpart, hweigh, hexch⟩ := faultCleared_fields slot s
    rw [hstate] at hexch
    have hconv : (faultCleared slot s).weigh.converter = s.weigh.converter := by rw [hweigh]
    obtain ⟨hplatform, hz, -⟩ := silentCheck_weigh (faultCleared slot s)
    refine ⟨by rw [ht, hplatform, hweigh], by rw [ht, hz, hweigh], fun hlive => ?_, fun hsilent hz hh ha => ?_⟩
    · rw [ht, silentCheck_of_live (hconv.trans hlive)]
      refine ⟨hpart, hexch, ?_, .intro⟩
      rw [hweigh]
      simp [jamAfter, lineState, loadedJam]
    · rw [ht, silentCheck_of_silent (hconv.trans hsilent) (by rw [hpart]; exact lineState_producing s)]
      obtain ⟨htpart, htweigh, htcal, htexch, -⟩ := enterFaultStop_fields .converterFault (faultCleared slot s)
      refine ⟨htpart, by rw [htweigh], ?_, .intro (hcal := .inr ?_)⟩
      · rw [htexch, abortedExch, hexch, hpart, hweigh]
        simp [hz, hh, faultCleared]
        rfl
      · simpa [htcal] using abortedCal_of_none ha hh

end Sys2Proof.Machine

namespace Sys2Proof.Machine

/-! PROOFS. RESTART block by block (R176 and the reset tables of the chapters). -/

/-- Every entry leaves as FLUSHED, oldest first, each with its can log record (R60, R61). -/
theorem flushEntries_fields (s : State) :
    (flushEntries s).track = { s.track with entries := [] } ∧
    (flushEntries s).exch = s.track.entries.foldl (fun e x => e.logRecord (logWords x .flushed)) s.exch := by
  unfold flushEntries
  generalize hl : s.track.entries = l
  induction l generalizing s with
  | nil => exact ⟨by rw [List.foldl_nil, ← hl], rfl⟩
  | cons e l ih => exact ih (removeEntry e .flushed s) (by simp [hl])

theorem finishHeldChangeover_fields (o : Outcome) (s : State) :
    (finishHeldChangeover o 0 s).exch =
      (match s.recipes.held with
       | none => s.exch
       | some slot => s.exch.finishSlot slot o 0) ∧
    (finishHeldChangeover o 0 s).recipes = { s.recipes with held := none } ∧
    (finishHeldChangeover o 0 s).orders.scan = s.orders.scan ∧
    (∀ x, x ∈ (finishHeldChangeover o 0 s).orders.taken ↔ x ∈ s.orders.taken ∧ s.recipes.held ≠ some x.1) := by
  unfold finishHeldChangeover
  split
  · next h => exact ⟨by simp [h], by rw [← h], rfl, by simp [h]⟩
  · next slot h => simp [h, finishOrder, eq_comm (a := slot)]

/-- The exchange memory with a lot filed at a position of the closed lot list with cause RESET (R162). -/
def filedAtReset (tag : Word) (l : Lot) (r : Recipe) (pos : Fin 8) (e : Exchange) : Exchange :=
  (lotCloseEvents l r.nominal .reset (e.write (0x0300 + 32 * pos.val) (closedLotWords l tag .reset r.nominal))).raiseNotice .lot

/-- The memory and the write position after the retiring lot of a retiring recipe has been filed. -/
def retiringFiled (tag : Word) (rc : Recipes) (e : Exchange) : Exchange × Fin 8 :=
  match rc.retiring, rc.retiringLot with
  | some r, some l => (filedAtReset tag l r rc.closedPos e, rc.closedPos + 1)
  | _, _ => (e, rc.closedPos)

/-- The memory and the write position after the active lot has been filed and its successor's minutes written. -/
def activeReopened (tag : Word) (rc : Recipes) (p : Exchange × Fin 8) : Exchange × Fin 8 :=
  match rc.active, rc.activeLot with
  | some r, some l => ((filedAtReset tag l r p.2 p.1).write 0x00C1 [BitVec.ofNat 32 r.lotMinutes], p.2 + 1)
  | some r, none => (p.1.write 0x00C1 [BitVec.ofNat 32 r.lotMinutes], p.2)
  | none, _ => p

theorem filedAtReset_timeTag (tag : Word) (l : Lot) (r : Recipe) (pos : Fin 8) (e : Exchange) :
    (filedAtReset tag l r pos e).timeTag = e.timeTag := by simp [filedAtReset]

theorem retiringFiled_timeTag (tag : Word) (rc : Recipes) (e : Exchange) : (retiringFiled tag rc e).1.timeTag = e.timeTag := by
  unfold retiringFiled
  split
  · exact filedAtReset_timeTag ..
  · rfl

/-- The retiring recipe gone with its lot. -/
def retireAtRestart (s : State) : State :=
  if s.recipes.retiring.isSome then
    { closeRetiringLot .reset s with recipes := { (closeRetiringLot .reset s).recipes with retiring := none } }
  else s

/-- The active lot closed and opened again, where a recipe is in force. -/
def reopenAtRestart (s : State) : State := if s.recipes.active.isSome then reopenActiveLot .reset s else s

/-- The changeover that RESTART ends: its order, and NEXT. -/
def dropChangeover (s : State) : State :=
  { finishHeldChangeover .aborted 0 s with recipes := { (finishHeldChangeover .aborted 0 s).recipes with next := none } }

/-- The Recipe and Lot Unit at RESTART in its three parts (R167). -/
theorem recipesAtRestart_eq (s : State) : recipesAtRestart s = reopenAtRestart (retireAtRestart (dropChangeover s)) := rfl

theorem retireAtRestart_fields (s : State) :
    let t := retireAtRestart s
    (t.exch, t.recipes.closedPos) = retiringFiled s.exch.timeTag s.recipes s.exch ∧
    t.recipes = { s.recipes with
      retiring := none, closedPos := t.recipes.closedPos
      retiringLot := if s.recipes.retiring.isSome then none else s.recipes.retiringLot } ∧
    t.orders = s.orders := by
  intro t
  cases hr : s.recipes.retiring with
  | none =>
    have ht : t = s := if_neg (by simp [hr])
    rw [ht]
    exact ⟨by simp [retiringFiled, hr], by rw [Option.isSome_none, if_neg Bool.false_ne_true, ← hr], rfl⟩
  | some r =>
    have ht : t = { closeRetiringLot .reset s with recipes := { (closeRetiringLot .reset s).recipes with retiring := none } } :=
      if_pos (by simp [hr])
    rw [ht]
    cases hl : s.recipes.retiringLot with
    | none =>
      have hclosed : closeRetiringLot .reset s = s := by simp only [closeRetiringLot, hl]
      rw [hclosed]
      exact ⟨by simp [retiringFiled, hr, hl], by rw [Option.isSome_some, if_pos rfl, ← hl], rfl⟩
    | some l => simp [closeRetiringLot, retiringFiled, filedAtReset, fileLot, setLot, recipeOf, hr, hl]

theorem retireAtRestart_timeTag (s : State) : (retireAtRestart s).exch.timeTag = s.exch.timeTag := by
  obtain ⟨hexch, -⟩ := retireAtRestart_fields s
  exact (congrArg (fun p => p.1.timeTag) hexch).trans (retiringFiled_timeTag ..)

theorem reopenAtRestart_fields (s : State) :
    let t := reopenAtRestart s
    (t.exch, t.recipes.closedPos) = activeReopened s.exch.timeTag s.recipes (s.exch, s.recipes.closedPos) ∧
    t.recipes.active = s.recipes.active ∧ t.recipes.retiring = s.recipes.retiring ∧ t.recipes.next = s.recipes.next ∧
    t.recipes.held = s.recipes.held ∧ t.recipes.boundary = s.recipes.boundary ∧
    t.recipes.retiringLot = s.recipes.retiringLot ∧
    (∀ r, s.recipes.active = some r →
      t.recipes.activeLot = some (freshLot s.recipes.nextLot r s.exch.timeTag) ∧ t.recipes.fine = 600) ∧
    t.orders = s.orders := by
  intro t
  cases hr : s.recipes.active with
  | none =>
    have ht : t = s := if_neg (by simp [hr])
    rw [ht]
    simp [activeReopened, hr]
  | some r =>
    have ht : t = reopenActiveLot .reset s := if_pos (by simp [hr])
    rw [ht]
    cases hl : s.recipes.activeLot with
    | none =>
      simp [reopenActiveLot, closeActiveLot, activeReopened, openLot, activeRecipe, lotMinutesAddr, wordOfNat, hr, hl]
    | some l =>
      simp [reopenActiveLot, closeActiveLot, activeReopened, filedAtReset, openLot, fileLot, setLot, recipeOf, activeRecipe,
        lotMinutesAddr, wordOfNat, hr, hl]

theorem dropChangeover_fields (s : State) :
    (dropChangeover s).exch =
      (match s.recipes.held with
       | none => s.exch
       | some slot => s.exch.finishSlot slot .aborted 0) ∧
    (dropChangeover s).recipes = { s.recipes with held := none, next := none } ∧
    (dropChangeover s).orders.scan = s.orders.scan ∧
    (∀ x, x ∈ (dropChangeover s).orders.taken ↔ x ∈ s.orders.taken ∧ s.recipes.held ≠ some x.1) := by
  obtain ⟨hexch, hrecipes, hscan, htaken⟩ := finishHeldChangeover_fields .aborted s
  refine ⟨hexch, ?_, hscan, htaken⟩
  simp only [dropChangeover, hrecipes]

/-- The Recipe and Lot Unit at RESTART: the changeover order ends, the retiring lot and the active lot are filed one after the
other, and the next lot opens under the recipe in force (R167). -/
theorem recipesAtRestart_fields (s : State) :
    let t := recipesAtRestart s
    let e := match s.recipes.held with
      | none => s.exch
      | some slot => s.exch.finishSlot slot .aborted 0
    (t.exch, t.recipes.closedPos) =
      activeReopened s.exch.timeTag s.recipes (retiringFiled s.exch.timeTag s.recipes e) ∧
    t.recipes.active = s.recipes.active ∧ t.recipes.retiring = none ∧ t.recipes.next = none ∧ t.recipes.held = none ∧
    t.recipes.boundary = s.recipes.boundary ∧
    (s.recipes.retiring.isSome = true → t.recipes.retiringLot = none) ∧
    (∀ r, s.recipes.active = some r →
      t.recipes.activeLot = some (freshLot s.recipes.nextLot r s.exch.timeTag) ∧ t.recipes.fine = 600) ∧
    t.orders.scan = s.orders.scan ∧
    (∀ x, x ∈ t.orders.taken ↔ x ∈ s.orders.taken ∧ s.recipes.held ≠ some x.1) := by
  intro t e
  have ht : t = reopenAtRestart (retireAtRestart (dropChangeover s)) := recipesAtRestart_eq s
  rw [ht]
  obtain ⟨hde, hdr, hdscan, hdtaken⟩ := dropChangeover_fields s
  obtain ⟨hre, hrr, hro⟩ := retireAtRestart_fields (dropChangeover s)
  obtain ⟨hoe, hactive, hretiring, hnext, hheld, hboundary, hretLot, hlot, hoo⟩ :=
    reopenAtRestart_fields (retireAtRestart (dropChangeover s))
  have htag : (dropChangeover s).exch.timeTag = s.exch.timeTag := by
    rw [hde]; split <;> simp
  have htag' := (retireAtRestart_timeTag (dropChangeover s)).trans htag
  rw [htag] at hre
  rw [htag'] at hoe hlot
  rw [hrr, hdr] at hactive hretiring hnext hheld hboundary hretLot hlot
  refine ⟨?_, hactive, hretiring, hnext, hheld, hboundary, fun hsome => hretLot.trans (if_pos hsome), hlot, ?_, fun x => ?_⟩
  · refine hoe.trans ?_
    rw [hre, hrr, hdr, hde]
    rfl
  · exact (congrArg Orders.scan (hoo.trans hro)).trans hdscan
  · rw [← hdtaken, ← hro, ← hoo]

end Sys2Proof.Machine

namespace Sys2Proof.Machine

/-! PROOFS. RESTART as one action (R176, R177). -/

/-- RESTART up to the Recipe and Lot Unit: the event queue, the calibration class, the Weigh Channel and the track. -/
def trackAtRestart (s : State) : State :=
  setReads [] (flushEntries (weighAtRestart (calOrdersAtRestart (restartQueue
    { s with part := { s.part with cause := none, stopReq := false } }))))

theorem restartBlocks_eq (s : State) : restartBlocks s =
    fillerAtRestart (valvesAtRestart (doseAtRestart (recipesAtRestart (trackAtRestart s)))) := rfl

theorem trackAtRestart_fields (s : State) :
    let t := trackAtRestart s
    let e0 : Exchange := { (s.exch.write 0x00C0 [0]).write 0x00C2 [0] with evWrite := 0 }
    t.exch = s.track.entries.foldl (fun e x => e.logRecord (logWords x .flushed)) (abortedExch s e0) ∧
    t.weigh = { s.weigh with
      platform := [], jam := .stopped, z := s.cal.zc, acc := { sum := 0, n := 0, overload := false, quietStart := 0 }
      tracking := false, refusals := 0, zeroSet := none } ∧
    t.cal = abortedCal s.cal ∧ t.track = { entries := [], reads := [], nextSerial := s.track.nextSerial } ∧
    t.recipes = s.recipes ∧ t.orders.scan = s.orders.scan ∧
    (∀ x, x ∈ t.orders.taken ↔ x ∈ s.orders.taken ∧ (∀ z, s.weigh.zeroSet = some z → x.1 ≠ z.slot) ∧
      (s.cal.averaging.isSome = true ∨ s.cal.store ≠ .idle → s.cal.held ≠ some x.1)) := by
  intro t e0
  obtain ⟨hcal, hexch, hweigh, hscan, htaken⟩ :=
    calOrdersAtRestart_fields (restartQueue { s with part := { s.part with cause := none, stopReq := false } })
  obtain ⟨hftrack, hfexch⟩ := flushEntries_fields (weighAtRestart (calOrdersAtRestart (restartQueue
    { s with part := { s.part with cause := none, stopReq := false } })))
  refine ⟨?_, ?_, ?_, ?_, ?_, ?_, fun x => ?_⟩
  · simp only [t, trackAtRestart, setReads_frame, hfexch, weighAtRestart_frame, hexch, calOrdersAtRestart_frame,
      restartQueue_frame]
    rfl
  · have hzc : (calOrdersAtRestart (restartQueue { s with part := { s.part with cause := none, stopReq := false } })).cal.zc =
        s.cal.zc := by rw [hcal]; rfl
    simp only [t, trackAtRestart, setReads_frame, flushEntries_frame, weighAtRestart]
    rw [hweigh, hzc]
    rfl
  · simpa [t, trackAtRestart] using hcal
  · simp [t, trackAtRestart, setReads, hftrack]
  · simp [t, trackAtRestart]
  · simpa [t, trackAtRestart, restartQueue] using hscan
  · simpa [t, trackAtRestart, restartQueue] using htaken x

/-- A table numbered from 1 and replaced by a function of the number, read at a number it holds. -/
theorem mapFrom_getD {α β : Type} (f : Nat → α → β) (n i : Nat) (l : List α) (d : β) (d' : α) (h : i < l.length) :
    (mapFrom f n l).getD i d = f (n + i) (l.getD i d') := by
  induction l generalizing n i with
  | nil => simp at h
  | cons x l ih =>
    cases i with
    | zero => simp [mapFrom]
    | succ i =>
      have hi : i < l.length := by simpa using h
      have := ih (n + 1) i hi
      simp only [mapFrom, List.getD_cons_succ, this]
      congr 1
      omega

/-- Each valve at RESTART as after full reset, in the loop within V (R128). -/
theorem valveAt_valvesAtRestart {s : State} {v : Nat} (hlow : 1 ≤ v) (hhigh : v ≤ s.valves.table.length) :
    valveAt (valvesAtRestart s) v = { Valve.afterReset with state := if withinV s v then .averaging else .idle } := by
  have hne : v ≠ 0 := by omega
  rw [valveAt, numbered, if_neg hne, valvesAtRestart, mapValves_table, mapFrom_getD _ _ _ _ _ Valve.afterReset (by omega)]
  rw [Nat.add_sub_cancel' hlow]

/-- Nothing of the calibration class is in progress but a store write with no order. -/
def CalSettled (s : State) : Prop :=
  s.weigh.zeroSet = none ∧ s.cal.averaging = none ∧ (s.cal.store ≠ .idle → s.cal.held = none)

/-- Then an entry to FAULT_STOP ends no order. -/
theorem calOrdersAtRestart_of_settled {s : State} (h : CalSettled s) : calOrdersAtRestart s = s := by
  obtain ⟨hz, ha, hstore⟩ := h
  rw [calOrdersAtRestart, endZeroSet_of_none _ _ hz, endCalAveraging_of_none _ _ ha, abortStoreOrder]
  split
  · rfl
  · next h => exact finishHeldCal_of_none _ _ (hstore (by simp [h]))

theorem enterFaultStop_of_settled (c : Cause) {s : State} (h : CalSettled s) : enterFaultStop c s = raiseNotice .fault
    (changePart .faultStop c.reason { s with part := { s.part with cause := some c, stopReq := true } }) := by
  rw [enterFaultStop_eq]
  exact calOrdersAtRestart_of_settled h

theorem calSettled_abortedCal {s : State} {c : Calibration} (hz : s.weigh.zeroSet = none) (hc : s.cal = abortedCal c) :
    CalSettled s := by
  refine ⟨hz, by rw [hc]; rfl, ?_⟩
  rw [hc]
  exact fun hstore => if_pos (.inr hstore)

/-- The end of a RESTART: the change of the part state, and FAULT_STOP at once where the part has come to the line with a silent
converter (R176, R2). -/
theorem restartEnd_cases {s : State} (h : CalSettled s) :
    let t := silentCheck (changePart (restartTarget s) .restart s)
    let e := s.exch.event .stateChange (restartTarget s).code (wordOfNat s.part.state.code) 10
    (ready s = false → t.part = { s.part with state := .config } ∧ t.exch = e) ∧
    (ready s = true → s.weigh.converter = .live → t.part = { s.part with state := lineState s } ∧ t.exch = e) ∧
    (ready s = true → s.weigh.converter = .silent →
      t.part = { state := .faultStop, cause := some .converterFault, stopReq := true } ∧
      t.exch = (e.event .stateChange 5 (wordOfNat (lineState s).code) 8).raiseNotice .fault) := by
  intro t e
  have hsettled : CalSettled (changePart (restartTarget s) .restart s) := h
  refine ⟨fun hready => ?_, fun hready hlive => ?_, fun hready hsilent => ?_⟩
  · have htarget : restartTarget s = .config := by simp [restartTarget, hready]
    have ht : t = changePart (restartTarget s) .restart s := by
      simp only [t, silentCheck]
      split
      · rfl
      · exact handCause_of_not_producing _ (by simp [changePart_part, htarget]) (by simp [changePart_part, htarget])
    rw [ht, changePart_part, htarget]
    exact ⟨rfl, by simp only [e, htarget]; rfl⟩
  · have htarget : restartTarget s = lineState s := by simp [restartTarget, hready]
    have ht : t = changePart (restartTarget s) .restart s := silentCheck_of_live hlive
    rw [ht, changePart_part, htarget]
    exact ⟨rfl, by simp only [e, htarget]; rfl⟩
  · have htarget : restartTarget s = lineState s := by simp [restartTarget, hready]
    have ht : t = enterFaultStop .converterFault (changePart (restartTarget s) .restart s) :=
      silentCheck_of_silent hsilent (by rw [changePart_part, htarget]; exact lineState_producing s)
    rw [ht, enterFaultStop_of_settled _ hsettled]
    exact ⟨rfl, by simp only [e, htarget]; rfl⟩

/-- A change of the part state leaves the accumulator clear where zero tracking stood still, and at an entry to FAULT_STOP. -/
theorem changePart_acc {new : PartState} (why : ChangeReason) {s : State}
    (h : s.weigh.tracking = false ∨ new = .faultStop) : (changePart new why s).weigh.acc.sum = 0 ∧
    (changePart new why s).weigh.acc.n = 0 ∧ (changePart new why s).weigh.acc.overload = false := by
  simp only [changePart, refreshZero_acc]
  split_ifs with hcond htracking
  · rcases h with h | h
    · exact absurd htracking (by simp [h])
    · exact absurd hcond (by simp [zeroConditions, h])
  · exact ⟨rfl, rfl, rfl⟩
  · exact ⟨rfl, rfl, rfl⟩

/-- What the end of a RESTART leaves of the Weigh Channel: the jam timer of an empty platform stays stopped, and the accumulator
is clear in every state it can end in. -/
theorem restartEnd_weigh {s : State} (h : CalSettled s) (hp : s.weigh.platform = []) (ht : s.weigh.tracking = false) :
    let t := silentCheck (changePart (restartTarget s) .restart s)
    t.weigh = { s.weigh with jam := .stopped, tracking := t.weigh.tracking, acc := t.weigh.acc } ∧
    (t.weigh.acc.sum = 0 ∧ t.weigh.acc.n = 0 ∧ t.weigh.acc.overload = false) ∧ t.cal = s.cal ∧ t.orders = s.orders := by
  have hjam (new : PartState) : jamAfter new s = .stopped := by simp [jamAfter, hp]
  have hsettled : CalSettled (changePart (restartTarget s) .restart s) := h
  have hchange : (changePart (restartTarget s) .restart s).weigh = { s.weigh with
      jam := .stopped, tracking := (changePart (restartTarget s) .restart s).weigh.tracking
      acc := (changePart (restartTarget s) .restart s).weigh.acc } := by rw [changePart_weigh, hjam]
  have hcal : (changePart (restartTarget s) .restart s).cal = s.cal := by simp
  have horders : (changePart (restartTarget s) .restart s).orders = s.orders := by simp
  have hacc := changePart_acc (new := restartTarget s) .restart (.inl ht)
  intro t
  unfold t silentCheck handCause
  split
  · exact ⟨hchange, hacc, hcal, horders⟩
  split
  case h_3 => exact ⟨hchange, hacc, hcal, horders⟩
  all_goals
    rw [enterFaultStop_of_settled _ hsettled]
    refine ⟨?_, ?_, by simp, by simp⟩
    · simp only [raiseNotice_frame]
      rw [changePart_weigh, hchange]
      simp [jamAfter]
    · simpa using changePart_acc (new := .faultStop) _ (.inr rfl)

theorem foldl_logRecord_timeTag (l : List Entry) (d : Disposition) (e : Exchange) :
    (l.foldl (fun e x => e.logRecord (logWords x d)) e).timeTag = e.timeTag := by
  induction l generalizing e with
  | nil => rfl
  | cons x l ih => rw [List.foldl_cons, ih, Exchange.logRecord_timeTag]

theorem abortedExch_timeTag (s : State) (e : Exchange) : (abortedExch s e).timeTag = e.timeTag := by
  unfold abortedExch
  dsimp only
  repeat' split
  all_goals simp

theorem trackAtRestart_timeTag (s : State) : (trackAtRestart s).exch.timeTag = s.exch.timeTag := by
  obtain ⟨hexch, -⟩ := trackAtRestart_fields s
  rw [hexch, foldl_logRecord_timeTag, abortedExch_timeTag]
  rfl

/-- The blocks that RESTART writes after the Recipe and Lot Unit, and those it writes before (R89, R128, R150). -/
theorem restartBlocks_fields (s : State) :
    let b := restartBlocks s
    let r := recipesAtRestart (trackAtRestart s)
    b.part = { state := s.part.state, cause := none, stopReq := false } ∧ b.pins = s.pins ∧ b.exch = r.exch ∧
    b.weigh = (trackAtRestart s).weigh ∧ b.cal = abortedCal s.cal ∧ b.track = (trackAtRestart s).track ∧
    b.recipes = r.recipes ∧ b.orders = r.orders ∧ b.dose = State.reset.dose ∧
    b.filler = { s.filler with waiting := none, tx := cutFrame s.filler.tx } ∧ b.valves.loop = s.valves.loop ∧
    b.valves.snapshots = s.valves.snapshots ∧
    (r.recipes.active = s.recipes.active → ∀ v, 1 ≤ v → v ≤ s.valves.table.length →
      valveAt b v = { Valve.afterReset with state := if withinV s v then .averaging else .idle }) := by
  intro b r
  have hvalves : (doseAtRestart r).valves = s.valves := by simp [r, trackAtRestart]
  refine ⟨by simp [b, restartBlocks], by simp [b], by simp [b, restartBlocks_eq, r], by simp [b, restartBlocks_eq],
    ?_, by simp [b, restartBlocks_eq], by simp [b, restartBlocks_eq, r], by simp [b, restartBlocks_eq, r],
    by simp [b, restartBlocks_eq, doseAtRestart], ?_, ?_, ?_, fun hactive v hlow hhigh => ?_⟩
  · obtain ⟨-, -, hcal, -⟩ := trackAtRestart_fields s
    simpa [b, restartBlocks_eq] using hcal
  · simp [b, restartBlocks_eq, fillerAtRestart, trackAtRestart]
  · simp [b, restartBlocks_eq, valvesAtRestart, trackAtRestart]
  · simp [b, restartBlocks_eq, valvesAtRestart, trackAtRestart]
  · have hb : valveAt b v = valveAt (valvesAtRestart (doseAtRestart r)) v := rfl
    have hwithin : withinV (doseAtRestart r) v = withinV s v := by simp only [withinV, doseAtRestart_frame, hactive]
    rw [hb, valveAt_valvesAtRestart hlow (by rw [hvalves]; exact hhigh), hwithin]

/-- Settles O9: the blocks by their lemmas, the end by the three cases of readiness and the converter. -/
theorem restartResetsTheBlocks : Obligations.RestartResetsTheBlocks := by
  intro value s hbit
  refine ⟨fun hstate => ?_, fun hc hl => ?_⟩
  · rcases hstate with h | h <;>
    simp [exec, execRestart, hostWrite, writeControl, controlAddr, State.takesRestart, State.takesCans, State.awake, h]
  intro ready line ends files e0 e1 e2 e3 e4 retires reopens closed e5
  have htakes : s.takesRestart = true := by
    cases h : s.part.state <;> simp_all [State.takesRestart, State.takesCans]
  have hexec : exec (.restart value) s =
      .next (silentCheck (changePart (restartTarget (restartBlocks s)) .restart (restartBlocks s))) := by
    simp [exec, execRestart, hostWrite, writeControl, controlAddr, State.awake, hc, hbit, htakes, restartPart]
  rw [hexec]
  obtain ⟨htexch, htweigh, htcal, httrack, htrecipes, htscan, httaken⟩ := trackAtRestart_fields s
  obtain ⟨hrexch, hractive, hrretiring, hrnext, hrheld, hrboundary, hrretLot, hrlot, hrscan, hrtaken⟩ :=
    recipesAtRestart_fields (trackAtRestart s)
  obtain ⟨hbpart, hbpins, hbexch, hbweigh, hbcal, hbtrack, hbrecipes, hborders, hbdose, hbfiller, hbloop, hbsnapshots, hbvalves⟩ :=
    restartBlocks_fields s
  rw [trackAtRestart_timeTag, htrecipes, htexch] at hrexch
  rw [htrecipes] at hractive hrboundary hrretLot hrlot hrtaken
  rw [trackAtRestart_timeTag] at hrlot
  rw [htscan] at hrscan
  rw [← hbrecipes, ← hbexch] at hrexch
  rw [← hbrecipes] at hractive hrretiring hrnext hrheld hrboundary hrretLot hrlot hbvalves
  rw [← hborders] at hrscan hrtaken
  rw [htweigh] at hbweigh
  rw [httrack] at hbtrack
  generalize hb : restartBlocks s = b at *
  have hclosed : (b.exch, b.recipes.closedPos) = closed := hrexch
  have hready : Machine.ready b = true ↔ ready := by
    simp [Machine.ready, ready, hbcal, hractive, abortedCal]
  have hline : lineState b = line := by simp only [lineState, hbpins, line]
  have hends : restartTarget b = ends := by simp only [restartTarget, hready, hline, ends]
  have he5 : b.exch.event .stateChange (restartTarget b).code (wordOfNat b.part.state.code) 10 = e5 := by
    simp only [e5, ← hclosed, hends, hbpart]
    rfl
  have hnot (h : ¬ready) : Machine.ready b = false := Bool.eq_false_iff.mpr (hready.not.mpr h)
  have hsettled : CalSettled b := calSettled_abortedCal (by rw [hbweigh]) hbcal
  have hconv : b.weigh.converter = s.weigh.converter := by rw [hbweigh]
  obtain ⟨hconfig, hlive, hsilent⟩ := restartEnd_cases hsettled
  obtain ⟨hweigh, ⟨hsum, hn, hover⟩, hcal, horders⟩ :=
    restartEnd_weigh hsettled (by rw [hbweigh]) (by rw [hbweigh])
  rw [he5, hbpart] at hconfig
  rw [he5, hbpart, hconv, hline] at hlive
  rw [he5, hconv, hline] at hsilent
  rw [hbweigh] at hweigh
  refine ⟨_, rfl, fun h => hconfig (hnot h), fun h hc => hlive (hready.mpr h) hc, fun h hc => hsilent (hready.mpr h) hc,
    by simpa using hbtrack, by rw [hweigh], by rw [hweigh], by rw [hweigh], by rw [hweigh], by rw [hweigh], by rw [hweigh],
    by rw [hweigh], by rw [hweigh], hsum, hn, hover, hcal.trans hbcal, fun v hlow hhigh => ?_, by simpa using hbloop,
    by simpa using hbsnapshots, by simpa using hbdose, by simpa using hractive, by simpa using hrretiring,
    by simpa using hrnext, by simpa using hrheld, by simpa using hrboundary, by simp [← hclosed],
    fun h => by simpa using hrretLot h, fun r hr => ?_, fun x => ?_, ?_, ?_, ?_⟩
  · rw [← hbvalves hractive v hlow hhigh]
    simp [valveAt]
  · obtain ⟨hlot, hfine⟩ := hrlot r hr
    exact ⟨⟨_, by simpa using hlot, rfl, rfl, rfl, rfl, rfl, rfl, rfl, rfl⟩, by simpa using hfine⟩
  · rw [horders, hrtaken, httaken, and_assoc, and_assoc]
  · simp only [silentCheck_frame, changePart_frame, hbfiller]
    cases s.filler.tx <;> rfl
  · rw [horders, hrscan]
  · refine .intro (hpins := .inr ?_) (hreader := .inr ?_) (hreject := .inr ?_) (hpending := .inr ?_)
    · simpa using hbpins
    · simp [← hb]
    · simp [← hb]
    · simp [← hb]

end Sys2Proof.Machine

namespace Sys2Proof.Machine

/-! PROOFS. The values of the calibration and its change count: every operation keeps them but the completion of a calibration
averaging, the record of the LOADING read and a full reset (R29 to R31, R35). -/

/-- What the completion of a calibration sets: its values, its state and the change count (R29 to R31). -/
structure CalValues where
  zc : Int
  f : Nat
  zeroLimit : Nat
  changeCount : Nat
  state : CalState

/-- The values of the calibration in force. -/
def calValues (s : State) : CalValues :=
  { zc := s.cal.zc, f := s.cal.f, zeroLimit := s.cal.zeroLimit, changeCount := s.cal.changeCount, state := s.cal.state }

theorem calValues_of_cal {s t : State} (h : t.cal = s.cal := by simp) : calValues t = calValues s := by
  simp only [calValues, h]

/-! #### The operations that the commands share -/

theorem calValues_finishHeldCal (o : Outcome) (detail : Word) (s : State) :
    calValues (finishHeldCal o detail s) = calValues s := by
  obtain ⟨hcal, -⟩ := finishHeldCal_fields o detail s
  simp only [calValues, hcal]

theorem calValues_endCalAveraging (o : Outcome) (detail : Word) (s : State) :
    calValues (endCalAveraging o detail s) = calValues s := by
  unfold endCalAveraging
  split
  · rfl
  · exact calValues_finishHeldCal o detail { s with cal := { s.cal with averaging := none } }

theorem calValues_calOrdersAtRestart (s : State) : calValues (calOrdersAtRestart s) = calValues s := by
  obtain ⟨hcal, -⟩ := calOrdersAtRestart_fields s
  simp only [calValues, hcal, abortedCal]

theorem calValues_handCause (c : Cause) (s : State) : calValues (handCause c s) = calValues s := by
  have hstop : calValues (enterFaultStop c s) = calValues s := by
    rw [enterFaultStop_eq]
    exact (calValues_calOrdersAtRestart _).trans calValues_of_cal
  unfold handCause
  split
  · exact hstop
  · exact hstop
  · rfl

theorem calValues_silentCheck (s : State) : calValues (silentCheck s) = calValues s := by
  unfold silentCheck
  split
  · rfl
  · exact calValues_handCause .converterFault s

theorem calValues_readinessTest (s : State) : calValues (readinessTest s) = calValues s := by
  have hchange : calValues (changePart (lineState s) .ready s) = calValues s := rfl
  unfold readinessTest
  dsimp only
  split
  · refine (calValues_silentCheck _).trans ?_
    split
    · exact (calValues_endCalAveraging ..).trans hchange
    · exact hchange
  · rfl

/-! #### The orders -/

theorem calValues_orderChangeover (slot : Slot) (s : State) : calValues (orderChangeover slot s) = calValues s := by
  unfold orderChangeover
  split
  · exact calValues_of_cal
  split
  · exact calValues_of_cal
  split
  · exact (calValues_readinessTest _).trans calValues_of_cal
  · exact calValues_of_cal

theorem calValues_orderCalZero (slot : Slot) (s : State) : calValues (orderCalZero slot s) = calValues s := by
  unfold orderCalZero
  split <;> rfl

theorem calValues_orderFaultClear (slot : Slot) (s : State) : calValues (orderFaultClear slot s) = calValues s :=
  (calValues_silentCheck (faultCleared slot s)).trans calValues_of_cal

/-- No order sets the values: a calibration order only starts its averaging. -/
theorem calValues_handOver (k : OrderKind) (slot : Slot) (s : State) : calValues (handOver k slot s) = calValues s := by
  cases k with
  | changeover => exact calValues_orderChangeover slot s
  | calZero => exact calValues_orderCalZero slot s
  | calSpan => rfl
  | faultClear => exact calValues_orderFaultClear slot s
  | lotClose | zeroSet | valveLock | valveRelease | valveTrim | loopSet | snapshot | trackFlush =>
    exact calValues_of_cal (by simp [handOver])

theorem calValues_examineSlot (slot : Slot) (s : State) : calValues (examineSlot slot s) = calValues s := by
  unfold examineSlot takeOrder
  split
  · split
    · exact calValues_of_cal
    · split
      · exact calValues_of_cal
      · exact calValues_handOver _ slot s
  · rfl

theorem calValues_scanSlots (s : State) : calValues (scanSlots s) = calValues s := by
  unfold scanSlots
  induction scanOrder generalizing s with
  | nil => rfl
  | cons slot l ih => exact (ih _).trans (calValues_examineSlot slot s)

/-! #### The commands -/

/-- RESTART ends the orders of the calibration class and keeps the calibration (R27, R33, R176). -/
theorem calValues_restartPart (s : State) : calValues (restartPart s) = calValues s := by
  have hblocks : calValues (restartBlocks s) = calValues s := by
    rw [restartBlocks]
    exact (calValues_of_cal).trans (calValues_calOrdersAtRestart
      (restartQueue { s with part := { s.part with cause := none, stopReq := false } }))
  exact (calValues_silentCheck _).trans ((calValues_of_cal (by simp)).trans hblocks)

theorem calValues_hostWrite (addr value : Word) (s : State) : calValues (hostWrite addr value s) = calValues s := by
  unfold hostWrite writeControl
  split
  · rfl
  split
  · exact calValues_of_cal
  split
  · split
    · exact calValues_restartPart s
    · rfl
  split
  · rfl
  split <;> rfl

theorem calValues_storeFailed (how : Nat) (s : State) : calValues (storeFailed how s) = calValues s :=
  (calValues_finishHeldCal ..).trans rfl

/-- Every command but the three that set the calibration keeps its values. -/
theorem calValues_exec (c : Instr) {s t : State} (hreset : c ≠ .fullReset) (hread : ∀ bytes, c ≠ .storeReadEnd bytes)
    (hsample : ∀ count, c ≠ .sampleArrival count) (ht : exec c s = .next t) : calValues t = calValues s := by
  cases c with
  | fullReset => exact absurd rfl hreset
  | storeReadEnd bytes => exact absurd rfl (hread bytes)
  | sampleArrival count => exact absurd rfl (hsample count)
  | restart value => cases ht; exact calValues_hostWrite _ _ s
  | noticeClear value => cases ht; exact calValues_hostWrite _ _ s
  | noticeMaskWrite value => cases ht; exact calValues_hostWrite _ _ s
  | registerWriteIgnored addr value => cases ht; exact calValues_hostWrite _ _ s
  | hostMemoryWrite addr value => cases ht; exact calValues_hostWrite _ _ s
  | storeWriteCompared readBack =>
    cases ht
    repeat' split
    · rfl
    · exact (calValues_finishHeldCal ..).trans rfl
    · exact calValues_storeFailed 1 s
  | storeTimerExpiry =>
    cases ht
    split
    · exact calValues_storeFailed 2 s
    · rfl
  | converterWatchExpiry =>
    cases ht
    split
    · exact (calValues_handCause ..).trans rfl
    · rfl
  | platformInArrival =>
    cases ht
    split
    · split
      · rfl
      · have hended : calValues (endCalAveraging .disturbed 0 (endZeroSet .disturbed 0 (openPlatform s))) = calValues s :=
          (calValues_endCalAveraging ..).trans calValues_of_cal
        exact (calValues_of_cal).trans hended
    · split
      · exact calValues_endCalAveraging ..
      · rfl
  | lineRunRise =>
    cases ht
    split
    · have hended : calValues (endCalAveraging .wrongState 0 (endZeroSet .wrongState 0 (setLineRun true s))) = calValues s :=
        (calValues_endCalAveraging ..).trans calValues_of_cal
      exact (calValues_of_cal).trans hended
    · rfl
  | jamTimerExpiry =>
    cases ht
    split
    · split
      · exact (calValues_handCause ..).trans rfl
      · rfl
    · rfl
  | calSwitchOff => cases ht; exact (calValues_endCalAveraging ..).trans rfl
  | confirmEyeArrival =>
    cases ht
    repeat' split
    · rfl
    · exact (calValues_handCause ..).trans calValues_of_cal
    · exact calValues_of_cal
    · rfl
  | orderScan switchOn =>
    cases ht
    split
    · exact (calValues_scanSlots _).trans rfl
    · rfl
  | readerMessage => cases ht; exact calValues_of_cal
  | readerOverlong c => cases ht; exact calValues_of_cal
  | readerCharacter c => cases ht; exact calValues_of_cal
  | readerFramingError brk => cases ht; exact calValues_of_cal
  | dischargeFrame b => cases ht; exact calValues_of_cal
  | doseAckFrame b => cases ht; exact calValues_of_cal
  | fillerBufferOverrun b => cases ht; exact calValues_of_cal
  | fillerCharacter b => cases ht; exact calValues_of_cal
  | badFrameCompleted b => cases ht; exact calValues_of_cal
  | fillerErroredCharacter c => cases ht; exact calValues_of_cal
  | clearingComplete | platformOutArrival | lineRunFall | readerEyeArrival | readDeadlineExpiry | rejectEyeArrival
  | refusalHoldoffExpiry | timeWrap | gapTimerExpiry | transmitFrameEnd | fillerIndexArrival | ackTimerExpiry
  | pulseTimerExpiry | pastRejectDeadlineExpiry | lotMinuteStep | breakEnd link =>
    cases ht
    repeat' split
    all_goals exact calValues_of_cal

/-! #### The completion of a calibration averaging -/

theorem calValues_setCalState (c : CalState) (s : State) : calValues (setCalState c s) = { calValues s with state := c } :=
  (calValues_readinessTest _).trans rfl

/-- CAL_ZERO sets Zc and zero_limit, and the first one the state (R29). -/
theorem calValues_setCalZero (mean : Int) (limit : Nat) (s : State) : calValues (setCalZero mean limit s) =
    { calValues s with
      zc := mean, zeroLimit := limit, state := if s.cal.state = .none then .zeroOnly else s.cal.state } := by
  unfold setCalZero
  dsimp only
  split
  · next h => exact (calValues_setCalState ..).trans (by simp [calValues, h])
  · next h => rw [if_neg h]; rfl

/-- CAL_SPAN sets F, and the first one the state (R30). -/
theorem calValues_setCalSpan (f : Nat) (s : State) :
    calValues (setCalSpan f s) = { calValues s with f := f, state := .valid } := by
  unfold setCalSpan
  dsimp only
  split
  · next h => simp [calValues, h]
  · exact (calValues_setCalState ..).trans rfl

theorem calValues_beginStoreWrite (kind : CalKind) (s : State) : calValues (beginStoreWrite kind s) =
    { calValues s with changeCount := saturate 4294967295 s.cal.changeCount } := rfl

/-- A completion either is refused and keeps every value, or raises the change count (R28 to R31). -/
theorem calValues_completeCal (c : CalAveraging) (s : State) : calValues (completeCal c s) = calValues s ∨
    (calValues (completeCal c s)).changeCount = saturate 4294967295 s.cal.changeCount := by
  have hrefused (o : Outcome) (detail : Word) : calValues (finishHeldCal o detail
      (refreshZero { s with cal := { s.cal with averaging := none } })) = calValues s :=
    (calValues_finishHeldCal ..).trans rfl
  have hcounted (kind : CalKind) {u : State} (hu : (calValues u).changeCount = s.cal.changeCount) :
      (calValues (beginStoreWrite kind u)).changeCount = saturate 4294967295 s.cal.changeCount :=
    congrArg (saturate 4294967295) hu
  unfold completeCal
  dsimp only
  split
  · exact .inl (hrefused ..)
  split
  · exact .inl (hrefused ..)
  split
  · exact .inr (hcounted _ (by rw [calValues_setCalZero]; rfl))
  split
  · exact .inl (hrefused ..)
  split
  · exact .inl (hrefused ..)
  · exact .inr (hcounted _ (by rw [calValues_setCalSpan]; rfl))

/-- A sample keeps every value, or completes a calibration averaging, and then raises the change count (R26, R31). -/
theorem calValues_sampleArrival (count : BitVec 24) {s t : State} (ht : exec (.sampleArrival count) s = .next t) :
    calValues t = calValues s ∨
    ((∃ a, s.cal.averaging = some a ∧ 255 ≤ a.avg.n) ∧
      (calValues t).changeCount = saturate 4294967295 s.cal.changeCount) := by
  cases ht
  split
  · generalize sampleOf count s.exch.timeTag = x
    generalize hu : zeroSetSample x (zeroTrackSample x (takeSample x s)) = u
    have hcal : u.cal = s.cal := by rw [← hu]; simp
    unfold calSample
    dsimp only
    split
    · exact .inl (calValues_of_cal hcal)
    · next a ha =>
      rw [hcal] at ha
      split
      · exact .inl (calValues_of_cal (s := s) (t := u) hcal)
      · next hn =>
        rw [← hcal]
        refine (calValues_completeCal _ u).imp (·.trans (calValues_of_cal hcal)) fun hraised => ⟨⟨a, ?_, ?_⟩, hraised⟩
        · rw [hcal]; exact ha
        · simp only [Averaging.add] at hn; omega
  · exact .inl rfl

/-- The change count stays at its last value once it gets there, and before it never falls (R31). -/
theorem saturate_changeCount {n : Nat} (h : n ≤ 4294967295) : n ≤ saturate 4294967295 n ∧
    saturate 4294967295 n ≤ 4294967295 ∧ saturate 4294967295 n = if n = 4294967295 then 4294967295 else n + 1 := by
  unfold saturate
  split_ifs <;> omega

/-- Settles O60: every command keeps the values but a sample, and a sample keeps them too or raises the count. -/
theorem theChangeCountNeverFalls : Obligations.TheChangeCountNeverFalls := by
  intro c s t hmax hreset hread ht
  have hcases : calValues t = calValues s ∨
      ((∃ count, c = .sampleArrival count) ∧ (∃ a, s.cal.averaging = some a ∧ 255 ≤ a.avg.n) ∧
        (calValues t).changeCount = saturate 4294967295 s.cal.changeCount) := by
    by_cases hsample : ∃ count, c = .sampleArrival count
    · obtain ⟨count, rfl⟩ := hsample
      exact (calValues_sampleArrival count ht).imp_right fun hraised => ⟨⟨count, rfl⟩, hraised⟩
    · exact .inl (calValues_exec c hreset hread (not_exists.mp hsample) ht)
  rcases hcases with hkept | ⟨⟨count, hc⟩, ⟨a, ha, hn⟩, hraised⟩
  · simp only [calValues, CalValues.mk.injEq] at hkept
    obtain ⟨hzc, hf, hlimit, hcount, hstate⟩ := hkept
    exact ⟨hcount.ge, hcount.le.trans hmax, fun _ => ⟨hcount, hzc, hf, hlimit, hstate⟩, fun hmoved => absurd hmoved (by simp [hzc, hf, hlimit])⟩
  · obtain ⟨hrises, hbounded, hvalue⟩ := saturate_changeCount hmax
    change t.cal.changeCount = _ at hraised
    rw [hraised]
    refine ⟨hrises, hbounded, fun hnone => ?_, fun _ => hvalue⟩
    rcases hnone with hnot | hearly
    · exact absurd hc (hnot count)
    · exact absurd (hearly a ha) hn.not_gt

end Sys2Proof.Machine

namespace Sys2Proof.Machine

/-! PROOFS. The end of a store write and the completion of a calibration averaging (R28 to R33). -/

theorem finishHeldCal_of_held (o : Outcome) (detail : Word) {slot : Slot} {s : State} (h : s.cal.held = some slot) :
    finishHeldCal o detail s = finishOrder slot o detail { s with cal := { s.cal with held := none } } := by
  simp only [finishHeldCal, h]

/-- The store write in flight taken out with its outcome, and the exchange memory as its event leaves it (R32). -/
def storeWriteEnded (w : LastWrite) (e : Exchange) (s : State) : State :=
  { s with cal := { s.cal with store := .idle, lastWrite := w }, exch := e }

theorem storeSaved_eq (s : State) : storeSaved s =
    finishHeldCal .done (wordOfNat s.cal.changeCount) (storeWriteEnded .saved s.exch s) := rfl

theorem storeFailed_eq (how : Nat) (s : State) : storeFailed how s =
    finishHeldCal .doneUnsaved (wordOfNat s.cal.changeCount)
      (storeWriteEnded .failed (s.exch.event .storeFail how (wordOfNat s.cal.changeCount) 0) s) := rfl

/-- Settles O18: each of the three ends finishes the held order, or finds none, by `finishHeldCal`. -/
theorem aStoreWriteEnds : Obligations.AStoreWriteEnds := by
  intro readBack record left s hstore n ends
  have hends (o : Outcome) (w : LastWrite) (e : Exchange) : ends e o w (finishHeldCal o n (storeWriteEnded w e s)) := by
    obtain ⟨hcal, -⟩ := finishHeldCal_fields o n (storeWriteEnded w e s)
    refine ⟨hcal, fun slot hheld => ?_, fun hnone => ?_, ?_⟩
    · rw [finishHeldCal_of_held (s := storeWriteEnded w e s) _ _ hheld]
      exact ⟨rfl, rfl⟩
    · rw [finishHeldCal_of_none (s := storeWriteEnded w e s) _ _ hnone]
      exact ⟨rfl, rfl⟩
    · unfold storeWriteEnded
      exact .intro
  refine ⟨fun hsame => ⟨storeSaved s, ?_, ?_⟩, fun hdiffers => ⟨storeFailed 1 s, ?_, ?_⟩,
    fun hleft => ⟨storeFailed 2 s, ?_, ?_⟩⟩
  · simp [exec, execStoreWriteCompared, hstore, hsame]
  · rw [storeSaved_eq]; exact hends ..
  · simp [exec, execStoreWriteCompared, hstore, hdiffers]
  · rw [storeFailed_eq]; exact hends ..
  · simp [exec, execStoreTimerExpiry, hstore, hleft]
  · rw [storeFailed_eq]; exact hends ..

/-- The calibration averaging removed, and zero tracking tested again: what a completion works on (R28, log 15). -/
def calAveragingRemoved (s : State) : State := refreshZero { s with cal := { s.cal with averaging := none } }

/-- The checks of R28 to R30 in order: the first that fails ends the order, and past them the values are set and stored. -/
theorem completeCal_cases (kind : CalKind) (arg : Nat) (avg : Averaging) (s0 : State) :
    let t := completeCal { kind := kind, arg := arg, avg := avg } s0
    let s := calAveragingRemoved s0
    let mean := roundAway avg.sum 256
    let d := mean - s.weigh.z
    let f := roundAway (arg * 65536) d.toNat
    let steady := avg.overload = false ∧ avg.spread ≤ calStability s
    (avg.overload = true → t = finishHeldCal .range 0 s) ∧
    (avg.overload = false → calStability s < avg.spread → t = finishHeldCal .unstable (wordOfInt avg.spread) s) ∧
    (steady → kind = .zero → t = beginStoreWrite .zero (setCalZero mean arg s)) ∧
    (steady → kind = .span → d < 1000 → t = finishHeldCal .range (wordOfInt d) s) ∧
    (steady → kind = .span → 1000 ≤ d → f < 1 ∨ 4194303 < f → t = finishHeldCal .range (wordOfInt f) s) ∧
    (steady → kind = .span → 1000 ≤ d → 1 ≤ f → f ≤ 4194303 → t = beginStoreWrite .span (setCalSpan f.toNat s)) := by
  intro t s mean d f steady
  have hsteady : steady → t = match kind with
      | .zero => beginStoreWrite .zero (setCalZero mean arg s)
      | .span =>
        if d < 1000 then finishHeldCal .range (wordOfInt d) s
        else if f < 1 || 4194303 < f then finishHeldCal .range (wordOfInt f) s
        else beginStoreWrite .span (setCalSpan f.toNat s) := by
    rintro ⟨ho, hs⟩
    exact (if_neg (by simp [ho])).trans (if_neg hs.not_gt)
  refine ⟨fun ho => if_pos ho, fun ho hs => (if_neg (by simp [ho])).trans (if_pos hs), fun hst hk => ?_,
    fun hst hk hd => ?_, fun hst hk hd hf => ?_, fun hst hk hd hlow hhigh => ?_⟩
  all_goals subst hk; refine (hsteady hst).trans ?_
  · rfl
  · exact if_pos hd
  · exact (if_neg hd.not_gt).trans (if_pos (by simpa using hf))
  · exact (if_neg hd.not_gt).trans (if_neg (by simpa using ⟨hlow, hhigh⟩))

/-- The readiness test of a part that has no averaging in flight and a live converter: a ready part in CONFIG leaves by the change
of its state alone (R171). -/
theorem readinessTest_of_live {s : State} (ha : s.cal.averaging = none) (hl : s.weigh.converter = .live) :
    readinessTest s = if s.part.state = .config ∧ s.cal.state = .valid ∧ s.recipes.active.isSome = true
      then changePart (lineState s) .ready s else s := by
  have hended : endCalAveraging .wrongState 0 (changePart (lineState s) .ready s) = changePart (lineState s) .ready s :=
    endCalAveraging_of_none _ _ (by simpa using ha)
  have hlive : silentCheck (changePart (lineState s) .ready s) = changePart (lineState s) .ready s := silentCheck_of_live hl
  simp only [readinessTest, ready, hended, ite_self, hlive, Bool.and_eq_true, decide_eq_true_eq]

/-- CAL_ZERO changes the calibration and zero tracking alone: a part whose calibration is not VALID is not ready (R29, R171). -/
theorem setCalZero_fields (mean : Int) (limit : Nat) {s : State} (ha : s.cal.averaging = none)
    (hl : s.weigh.converter = .live) :
    let t := setCalZero mean limit s
    t.cal = { s.cal with zc := mean, zeroLimit := limit, state := if s.cal.state = .none then .zeroOnly else s.cal.state } ∧
    t.weigh.z = mean ∧ t.weigh.refusals = 0 ∧ t.exch = s.exch ∧ ChangesOnly [.weigh, .cal] s t := by
  intro t
  by_cases hstate : s.cal.state = .none
  · have ht : t = refreshZero { s with
        cal := { s.cal with zc := mean, zeroLimit := limit, state := .zeroOnly }
        weigh := { s.weigh with z := mean, refusals := 0 } } := by
      simp only [t, setCalZero, hstate, setCalState]
      rw [readinessTest_of_live (by simpa using ha) (by simpa using hl)]
      exact if_neg (by simp)
    rw [ht, if_pos hstate]
    exact ⟨by simp, rfl, rfl, by simp, .intro⟩
  · have ht : t = { s with
        cal := { s.cal with zc := mean, zeroLimit := limit }, weigh := { s.weigh with z := mean, refusals := 0 } } := by
      unfold t setCalZero
      split
      · next h => exact absurd h hstate
      · rfl
    rw [ht, if_neg hstate]
    exact ⟨rfl, rfl, rfl, rfl, .intro⟩

/-- CAL_SPAN makes the calibration VALID; the first one in CONFIG with an ACTIVE recipe makes the part ready (R30, R171). -/
theorem setCalSpan_fields (f : Nat) {s : State} (ha : s.cal.averaging = none) (hl : s.weigh.converter = .live) :
    let t := setCalSpan f s
    let leaves := s.cal.state ≠ .valid ∧ s.part.state = .config ∧ s.recipes.active.isSome = true
    t.cal = { s.cal with f := f, state := .valid } ∧ t.weigh.z = s.weigh.z ∧ t.weigh.refusals = s.weigh.refusals ∧
    (leaves → t.part = { s.part with state := lineState s } ∧
      t.exch = s.exch.event .stateChange (lineState s).code 2 3) ∧
    (¬leaves → t.part = s.part ∧ t.exch = s.exch) ∧ ChangesOnly [.part, .weigh, .cal, .exch] s t := by
  intro t leaves
  by_cases hstate : s.cal.state = .valid
  · have ht : t = { s with cal := { s.cal with f := f } } := by simp only [t, setCalSpan, hstate]
    rw [ht]
    exact ⟨by simp [← hstate], rfl, rfl, fun h => absurd hstate h.1, fun _ => ⟨rfl, rfl⟩, .intro⟩
  generalize hu : refreshZero { s with cal := { s.cal with f := f, state := .valid } } = u
  have ht : t = if leaves then changePart (lineState u) .ready u else u := by
    have hset : t = readinessTest u := by
      rw [← hu]
      unfold t setCalSpan
      split
      · next h => exact absurd h hstate
      · rfl
    rw [hset, readinessTest_of_live (by rw [← hu]; simpa using ha) (by rw [← hu]; simpa using hl)]
    subst hu
    simp [leaves, hstate]
  by_cases hleaves : leaves
  · rw [if_pos hleaves] at ht
    rw [ht]
    subst hu
    obtain ⟨-, hconfig, -⟩ := id hleaves
    refine ⟨by simp, rfl, rfl, fun _ => ⟨rfl, ?_⟩, fun h => absurd hleaves h, .intro⟩
    simp only [changePart_event, refreshZero_frame, hconfig]
    rfl
  · rw [if_neg hleaves] at ht
    rw [ht]
    subst hu
    exact ⟨by simp, rfl, rfl, fun h => absurd h hleaves, fun _ => ⟨by simp, by simp⟩, .intro⟩

end Sys2Proof.Machine

namespace Sys2Proof.Machine

/-! PROOFS. The last sample of a calibration averaging: what its completion leaves in each block (R28 to R32, R171). -/

theorem ChangesOnly.trans {bs : List Block} {s t u : State} (hst : ChangesOnly bs s t) (htu : ChangesOnly bs t u) :
    ChangesOnly bs s u := by
  intro b hb
  have hleft := hst b hb
  have hright := htu b hb
  cases b <;> exact Eq.trans hright hleft

theorem ChangesOnly.mono {bs cs : List Block} {s t : State} (h : ChangesOnly bs s t) (hsub : bs ⊆ cs) :
    ChangesOnly cs s t := fun b hb => h b fun hmem => hb (hsub hmem)

theorem changesOnly_takeSample (x : Sample) (s : State) : ChangesOnly [.weigh] s (takeSample x s) := .intro

theorem changesOnly_calAveragingRemoved (s : State) : ChangesOnly [.weigh, .cal] s (calAveragingRemoved s) := by
  unfold calAveragingRemoved
  exact .intro

theorem changesOnly_finishHeldCal (o : Outcome) (detail : Word) (s : State) :
    ChangesOnly [.cal, .orders, .exch] s (finishHeldCal o detail s) := .intro

/-- What removing the averaging and finishing the held order leaves of a refused calibration (R28 to R30). -/
theorem refusedCal_fields {slot : Slot} (o : Outcome) (detail : Word) {s : State} (h : s.cal.held = some slot) :
    let t := finishHeldCal o detail (calAveragingRemoved s)
    t.cal = { s.cal with averaging := none, held := none } ∧ t.weigh.z = s.weigh.z ∧ t.weigh.refusals = s.weigh.refusals ∧
    t.exch = s.exch.finishSlot slot o detail ∧
    t.orders = { s.orders with taken := s.orders.taken.filter (fun x => decide (x.1 ≠ slot)) } ∧
    ChangesOnly [.weigh, .cal, .orders, .exch] s t := by
  intro t
  have hframe : ChangesOnly [.weigh, .cal, .orders, .exch] s t :=
    ((changesOnly_calAveragingRemoved s).mono (by simp)).trans ((changesOnly_finishHeldCal o detail _).mono (by simp))
  have ht : t = finishOrder slot o detail { calAveragingRemoved s with cal := { s.cal with averaging := none, held := none } } :=
    finishHeldCal_of_held (s := calAveragingRemoved s) o detail h
  rw [ht] at hframe ⊢
  exact ⟨rfl, rfl, rfl, rfl, rfl, hframe⟩

/-- The change count raised, CAL_CHANGED and the store write with the record of the values in force (R31, R32). -/
theorem beginStoreWrite_fields (kind : CalKind) (s : State) :
    let t := beginStoreWrite kind s
    t.cal = { s.cal with changeCount := saturate 4294967295 s.cal.changeCount, store := .writing 200 (storeRecord t.cal) } ∧
    t.exch = s.exch.event .calChanged kind.code (BitVec.ofNat 32 t.cal.changeCount) 0 ∧ ChangesOnly [.cal, .exch] s t :=
  ⟨rfl, rfl, .intro⟩

/-- What a CAL_ZERO that passes its checks leaves (R29, R31, R32). -/
theorem calZeroStored_fields (mean : Int) (limit : Nat) {s : State} (hl : s.weigh.converter = .live) :
    let t := beginStoreWrite .zero (setCalZero mean limit (calAveragingRemoved s))
    t.cal = { s.cal with
      zc := mean, zeroLimit := limit, state := if s.cal.state = .none then .zeroOnly else s.cal.state
      changeCount := saturate 4294967295 s.cal.changeCount, averaging := none
      store := .writing 200 (storeRecord t.cal) } ∧
    t.weigh.z = mean ∧ t.weigh.refusals = 0 ∧
    t.exch = s.exch.event .calChanged 4 (BitVec.ofNat 32 t.cal.changeCount) 0 ∧ ChangesOnly [.weigh, .cal, .exch] s t := by
  obtain ⟨hc, hz, hr, he, hset⟩ := setCalZero_fields mean limit (s := calAveragingRemoved s) rfl hl
  generalize setCalZero mean limit (calAveragingRemoved s) = u at *
  intro t
  obtain ⟨htc, hte, hframe⟩ := beginStoreWrite_fields .zero u
  refine ⟨htc.trans ?_, hz, hr, hte.trans ?_, ?_⟩
  · rw [hc]; rfl
  · rw [he]; rfl
  · exact ((changesOnly_calAveragingRemoved s).mono (by simp)).trans ((hset.mono (by simp)).trans (hframe.mono (by simp)))

/-- What a CAL_SPAN that passes its checks leaves; the first in CONFIG with an ACTIVE recipe makes the part leave (R30 to R32,
R171). -/
theorem calSpanStored_fields (f : Nat) {s : State} (hl : s.weigh.converter = .live) :
    let t := beginStoreWrite .span (setCalSpan f (calAveragingRemoved s))
    let leaves := s.cal.state ≠ .valid ∧ s.part.state = .config ∧ s.recipes.active.isSome = true
    t.cal = { s.cal with
      f := f, state := .valid, changeCount := saturate 4294967295 s.cal.changeCount, averaging := none
      store := .writing 200 (storeRecord t.cal) } ∧
    t.weigh.z = s.weigh.z ∧ t.weigh.refusals = s.weigh.refusals ∧
    (leaves → t.part = { s.part with state := lineState s } ∧
      t.exch = (s.exch.event .stateChange (lineState s).code 2 3).event .calChanged 5 (BitVec.ofNat 32 t.cal.changeCount) 0) ∧
    (¬leaves → t.part = s.part ∧ t.exch = s.exch.event .calChanged 5 (BitVec.ofNat 32 t.cal.changeCount) 0) ∧
    ChangesOnly [.part, .weigh, .cal, .exch] s t := by
  obtain ⟨hc, hz, hr, hleaves, hstays, hset⟩ := setCalSpan_fields f (s := calAveragingRemoved s) rfl hl
  generalize setCalSpan f (calAveragingRemoved s) = u at *
  intro t leaves
  obtain ⟨htc, hte, hframe⟩ := beginStoreWrite_fields .span u
  refine ⟨htc.trans ?_, hz, hr, fun h => ?_, fun h => ?_, ?_⟩
  · rw [hc]; rfl
  · obtain ⟨hpart, hexch⟩ := hleaves h
    exact ⟨hpart, hte.trans (by rw [hexch]; rfl)⟩
  · obtain ⟨hpart, hexch⟩ := hstays h
    exact ⟨hpart, hte.trans (by rw [hexch]; rfl)⟩
  · exact ((changesOnly_calAveragingRemoved s).mono (by simp)).trans ((hset.mono (by simp)).trans (hframe.mono (by simp)))

/-- The 256th sample of a calibration averaging is added and completes it. -/
theorem sampleArrival_completesCal (count : BitVec 24) {c : CalAveraging} {s : State} (hawake : s.part.state ≠ .clearing)
    (htracking : s.weigh.tracking = false) (hzero : s.weigh.zeroSet = none) (hcal : s.cal.averaging = some c)
    (hn : c.avg.n = 255) :
    exec (.sampleArrival count) s = .next (completeCal { c with avg := c.avg.add (sampleOf count s.exch.timeTag) }
      (takeSample (sampleOf count s.exch.timeTag) s)) := by
  rw [sampleArrival_cal count hawake htracking hzero]
  simp only [calSample, takeSample_frame, hcal]
  exact congrArg _ (if_neg (by simp [Averaging.add, hn]))

/-- Settles O17: the 256th sample ends in `completeCal`, whose six ends are the clauses. -/
theorem aCalibrationCompletes : Obligations.ACalibrationCompletes := by
  intro count mean span c slot s hawake hcal hn hheld htracking hzero hnear overload low high spread d spans limit steady line
    refused counted
  have hexec := sampleArrival_completesCal count hawake htracking hzero hcal hn
  obtain ⟨kind, arg, avg⟩ := c
  generalize hx : sampleOf count s.exch.timeTag = x at hexec
  have hcount : x.count = count.toInt := by rw [← hx]; rfl
  have hover : x.overload = (decide (count = 0x800000#24) || decide (count = 0x7FFFFF#24)) := by
    rw [← hx]; exact sampleOf_overload ..
  have hoverload : (avg.add x).overload = true ↔ overload := by simp [Averaging.add, hover, overload]
  have hnot (ho : ¬overload) : (avg.add x).overload = false := Bool.eq_false_iff.mpr (hoverload.not.mpr ho)
  have hspread : (avg.add x).spread = spread := by
    simp only [Averaging.spread, Averaging.add, hcount, Option.getD_some]; rfl
  have hmean : roundAway (avg.add x).sum 256 = mean := by
    rw [hnear.eq_roundAway (by norm_num), ← hcount]; rfl
  obtain ⟨hrange, hunstable, hzeroSet, hsmall, hfactor, hspanSet⟩ := completeCal_cases kind arg (avg.add x) (takeSample x s)
  rw [hmean] at hzeroSet hsmall hfactor hspanSet
  rw [hspread] at hunstable hzeroSet hsmall hfactor hspanSet
  have hsteady (hst : steady) : (avg.add x).overload = false ∧ spread ≤ limit := ⟨hnot hst.1, hst.2⟩
  have hspan (hs : spans) : roundAway (arg * 65536) d.toNat = span := by
    obtain ⟨-, hfar, hq⟩ := hs
    exact (hq.eq_roundAway (by omega)).symm
  have hrefused (o : Outcome) (detail : Word) (ht : completeCal { kind := kind, arg := arg, avg := avg.add x }
      (takeSample x s) = finishHeldCal o detail (calAveragingRemoved (takeSample x s))) : refused o detail := by
    obtain ⟨hc, hz, hr, he, hord, hframe⟩ := refusedCal_fields (s := takeSample x s) o detail hheld
    exact ⟨_, hexec.trans (congrArg _ ht), hc, hz, hr, he, hord, ((changesOnly_takeSample x s).mono (by simp)).trans hframe⟩
  refine ⟨fun ho => hrefused _ _ (hrange (hoverload.mpr ho)), fun ho hs => hrefused _ _ (hunstable (hnot ho) hs),
    fun hst hk => ?_, fun hst hk hd => hrefused _ _ (hsmall (hsteady hst) hk hd), fun hst hsp hout => ?_,
    fun hst hsp hlow hhigh => ?_⟩
  · obtain ⟨hc, hz, hr, he, hframe⟩ := calZeroStored_fields mean arg (s := takeSample x s) rfl
    exact ⟨_, hexec.trans (congrArg _ (hzeroSet (hsteady hst) hk)),
      ⟨congrArg Calibration.changeCount hc, congrArg Calibration.store hc, congrArg Calibration.averaging hc,
        (congrArg Calibration.held hc :), (congrArg Calibration.lastWrite hc :), he⟩,
      (congrArg Calibration.zc hc :), hz, hr, (congrArg Calibration.zeroLimit hc :), (congrArg Calibration.f hc :),
      congrArg Calibration.state hc, ((changesOnly_takeSample x s).mono (by simp)).trans hframe⟩
  · obtain ⟨hk, hd, -⟩ := id hsp
    rw [← hspan hsp] at hout ⊢
    exact hrefused _ _ (hfactor (hsteady hst) hk hd hout)
  · obtain ⟨hk, hd, -⟩ := id hsp
    have hq := hspan hsp
    have ht := hspanSet (hsteady hst) hk hd (hlow.trans_eq hq.symm) (hq.trans_le hhigh)
    rw [show roundAway (arg * 65536) (mean - (calAveragingRemoved (takeSample x s)).weigh.z).toNat = span from hq] at ht
    obtain ⟨hc, hz, hr, hleaves, hstays, hframe⟩ := calSpanStored_fields span.toNat (s := takeSample x s) rfl
    generalize beginStoreWrite .span (setCalSpan span.toNat (calAveragingRemoved (takeSample x s))) = t at *
    have hcounted (e : Exchange) (he : t.exch = e.event .calChanged 5 (BitVec.ofNat 32 t.cal.changeCount) 0) :
        counted e t 5 :=
      ⟨congrArg Calibration.changeCount hc, congrArg Calibration.store hc, congrArg Calibration.averaging hc,
        (congrArg Calibration.held hc :), (congrArg Calibration.lastWrite hc :), he⟩
    refine ⟨t, hexec.trans (congrArg _ ht), (congrArg Calibration.f hc :), (congrArg Calibration.zc hc :), hz, hr,
      (congrArg Calibration.zeroLimit hc :), congrArg Calibration.state hc, fun hl => ?_, fun hl => ?_,
      ((changesOnly_takeSample x s).mono (by simp)).trans hframe⟩
    · obtain ⟨hpart, hexch⟩ := hleaves hl
      exact ⟨hpart, hcounted _ hexch⟩
    · obtain ⟨hpart, hexch⟩ := hstays hl
      exact ⟨hpart, hcounted _ hexch⟩

end Sys2Proof.Machine

namespace Sys2Proof.Machine

/-! PROOFS. The stored calibration record: its bytes, its check and its reading (R34, R35). -/

/-! #### Bytes and the numbers they spell -/

theorem bytesNat_append (l : List Byte) (b : Byte) : bytesNat (l ++ [b]) = 256 * bytesNat l + b.toNat := by
  simp [bytesNat, List.foldl_append]

/-- Two lists of the same length spell the same number only where they are the same. -/
theorem bytesNat_injective {l m : List Byte} (hlen : l.length = m.length) (h : bytesNat l = bytesNat m) : l = m := by
  induction l using List.reverseRecOn generalizing m with
  | nil => exact (List.length_eq_zero_iff.mp hlen.symm).symm
  | append_singleton l b ih =>
    obtain rfl | ⟨m, c, rfl⟩ := m.eq_nil_or_concat'
    · simp at hlen
    · rw [bytesNat_append, bytesNat_append] at h
      have hb := b.isLt
      have hc := c.isLt
      have hlast : b = c := BitVec.eq_of_toNat_eq (by omega)
      rw [ih (by simpa using hlen) (by omega), hlast]

theorem bytesNat_wordBytes (w : Word) : bytesNat (wordBytes w) = w.toNat := by
  have hw := w.isLt
  simp only [bytesNat, wordBytes, List.foldl_cons, List.foldl_nil, BitVec.extractLsb'_toNat, Nat.shiftRight_eq_div_pow]
  omega

theorem bytesNat_natBytes_two (n : Nat) : bytesNat (natBytes 2 n) = n % 65536 := by
  simp only [bytesNat, natBytes, List.foldl_cons, List.foldl_nil, BitVec.toNat_ofNat]
  omega

theorem length_natBytes (k n : Nat) : (natBytes k n).length = k := by
  induction k with
  | zero => rfl
  | succ k ih => simp [natBytes, ih]

/-! #### The check of a record -/

/-- The halfwords of bytes of even length stand before those of the bytes behind them. -/
theorem halfwordSum_append (k : Nat) (l m : List Byte) (h : l.length = 2 * k) :
    halfwordSum (l ++ m) = halfwordSum l + halfwordSum m := by
  induction k generalizing l with
  | zero => simp [List.length_eq_zero_iff.mp h, halfwordSum]
  | succ k ih =>
    match l, h with
    | hi :: lo :: t, h =>
      simp only [List.cons_append, halfwordSum, ih t (by simp at h; omega)]
      omega

theorem halfwordSum_natBytes_two (n : Nat) : halfwordSum (natBytes 2 n) = n % 65536 := by
  simp only [natBytes, halfwordSum, BitVec.toNat_ofNat]
  omega

theorem length_storeBody (c : Calibration) : (storeBody c).length = 30 := by
  simp [storeBody, wordBytes, length_natBytes]

theorem length_storeRecord (c : Calibration) : (storeRecord c).length = 32 := by
  simp [storeRecord, length_storeBody, length_natBytes]

/-- The check halfword makes the sum of all halfwords 0 modulo 65,536 (R34). -/
theorem halfwordSum_storeRecord (c : Calibration) : halfwordSum (storeRecord c) % 65536 = 0 := by
  rw [storeRecord, halfwordSum_append 15 _ _ (length_storeBody c), halfwordSum_natBytes_two]
  omega

/-! #### The fields of a record -/

/-- What the fields of the record of a calibration spell. -/
theorem storeRecord_fields (c : Calibration) :
    (storeRecord c).take 4 = wordBytes storeSignature ∧
    recordField (storeRecord c) 4 4 = (wordOfInt c.zc).toNat ∧ recordField (storeRecord c) 8 4 = (wordOfNat c.f).toNat ∧
    recordField (storeRecord c) 12 4 = (wordOfNat c.zeroLimit).toNat ∧
    recordField (storeRecord c) 16 4 = (wordOfNat c.changeCount).toNat ∧ recordField (storeRecord c) 20 2 = c.state.level ∧
    (∀ b ∈ ((storeRecord c).drop 22).take 8, b = 0) := by
  have hlevel : c.state.level % 65536 = c.state.level := by cases c.state <;> rfl
  refine ⟨rfl, bytesNat_wordBytes _, bytesNat_wordBytes _, bytesNat_wordBytes _, bytesNat_wordBytes _,
    (bytesNat_natBytes_two _).trans hlevel, fun b hb => ?_⟩
  exact List.eq_of_mem_replicate (n := 8) hb

/-! #### The judgement of a record -/

/-- The first test of R35: bytes 0 to 3 hold the signature. -/
def RecordSigned (bytes : List Byte) : Prop := bytes.take 4 = [0x5A#8, 0x3C#8, 0x01#8, 0x48#8]

/-- The second test of R35: the halfwords sum to 0 modulo 65,536. -/
def RecordSummed (bytes : List Byte) : Prop := halfwordSum bytes % 65536 = 0

/-- The third test of R35: every field lies in its range. -/
def RecordRanged (bytes : List Byte) : Prop :=
  (recordField bytes 20 2 = 1 ∨ recordField bytes 20 2 = 2) ∧ (∀ b ∈ (bytes.drop 22).take 8, b = 0) ∧
  recordField bytes 12 4 ≤ 200000 ∧
  (recordField bytes 20 2 = 2 → 1 ≤ recordField bytes 8 4 ∧ recordField bytes 8 4 ≤ 4194303) ∧
  (recordField bytes 20 2 = 1 → recordField bytes 8 4 = 0)

theorem recordSigned_iff {bytes : List Byte} (hlen : 4 ≤ bytes.length) :
    RecordSigned bytes ↔ recordField bytes 0 4 = storeSignature.toNat := by
  have hsignature : bytesNat [0x5A#8, 0x3C#8, 0x01#8, 0x48#8] = storeSignature.toNat := rfl
  rw [← hsignature]
  exact ⟨congrArg bytesNat, bytesNat_injective (by simpa using hlen)⟩

/-- The first test that fails names the outcome, and a record that passes the three is good (R35). -/
theorem recordFailure_cases {bytes : List Byte} (hlen : 4 ≤ bytes.length) :
    (¬RecordSigned bytes → recordFailure bytes = some 1) ∧
    (RecordSigned bytes → ¬RecordSummed bytes → recordFailure bytes = some 2) ∧
    (RecordSigned bytes → RecordSummed bytes → ¬RecordRanged bytes → recordFailure bytes = some 3) ∧
    (RecordSigned bytes → RecordSummed bytes → RecordRanged bytes → recordFailure bytes = none) := by
  have hranged : (inRange 1 2 (recordField bytes 20 2) && ((bytes.drop 22).take 8).all (fun b => decide (b = 0))
      && decide (recordField bytes 12 4 ≤ 200000)
      && (if recordField bytes 20 2 = 2 then inRange 1 4194303 (recordField bytes 8 4)
        else decide (recordField bytes 8 4 = 0))) = true ↔ RecordRanged bytes := by
    simp only [Bool.and_eq_true, inRange, decide_eq_true_eq, List.all_eq_true, RecordRanged]
    by_cases htwo : recordField bytes 20 2 = 2
    · simp [htwo, and_assoc]
    · have hone : recordField bytes 20 2 = 1 ↔ 1 ≤ recordField bytes 20 2 ∧ recordField bytes 20 2 ≤ 2 := by omega
      simp only [htwo, if_false, decide_eq_true_eq, or_false, hone]
      tauto
  rw [recordSigned_iff hlen, ← hranged]
  unfold recordFailure RecordSummed
  refine ⟨fun hs => if_pos hs, fun hs hm => ?_, fun hs hm hr => ?_, fun hs hm hr => ?_⟩
  · exact (if_neg (not_not.mpr hs)).trans (if_pos hm)
  · exact (if_neg (not_not.mpr hs)).trans ((if_neg (not_not.mpr hm)).trans (if_neg hr))
  · exact (if_neg (not_not.mpr hs)).trans ((if_neg (not_not.mpr hm)).trans (if_pos hr))

/-! #### The end of the LOADING read -/

/-- What the LOADING read does ahead of the change of state: a good record is taken, a bad one reported (R35). -/
def recordTaken (bytes : List Byte) (s : State) : State :=
  match recordFailure bytes with
  | none => takeRecord bytes s
  | some test => raiseEvent .storeBlank test 0 0 s

theorem storeReadEnd_loading (bytes : List Byte) {s : State} (h : s.part.state = .loading) :
    exec (.storeReadEnd bytes) s = .next (startScan (changePart .config .loaded (recordTaken bytes s))) :=
  congrArg Host.Outcome.next (if_pos h)

/-- What the record leaves as it was (R35). -/
theorem recordTaken_frame (bytes : List Byte) (s : State) :
    (recordTaken bytes s).part = s.part ∧ (recordTaken bytes s).orders = s.orders ∧
    (recordTaken bytes s).weigh = { s.weigh with z := (recordTaken bytes s).weigh.z } ∧
    ChangesOnly [.weigh, .cal, .exch] s (recordTaken bytes s) := by
  unfold recordTaken
  split
  · exact ⟨rfl, rfl, rfl, .intro⟩
  · exact ⟨rfl, rfl, rfl, .intro⟩

/-- A good record read at the end of LOADING gives the calibration, and Z with it (R35, R18). -/
theorem storeReadEnd_good {bytes : List Byte} {s : State} (hstate : s.part.state = .loading) (hlen : 4 ≤ bytes.length)
    (hsigned : RecordSigned bytes) (hsummed : RecordSummed bytes) (hranged : RecordRanged bytes) :
    ∃ t, exec (.storeReadEnd bytes) s = .next t ∧ t.cal = recordCal bytes s.cal ∧ t.weigh.z = t.cal.zc := by
  obtain ⟨-, -, -, hgood⟩ := recordFailure_cases hlen
  have htaken : recordTaken bytes s = takeRecord bytes s := by simp only [recordTaken, hgood hsigned hsummed hranged]
  exact ⟨_, storeReadEnd_loading bytes hstate, by rw [htaken]; rfl, by rw [htaken]; rfl⟩

/-! #### The record of a calibration in force, read back -/

theorem toInt_wordOfInt {x : Int} (hlow : -2147483648 ≤ x) (hhigh : x ≤ 2147483647) : (wordOfInt x).toInt = x := by
  rw [wordOfInt, BitVec.toInt_ofInt]
  exact Int.bmod_eq_of_le (by omega) (by omega)

theorem toNat_wordOfNat {n : Nat} (h : n ≤ 4294967295) : (wordOfNat n).toNat = n := by
  rw [wordOfNat, BitVec.toNat_ofNat]
  exact Nat.mod_eq_of_lt (by omega)

/-- What the store can hold of a calibration in force: every field in the range that its record has (R34). -/
structure Calibration.Storable (c : Calibration) : Prop where
  inForce : c.state ≠ .none
  zc : -2147483648 ≤ c.zc ∧ c.zc ≤ 2147483647
  zeroLimit : c.zeroLimit ≤ 200000
  changeCount : c.changeCount ≤ 4294967295
  valid : c.state = .valid → 1 ≤ c.f ∧ c.f ≤ 4194303
  zeroOnly : c.state = .zeroOnly → c.f = 0

theorem Calibration.Storable.f_le {c : Calibration} (h : c.Storable) : c.f ≤ 4194303 := by
  cases hs : c.state with
  | none => exact absurd hs h.inForce
  | zeroOnly => exact (h.zeroOnly hs).trans_le (by omega)
  | valid => exact (h.valid hs).2

/-- The record of a calibration in force passes the three tests (R34, R35). -/
theorem storeRecord_passes {c : Calibration} (h : c.Storable) :
    RecordSigned (storeRecord c) ∧ RecordSummed (storeRecord c) ∧ RecordRanged (storeRecord c) := by
  obtain ⟨hsign, -, hf, hlimit, -, hlevel, hzeros⟩ := storeRecord_fields c
  rw [toNat_wordOfNat (h.f_le.trans (by omega))] at hf
  rw [toNat_wordOfNat (h.zeroLimit.trans (by omega))] at hlimit
  refine ⟨hsign, halfwordSum_storeRecord c, ?_⟩
  rw [RecordRanged, hlevel, hf, hlimit]
  cases hs : c.state with
  | none => exact absurd hs h.inForce
  | zeroOnly => exact ⟨.inl rfl, hzeros, h.zeroLimit, nofun, fun _ => h.zeroOnly hs⟩
  | valid => exact ⟨.inr rfl, hzeros, h.zeroLimit, fun _ => h.valid hs, nofun⟩

/-- The calibration that the record of a calibration gives is that calibration (R34, R35). -/
theorem recordCal_storeRecord {c : Calibration} (h : c.Storable) (d : Calibration) :
    recordCal (storeRecord c) d = { d with
      zc := c.zc, f := c.f, zeroLimit := c.zeroLimit, changeCount := c.changeCount, state := c.state } := by
  obtain ⟨-, hzc, hf, hlimit, hcount, hlevel, -⟩ := storeRecord_fields c
  have hword : (bytesWord (((storeRecord c).drop 4).take 4)).toInt = c.zc := by
    rw [bytesWord, ← recordField, hzc, wordOfNat, BitVec.ofNat_toNat, BitVec.setWidth_eq]
    exact toInt_wordOfInt h.zc.1 h.zc.2
  have hstate : (if c.state.level = 2 then CalState.valid else .zeroOnly) = c.state := by
    cases hs : c.state with
    | none => exact absurd hs h.inForce
    | zeroOnly => rfl
    | valid => rfl
  rw [recordCal, hword, hf, hlimit, hcount, hlevel, hstate, toNat_wordOfNat (h.f_le.trans (by omega)),
    toNat_wordOfNat (h.zeroLimit.trans (by omega)), toNat_wordOfNat h.changeCount]

/-- Settles O8: the end of the read by the judgement of its record, and the stored record by what its fields spell. -/
theorem theStoredRecordIsLoaded : Obligations.TheStoredRecordIsLoaded := by
  refine ⟨fun bytes s hstate hlen => ?_, fun c s hstate hset hlow hhigh hlimit hcount hvalid honly => ?_⟩
  · intro num signed summed ranged
    obtain ⟨hunsigned, hunsummed, hunranged, hgood⟩ := recordFailure_cases (bytes := bytes) (by omega)
    obtain ⟨hpart, horders, hweigh, hframe⟩ := recordTaken_frame bytes s
    have hevent (e : Exchange) : e.event .stateChange 2 (wordOfNat (recordTaken bytes s).part.state.code) 2 =
        e.event .stateChange 2 1 2 := by rw [hpart, hstate]; rfl
    refine ⟨_, storeReadEnd_loading bytes hstate, ?_, ?_, fun hs hm hr => ?_, fun hbad => ?_, ?_, ?_, ?_⟩
    · exact congrArg (fun p : PartControl => { p with state := .config }) hpart
    · exact congrArg (fun o : Orders => { o with scan := some 50 }) horders
    · have htaken : recordTaken bytes s = takeRecord bytes s := by simp only [recordTaken, hgood hs hm hr]
      refine ⟨(congrArg State.cal htaken :), by rw [htaken]; rfl, ?_⟩
      exact (hevent _).trans (by rw [htaken]; rfl)
    · have htest : recordFailure bytes = some (if signed then (if summed then 3 else 2) else 1) := by
        split_ifs with hs hm
        · exact hunranged hs hm fun hr => hbad ⟨hs, hm, hr⟩
        · exact hunsummed hs hm
        · exact hunsigned hs
      have htaken : recordTaken bytes s =
          raiseEvent .storeBlank (if signed then (if summed then 3 else 2) else 1) 0 0 s := by
        simp only [recordTaken, htest]
      refine ⟨(congrArg State.cal htaken :), (congrArg (fun u : State => u.weigh.z) htaken :), ?_⟩
      exact (hevent _).trans (by rw [htaken]; rfl)
    · exact (congrArg Weigh.samples hweigh :)
    · exact (congrArg Weigh.platform hweigh :)
    · exact (hframe.mono (by simp)).trans .intro
  · have hstorable : c.Storable := ⟨hset, ⟨hlow, hhigh⟩, hlimit, hcount, hvalid, honly⟩
    obtain ⟨hsigned, hsummed, hranged⟩ := storeRecord_passes hstorable
    obtain ⟨t, ht, hcal, hz⟩ :=
      storeReadEnd_good hstate (by rw [length_storeRecord]; omega) hsigned hsummed hranged
    rw [recordCal_storeRecord hstorable] at hcal
    refine ⟨length_storeRecord c, halfwordSum_storeRecord c, t, ht, ?_⟩
    rw [hz, hcal]
    exact ⟨rfl, rfl, rfl, rfl, rfl, rfl⟩

end Sys2Proof.Machine

namespace Sys2Proof.Machine

/-! PROOFS. What the host reads at each address: the words computed from the blocks, and elsewhere the memory and the registers
(R24, R152, R160, R192 to R196, R198, R200). -/

/-! #### The areas of the memory view -/

theorem areaWord_inside {base size a : Nat} (h : base ≤ a ∧ a < base + size) (ws : List Word) (rest : Word) :
    areaWord base size ws a rest = ws.getD (a - base) 0 := if_pos h

theorem areaWord_outside {base size a : Nat} (h : ¬(base ≤ a ∧ a < base + size)) (ws : List Word) (rest : Word) :
    areaWord base size ws a rest = rest := if_neg h

section MemoryView

variable {s : State} (hawake : s.part.state ≠ .clearing) (hheld : s.pins.resetHeld = false)
include hawake hheld

/-- Below 0x4000 the host reads the memory view. -/
theorem hostRead_memory {a : Nat} (h : a < 0x4000) : hostRead s (BitVec.ofNat 32 a) = memoryView s a := by
  have hnat : (BitVec.ofNat 32 a).toNat = a := by simp; omega
  have hne (r : Word) (hr : 0x4000 ≤ r.toNat) : BitVec.ofNat 32 a ≠ r := fun heq => by rw [← heq, hnat] at hr; omega
  simp only [hostRead, hheld, awake_iff.mpr hawake, hne identAddr (by decide), hne noticeAddr (by decide),
    hne noticeMaskAddr (by decide), hnat, h, if_true, if_false, Bool.not_true, Bool.false_eq_true]

/-- Of the registers IDENT, NOTICE and NOTICE_MASK are read; every other address from 0x4000 on reads 0. -/
theorem hostRead_registers : hostRead s identAddr = identValue ∧ hostRead s controlAddr = 0 ∧
    hostRead s noticeAddr = s.exch.notice.setWidth 32 ∧ hostRead s noticeMaskAddr = s.exch.mask.setWidth 32 ∧
    (∀ a : Word, 0x4004 ≤ a.toNat → hostRead s a = 0) := by
  have hawake' := awake_iff.mpr hawake
  refine ⟨?_, ?_, ?_, ?_, fun a ha => ?_⟩
  · simp [hostRead, hheld]
  · simp [hostRead, hheld, hawake', identAddr, controlAddr, noticeAddr, noticeMaskAddr]
  · simp [hostRead, hheld, hawake', identAddr, noticeAddr]
  · simp [hostRead, hheld, hawake', identAddr, noticeAddr, noticeMaskAddr]
  · have hne (r : Word) (hr : r.toNat < 0x4004) : a ≠ r := fun heq => by rw [heq] at ha; omega
    simp only [hostRead, hheld, hawake', hne identAddr (by decide), hne noticeAddr (by decide),
      hne noticeMaskAddr (by decide), if_false, Bool.not_true, Bool.false_eq_true]
    exact if_neg (by omega)

end MemoryView

/-- The host reads the words of a list at the addresses of an area, and 0 behind them. -/
def ShowsArea (s : State) (base size : Nat) (ws : List Word) : Prop :=
  ∀ k, k < size → hostRead s (BitVec.ofNat 32 (base + k)) = ws.getD k 0

theorem ShowsArea.zeros {s : State} {base size : Nat} {ws : List Word} (h : ShowsArea s base size ws) {a : Nat}
    (hlow : base + ws.length ≤ a) (hhigh : a < base + size) : hostRead s (BitVec.ofNat 32 a) = 0 := by
  have hword := h (a - base) (by omega)
  rw [Nat.add_sub_cancel' (by omega)] at hword
  exact hword.trans (List.getD_eq_default _ _ (by omega))

/-- The eight areas whose words the model computes, in the order of `memoryView` (log 5). -/
theorem hostRead_areas {s : State} (hawake : s.part.state ≠ .clearing) (hheld : s.pins.resetHeld = false) :
    ShowsArea s 0x0000 0x40 (statusWords s) ∧ ShowsArea s 0x0180 0x80 (recipeAreaWords s.recipes.active) ∧
    ShowsArea s 0x0200 0x80 (recipeAreaWords s.recipes.retiring) ∧ ShowsArea s 0x0280 0x40 (calWords s) ∧
    ShowsArea s 0x0400 0x20 (lotAreaWords s.recipes.activeLot) ∧
    ShowsArea s 0x0420 0x20 (lotAreaWords s.recipes.retiringLot) ∧
    ShowsArea s 0x0440 0x10 [wordOfNat s.exch.evWrite.val, s.exch.dropCount] ∧
    ShowsArea s 0x0A40 0x10 [wordOfNat s.exch.logIndex.val, s.exch.wrapCount] := by
  refine ⟨?_, ?_, ?_, ?_, ?_, ?_, ?_, ?_⟩
  all_goals
    intro k hk
    rw [hostRead_memory hawake hheld (by omega), memoryView]
    repeat rw [areaWord_outside (by omega)]
    rw [areaWord_inside (by omega), Nat.add_sub_cancel_left]

/-- Outside those areas the host reads the memory. -/
theorem hostRead_elsewhere {s : State} (hawake : s.part.state ≠ .clearing) (hheld : s.pins.resetHeld = false) {a : Nat}
    (ha : a < 0x4000) (hstatus : 0x0040 ≤ a) (hrecipes : ¬(0x0180 ≤ a ∧ a ≤ 0x02BF)) (hlots : ¬(0x0400 ≤ a ∧ a ≤ 0x044F))
    (hlog : ¬(0x0A40 ≤ a ∧ a ≤ 0x0A4F)) : hostRead s (BitVec.ofNat 32 a) = s.exch.read a := by
  rw [hostRead_memory hawake hheld ha, memoryView]
  repeat rw [areaWord_outside (by omega)]

/-! #### The words of a text, a recipe and a lot -/

/-- The bytes of a word of four bytes, the first in bits 31:24. -/
theorem bytesWord_byte {l : List Byte} (hl : l.length = 4) {j : Nat} (hj : j < 4) :
    (bytesWord l).toNat / 256 ^ (3 - j) % 256 = (l.getD j 0).toNat := by
  match l, hl with
  | [a, b, c, d], _ =>
    have ha := a.isLt
    have hb := b.isLt
    have hc := c.isLt
    have hd := d.isLt
    simp only [bytesWord, wordOfNat, bytesNat, List.foldl_cons, List.foldl_nil, BitVec.toNat_ofNat]
    match j, hj with
    | 0, _ => simp; omega
    | 1, _ => simp; omega
    | 2, _ => simp; omega
    | 3, _ => simp; omega

/-- The character of a lot_text in the words that show it; a text shorter than 12 is filled with zero bytes. -/
theorem textWords_char (chars : List Byte) {k : Nat} (hk : k < 12) :
    ((textWords chars).getD (k / 4) 0).toNat / 256 ^ (3 - k % 4) % 256 = (chars.getD k 0).toNat := by
  generalize hp : chars ++ List.replicate (12 - chars.length) 0 = p
  have hlen : 12 ≤ p.length := by rw [← hp]; simp; omega
  have hword : (textWords chars).getD (k / 4) 0 = bytesWord ((p.drop (4 * (k / 4))).take 4) := by
    rw [textWords, hp]
    have hi : k / 4 < 3 := by omega
    match k / 4, hi with
    | 0, _ => rfl
    | 1, _ => rfl
    | 2, _ => rfl
  have hchar : ((p.drop (4 * (k / 4))).take 4).getD (k % 4) 0 = chars.getD k 0 := by
    have hindex : 4 * (k / 4) + k % 4 = k := by omega
    rw [List.getD_eq_getElem?_getD, List.getElem?_take_of_lt (by omega), List.getElem?_drop, hindex, ← hp,
      List.getD_eq_getElem?_getD]
    by_cases hc : k < chars.length
    · rw [List.getElem?_append_left hc]
    · rw [List.getElem?_append_right (by omega), List.getElem?_replicate, if_pos (by omega),
        List.getElem?_eq_none (by omega)]
      rfl
  rw [hword, bytesWord_byte (by simp; omega) (by omega), hchar]

/-- The thirty number fields of a recipe in the order of its area (Recipe areas). -/
def recipeFields (r : Recipe) : List Nat :=
  [r.nominal, r.target, r.containerTare, r.hardDev, r.softDev, r.overDev, flagNat r.rejectOver, r.softAllowance,
    r.lotCanLimit, r.lotMinutes, r.valveCount, r.smoothing, r.sampleMin, r.deadband, r.gain, r.stepLimit, r.trimLimit,
    flagNat r.clearTrims, r.settle, r.guard, r.minSamples, r.stability, r.maxDwell, r.readTimeout, flagNat r.codeRequired,
    r.minGrade.code, r.rejectPulse, r.confirmWindow, r.missingWindow, r.zeroBand]

theorem recipeWords_eq (r : Recipe) :
    recipeWords r = 1 :: (textWords r.lotText ++ ((recipeFields r).map wordOfNat ++ r.rest)) := rfl

/-- The words of a recipe's area by offset: the present flag, the text, the fields, the words copied with it. -/
theorem recipeWords_getD (r : Recipe) :
    (recipeWords r).getD 0 0 = 1 ∧
    (∀ i, i < 3 → (recipeWords r).getD (1 + i) 0 = (textWords r.lotText).getD i 0) ∧
    (∀ k, k < 30 → (recipeWords r).getD (4 + k) 0 = wordOfNat ((recipeFields r).getD k 0)) ∧
    (∀ k, (recipeWords r).getD (34 + k) 0 = r.rest.getD k 0) := by
  have htext : (textWords r.lotText).length = 3 := rfl
  have hfields : ((recipeFields r).map wordOfNat).length = 30 := rfl
  refine ⟨rfl, fun i hi => ?_, fun k hk => ?_, fun k => ?_⟩
  · rw [recipeWords_eq, Nat.add_comm, List.getD_cons_succ, List.getD_append _ _ _ _ (by omega)]
  · rw [recipeWords_eq, show 4 + k = 3 + k + 1 by omega, List.getD_cons_succ, List.getD_append_right _ _ _ _ (by omega),
      htext, Nat.add_sub_cancel_left, List.getD_append _ _ _ _ (by omega)]
    exact List.getD_map (recipeFields r) 0 wordOfNat
  · rw [recipeWords_eq, show 34 + k = 3 + (30 + k) + 1 by omega, List.getD_cons_succ,
      List.getD_append_right _ _ _ _ (by omega), htext, Nat.add_sub_cancel_left,
      List.getD_append_right _ _ _ _ (by omega), hfields, Nat.add_sub_cancel_left]

/-- The words of an open lot's area by offset; the end time tag and the close cause read 0. -/
theorem openLotWords_eq (l : Lot) : openLotWords l =
    wordOfNat l.index :: (textWords l.text ++ ([l.start, 0, 0, l.decided, l.accepted, l.rejected] ++ (reasonWords l ++
      [wordOfNat l.softUsed, wordOfNat l.allowance, l.netSum.extractLsb' 32 32, l.netSum.extractLsb' 0 32, 0, 0]))) := rfl

theorem openLotWords_text (l : Lot) {i : Nat} (hi : i < 3) :
    (openLotWords l).getD (1 + i) 0 = (textWords l.text).getD i 0 := by
  have htext : (textWords l.text).length = 3 := rfl
  rw [openLotWords_eq, Nat.add_comm, List.getD_cons_succ, List.getD_append _ _ _ _ (by omega)]

theorem openLotWords_reason (l : Lot) {k : Nat} (hk : k < 10) : (openLotWords l).getD (10 + k) 0 = l.reasons.getD k 0 := by
  have htext : (textWords l.text).length = 3 := rfl
  have hreasons : (reasonWords l).length = 10 := rfl
  rw [openLotWords_eq, show 10 + k = 3 + (6 + k) + 1 by omega, List.getD_cons_succ,
    List.getD_append_right _ _ _ _ (by omega), htext, Nat.add_sub_cancel_left,
    List.getD_append_right _ _ _ _ (by simp), show 6 + k - List.length [_, _, _, _, _, _] = k from Nat.add_sub_cancel_left ..,
    List.getD_append _ _ _ _ (by omega), List.getD_eq_getElem _ _ (by omega)]
  simp [reasonWords]

/-- A flag shows as 1 or 0. -/
theorem wordOfNat_flagNat (b : Bool) : wordOfNat (flagNat b) = if b then 1 else 0 := by cases b <;> rfl

theorem wordOfNat_gen (g : Gen) : wordOfNat g.toNat = g.setWidth 32 := BitVec.ofNat_toNat 32 g

section Areas

variable {s : State} {base : Nat}

/-- A lot_text in the words from offset 1 of an area on. -/
theorem ShowsArea.text {size : Nat} {ws : List Word} {chars : List Byte} (h : ShowsArea s base size ws) (hsize : 4 ≤ size)
    (htext : ∀ i, i < 3 → ws.getD (1 + i) 0 = (textWords chars).getD i 0) {k : Nat} (hk : k < 12) :
    (hostRead s (BitVec.ofNat 32 (base + 1 + k / 4))).toNat / 256 ^ (3 - k % 4) % 256 = (chars.getD k 0).toNat := by
  rw [Nat.add_assoc, h _ (by omega), htext _ (by omega)]
  exact textWords_char chars hk

/-- What the area of a recipe that is present shows (R152, Recipe areas). -/
theorem ShowsArea.recipe {r : Recipe} (h : ShowsArea s base 0x80 (recipeWords r)) :
    hostRead s (BitVec.ofNat 32 base) = 1 ∧
    (∀ k, k < 12 → (hostRead s (BitVec.ofNat 32 (base + 1 + k / 4))).toNat / 256 ^ (3 - k % 4) % 256 =
      (r.lotText.getD k 0).toNat) ∧
    (∀ k, k < 30 → hostRead s (BitVec.ofNat 32 (base + 4 + k)) = BitVec.ofNat 32 ((recipeFields r).getD k 0)) ∧
    (∀ k, k < 94 → hostRead s (BitVec.ofNat 32 (base + 34 + k)) = r.rest.getD k 0) := by
  obtain ⟨hpresent, htext, hfields, hrest⟩ := recipeWords_getD r
  refine ⟨(h 0 (by omega)).trans hpresent, fun k hk => h.text (by omega) htext hk, fun k hk => ?_, fun k hk => ?_⟩
  · rw [Nat.add_assoc, h _ (by omega)]
    exact hfields k hk
  · rw [Nat.add_assoc, h _ (by omega)]
    exact hrest k

/-- What the area of an open lot shows (R160, Lot record). -/
theorem ShowsArea.lot {l : Lot} (h : ShowsArea s base 0x20 (openLotWords l)) :
    let at' := fun (a : Nat) => hostRead s (BitVec.ofNat 32 a)
    at' base = BitVec.ofNat 32 l.index ∧
    (∀ k, k < 12 → (at' (base + 1 + k / 4)).toNat / 256 ^ (3 - k % 4) % 256 = (l.text.getD k 0).toNat) ∧
    at' (base + 4) = l.start ∧ at' (base + 5) = 0 ∧ at' (base + 6) = 0 ∧ at' (base + 7) = l.decided ∧
    at' (base + 8) = l.accepted ∧ at' (base + 9) = l.rejected ∧ (∀ k, k < 10 → at' (base + 10 + k) = l.reasons.getD k 0) ∧
    at' (base + 20) = BitVec.ofNat 32 l.softUsed ∧ at' (base + 21) = BitVec.ofNat 32 l.allowance ∧
    at' (base + 22) = l.netSum.extractLsb' 32 32 ∧ at' (base + 23) = l.netSum.setWidth 32 ∧
    (∀ a, base + 24 ≤ a → a ≤ base + 31 → at' a = 0) := by
  have hlow : l.netSum.extractLsb' 0 32 = l.netSum.setWidth 32 := by
    rw [BitVec.setWidth_eq_extractLsb' (by omega)]
  have hlen : (openLotWords l).length = 26 := rfl
  refine ⟨h 0 (by omega), fun k hk => h.text (by omega) (fun i hi => openLotWords_text l hi) hk, h 4 (by omega),
    h 5 (by omega), h 6 (by omega), h 7 (by omega), h 8 (by omega), h 9 (by omega), fun k hk => ?_, h 20 (by omega),
    h 21 (by omega), h 22 (by omega), (h 23 (by omega)).trans hlow, fun a hfirst hlast => ?_⟩
  · rw [Nat.add_assoc]
    exact (h _ (by omega)).trans (openLotWords_reason l hk)
  · by_cases hback : base + 26 ≤ a
    · exact h.zeros (by omega) (by omega)
    · obtain rfl | rfl : a = base + 24 ∨ a = base + 25 := by omega
      · exact h 24 (by omega)
      · exact h 25 (by omega)

end Areas

/-- Settles O6: each area by the list of words that the model computes for it, the rest by the memory and the registers. -/
theorem theHostSeesEveryBlock : Obligations.TheHostSeesEveryBlock := by
  intro s hawake hheld count at' zeros text fields recipeArea lotArea
  obtain ⟨hstatus, hactive, hretiring, hcal, hlot, hretiringLot, hqueue, hlog⟩ := hostRead_areas hawake hheld
  obtain ⟨hident, hcontrol, hnotice, hmask, hbeyond⟩ := hostRead_registers hawake hheld
  have hrecipe {base : Nat} {slot : Option Recipe} (h : ShowsArea s base 0x80 (recipeAreaWords slot)) :
      recipeArea base slot := by
    refine ⟨fun hnone a hlow hhigh => ?_, fun r hsome => ?_⟩
    · subst hnone; exact h.zeros hlow (by omega)
    · subst hsome; exact h.recipe
  have hopen {base : Nat} {lot : Option Lot} (h : ShowsArea s base 0x20 (lotAreaWords lot)) : lotArea base lot := by
    refine ⟨fun hnone a hlow hhigh => ?_, fun l hsome => ?_⟩
    · subst hnone; exact h.zeros hlow (by omega)
    · subst hsome; exact h.lot
  have hindex : wordOfNat (activeLotIndex s) =
      (match s.recipes.activeLot with | none => 0 | some l => BitVec.ofNat 32 l.index) := by
    unfold activeLotIndex
    cases s.recipes.activeLot <;> rfl
  refine ⟨hstatus 0 (by omega), hstatus 1 (by omega), (hstatus 2 (by omega)).trans (wordOfNat_flagNat _),
    (hstatus 3 (by omega)).trans (wordOfNat_flagNat _), hstatus 4 (by omega),
    (hstatus 5 (by omega)).trans (wordOfNat_flagNat _), (hstatus 6 (by omega)).trans (wordOfNat_gen _),
    (hstatus 7 (by omega)).trans (wordOfNat_gen _), hstatus 8 (by omega), hstatus 9 (by omega), hstatus 10 (by omega),
    hstatus 11 (by omega), hstatus 12 (by omega), hstatus 13 (by omega), hstatus 14 (by omega), hstatus 15 (by omega),
    hstatus 16 (by omega), hstatus 17 (by omega), hstatus 18 (by omega), (hstatus 19 (by omega)).trans hindex,
    fun a hlow hhigh => hstatus.zeros hlow (by omega), hrecipe hactive, hrecipe hretiring,
    hcal 0 (by omega), hcal 1 (by omega), hcal 2 (by omega), hcal 3 (by omega), hcal 4 (by omega), hcal 5 (by omega),
    hcal 6 (by omega), fun a hlow hhigh => hcal.zeros hlow (by omega), hopen hlot, hopen hretiringLot,
    hqueue 0 (by omega), hqueue 1 (by omega), fun a hlow hhigh => hqueue.zeros hlow (by omega),
    hlog 0 (by omega), hlog 1 (by omega), fun a hlow hhigh => hlog.zeros hlow (by omega),
    fun a ha hs hr hl hg => hostRead_elsewhere hawake hheld ha hs hr hl hg, hident, hcontrol, hnotice, hmask, hbeyond⟩

end Sys2Proof.Machine

namespace Sys2Proof.Machine

/-! PROOFS. The places on the line: the serials and stages of the Can Track in its order, and what the operations of the track do
to them (R36 to R42, R59). -/

/-- What the conditions on the Can Track read of an entry. -/
structure Place where
  serial : Nat
  stage : Stage

def Entry.place (e : Entry) : Place := { serial := e.serial, stage := e.stage }

@[simp] theorem Entry.place_serial (e : Entry) : e.place.serial = e.serial := rfl

@[simp] theorem Entry.place_stage (e : Entry) : e.place.stage = e.stage := rfl

/-- The places of the entries, in the order of the track. -/
def places (s : State) : List Place := s.track.entries.map Entry.place

/-- How many open weighings an entry in a stage stands for: one ON_PLATFORM, none elsewhere (R54). -/
def Stage.weighings (st : Stage) : Nat := if st = .onPlatform then 1 else 0

/-- The conditions on the Can Track, with `n` weighings open, as they read the places. -/
structure PlacesLegal (n : Nat) (l : List Place) : Prop where
  bounded : l.length ≤ 256
  ordered : l.Pairwise (fun p q => p.stage.rank ≤ q.stage.rank)
  serials : (l.map (·.serial)).Nodup
  ranged : ∀ p ∈ l, 1 ≤ p.serial ∧ p.serial ≤ 4294967295
  weighings : l.countP (fun p => decide (p.stage = .onPlatform)) = n

/-- A place may stand between two parts of the track: room, order, a serial of its own in its range. -/
structure PlaceFits (a b : List Place) (p : Place) : Prop where
  room : (a ++ b).length < 256
  after : ∀ q ∈ a, q.stage.rank ≤ p.stage.rank
  before : ∀ q ∈ b, p.stage.rank ≤ q.stage.rank
  fresh : ∀ q ∈ a ++ b, q.serial ≠ p.serial
  ranged : 1 ≤ p.serial ∧ p.serial ≤ 4294967295

/-- The one lemma on the conditions: legal with a place is legal without it, and the place fits. -/
theorem placesLegal_middle {n : Nat} {a b : List Place} {p : Place} :
    PlacesLegal (n + p.stage.weighings) (a ++ p :: b) ↔ PlacesLegal n (a ++ b) ∧ PlaceFits a b p := by
  have hcount : (a ++ p :: b).countP (fun p => decide (p.stage = .onPlatform)) =
      (a ++ b).countP (fun p => decide (p.stage = .onPlatform)) + p.stage.weighings := by
    simp only [List.countP_append, List.countP_cons, decide_eq_true_eq, Stage.weighings]
    omega
  have hordered : (a ++ p :: b).Pairwise (fun p q => p.stage.rank ≤ q.stage.rank) ↔
      (a ++ b).Pairwise (fun p q => p.stage.rank ≤ q.stage.rank) ∧
        (∀ q ∈ a, q.stage.rank ≤ p.stage.rank) ∧ ∀ q ∈ b, p.stage.rank ≤ q.stage.rank := by
    simp only [List.pairwise_append, List.pairwise_cons, List.forall_mem_cons]
    grind
  have hserials : ((a ++ p :: b).map (·.serial)).Nodup ↔
      ((a ++ b).map (·.serial)).Nodup ∧ ∀ q ∈ a ++ b, q.serial ≠ p.serial := by
    rw [List.map_append, List.map_cons, List.nodup_middle, List.nodup_cons, ← List.map_append, and_comm]
    simp only [List.mem_map, not_exists, not_and, ne_eq]
  constructor
  · rintro ⟨hb, ho, hs, hr, hw⟩
    obtain ⟨hrest, hafter, hbefore⟩ := hordered.mp ho
    obtain ⟨hnodup, hfresh⟩ := hserials.mp hs
    rw [hcount] at hw
    refine ⟨⟨?_, hrest, hnodup, fun q hq => hr q ?_, by omega⟩, ?_, hafter, hbefore, hfresh, hr p (by simp)⟩
    · simp at hb ⊢; omega
    · simp at hq ⊢; tauto
    · simp at hb ⊢; omega
  · rintro ⟨⟨hb, ho, hs, hr, hw⟩, hroom, hafter, hbefore, hfresh, hrange⟩
    refine ⟨by simp at hroom ⊢; omega, hordered.mpr ⟨ho, hafter, hbefore⟩, hserials.mpr ⟨hs, hfresh⟩, fun q hq => ?_,
      by rw [hcount, hw]⟩
    simp only [List.mem_append, List.mem_cons] at hq hr
    rcases hq with hq | rfl | hq
    · exact hr q (.inl hq)
    · exact hrange
    · exact hr q (.inr hq)

theorem PlacesLegal.eq_of_serial {n : Nat} {l : List Place} (h : PlacesLegal n l) {p q : Place} (hp : p ∈ l) (hq : q ∈ l)
    (hs : p.serial = q.serial) : p = q := List.inj_on_of_nodup_map h.serials hp hq hs

/-! #### The operations on places -/

/-- An entry placed at the end of its stage: behind every entry of its stage or past it, before the others (R37). -/
theorem insertByStage_eq (e : Entry) (l : List Entry) : insertByStage e l =
    l.takeWhile (fun x => decide (x.stage.rank ≤ e.stage.rank)) ++ e ::
      l.dropWhile (fun x => decide (x.stage.rank ≤ e.stage.rank)) := by
  induction l with
  | nil => rfl
  | cons x t ih =>
    unfold insertByStage
    split
    · next h => simp [h.not_ge]
    · next h => simp [not_lt.mp h, ih]

/-- In an ordered track the entries behind the end of a stage stand in later stages. -/
theorem rank_lt_of_mem_dropWhile {k : Nat} {l : List Entry} (h : l.Pairwise (fun x y => x.stage.rank ≤ y.stage.rank)) :
    ∀ x ∈ l.dropWhile (fun x => decide (x.stage.rank ≤ k)), k < x.stage.rank := by
  induction l with
  | nil => simp
  | cons y t ih =>
    obtain ⟨hy, ht⟩ := List.pairwise_cons.mp h
    by_cases hk : y.stage.rank ≤ k
    · simpa [hk] using ih ht
    · have hlt : k < y.stage.rank := not_le.mp hk
      simp only [List.dropWhile_cons, hk, decide_false, Bool.false_eq_true, if_false, List.forall_mem_cons]
      exact ⟨hlt, fun x hx => hlt.trans_le (hy x hx)⟩

@[simp] theorem places_setReads (l : List PendingRead) (s : State) : places (setReads l s) = places s := rfl

theorem places_of_track {s t : State} (h : t.track = s.track) : places t = places s := by simp only [places, h]

theorem places_setEntry (e : Entry) (s : State) :
    places (setEntry e s) = (places s).map (fun p => if p.serial = e.serial then e.place else p) := by
  simp only [places, setEntry_entries, List.map_map]
  refine List.map_congr_left fun x _ => ?_
  rw [Function.comp_apply, Function.comp_apply, apply_ite Entry.place]
  rfl

/-- The oldest entry of a stage stands at the oldest place of it. -/
theorem find_places {st : Stage} {e : Entry} {s : State} (h : oldestOf st s = some e) :
    (places s).find? (fun p => decide (p.stage = st)) = some e.place := by
  rw [places, List.find?_map]
  exact congrArg (Option.map Entry.place) h

/-- The entries under a serial stand in the stage given: a replacement in that stage keeps every place. -/
def StandsIn (serial : Nat) (st : Stage) (s : State) : Prop := ∀ p ∈ places s, p.serial = serial → p.stage = st

theorem places_setEntry_of_standsIn {e : Entry} {s : State} (h : StandsIn e.serial e.stage s) :
    places (setEntry e s) = places s := by
  rw [places_setEntry]
  refine (List.map_congr_left fun p hp => ?_).trans (List.map_id _)
  split
  · next hs =>
    have hst := h p hp hs
    cases p
    simp_all [Entry.place]
  · rfl

/-- The conditions on the Can Track with `n` weighings open: those on the places, and the range of the next serial. -/
structure TrackFits (n : Nat) (s : State) : Prop where
  legal : PlacesLegal n (places s)
  next : 1 ≤ s.track.nextSerial ∧ s.track.nextSerial ≤ 4294967295

theorem trackLegal_iff {s : State} : TrackLegal s ↔ TrackFits s.weigh.platform.length s := by
  have hserials : (places s).map (·.serial) = s.track.entries.map (·.serial) := by simp [places]
  constructor
  · rintro ⟨hb, ho, hs, hr, hn, hw⟩
    refine ⟨⟨by simpa [places], by simpa [places, List.pairwise_map], by rwa [hserials], by simpa [places], ?_⟩, hn⟩
    rw [← hw, places, List.countP_map, List.countP_eq_length_filter]
    rfl
  · rintro ⟨⟨hb, ho, hs, hr, hw⟩, hn⟩
    refine ⟨by simpa [places] using hb, by simpa [places, List.pairwise_map] using ho, by rwa [hserials] at hs,
      by simpa [places] using hr, hn, ?_⟩
    rw [← hw, places, List.countP_map, List.countP_eq_length_filter]
    rfl

/-- The places and the next serial are kept: the conditions on the Can Track read nothing else of it. -/
def TrackKept (s t : State) : Prop := places t = places s ∧ t.track.nextSerial = s.track.nextSerial

theorem TrackKept.of_track {s t : State} (h : t.track = s.track := by simp) : TrackKept s t :=
  ⟨places_of_track h, by rw [h]⟩

theorem TrackKept.trans {s t u : State} (hst : TrackKept s t) (htu : TrackKept t u) : TrackKept s u :=
  ⟨htu.1.trans hst.1, htu.2.trans hst.2⟩

theorem TrackFits.of_kept {n : Nat} {s t : State} (h : TrackFits n s) (hk : TrackKept s t) : TrackFits n t := by
  obtain ⟨hplaces, hnext⟩ := hk
  exact ⟨by rw [hplaces]; exact h.legal, by rw [hnext]; exact h.next⟩

theorem TrackFits.of_track {n : Nat} {s t : State} (h : TrackFits n s) (ht : t.track = s.track := by simp) : TrackFits n t :=
  h.of_kept (.of_track ht)

theorem TrackFits.standsIn {n : Nat} {e : Entry} {s : State} (h : TrackFits n s) (he : e ∈ s.track.entries) :
    StandsIn e.serial e.stage s := by
  intro p hp hs
  rw [h.legal.eq_of_serial hp (List.mem_map_of_mem he) hs]
  rfl

theorem TrackKept.set {e : Entry} {s : State} (h : StandsIn e.serial e.stage s) : TrackKept s (setEntry e s) :=
  ⟨places_setEntry_of_standsIn h, rfl⟩

theorem rank_injective : Function.Injective Stage.rank := by
  intro x y
  cases x <;> cases y <;> simp [Stage.rank]

/-- A move of the oldest entry of a stage keeps the order, where no entry stands between the stage it leaves and the one it
comes to (R37). -/
theorem TrackFits.move {n : Nat} {st : Stage} {e : Entry} {p : Place} {s : State}
    (h : TrackFits (n + st.weighings) s) (hold : (places s).find? (fun q => decide (q.stage = st)) = some p)
    (hserial : e.serial = p.serial) (hdown : e.stage.rank ≤ st.rank)
    (hgap : ∀ q ∈ places s, q.stage.rank < st.rank → q.stage.rank ≤ e.stage.rank) :
    TrackFits (n + e.stage.weighings) (setEntry e s) := by
  obtain ⟨hst, a, b, hsplit, hnone⟩ := List.find?_eq_some_iff_append.mp hold
  obtain rfl : p.stage = st := by simpa using hst
  have hlegal := h.legal
  rw [hsplit, placesLegal_middle] at hlegal
  obtain ⟨hrest, hfits⟩ := hlegal
  have hmoved : places (setEntry e s) = a ++ e.place :: b := by
    have hkept (l : List Place) (hl : ∀ q ∈ l, q.serial ≠ p.serial) :
        l.map (fun q => if q.serial = p.serial then e.place else q) = l :=
      (List.map_congr_left fun q hq => if_neg (hl q hq)).trans (List.map_id _)
    rw [places_setEntry, hserial, hsplit, List.map_append, List.map_cons, if_pos rfl,
      hkept a fun q hq => hfits.fresh q (by simp [hq]), hkept b fun q hq => hfits.fresh q (by simp [hq])]
  have hrank : ∀ q ∈ a, q.stage.rank ≤ e.stage.rank := fun q hq => by
    refine hgap q (by simp [hsplit, hq]) (lt_of_le_of_ne (hfits.after q hq) fun hrank => ?_)
    have hne : q.stage ≠ p.stage := by simpa using hnone q hq
    exact hne (rank_injective hrank)
  refine ⟨?_, h.next⟩
  rw [hmoved]
  refine placesLegal_middle (p := e.place).mpr ⟨hrest, hfits.room, hrank, fun q hq => hdown.trans (hfits.before q hq), ?_, ?_⟩
  · simpa only [Entry.place_serial, hserial] using hfits.fresh
  · simpa only [Entry.place_serial, hserial] using hfits.ranged

theorem nextNumber_range {n : Nat} (h : 1 ≤ n ∧ n ≤ 4294967295) : 1 ≤ nextNumber n ∧ nextNumber n ≤ 4294967295 := by
  unfold nextNumber
  split_ifs <;> omega

/-- An entry created under a free next serial, with room for it (R37, R38, R41). -/
theorem TrackFits.create {n : Nat} {e : Entry} {s : State} (h : TrackFits n s) (hfree : NextSerialFree s)
    (hroom : s.track.entries.length < 256) (hserial : e.serial = s.track.nextSerial) :
    TrackFits (n + e.stage.weighings) (createEntry e s) := by
  obtain ⟨hlegal, hnext⟩ := h
  refine ⟨?_, nextNumber_range hnext⟩
  have hsplit := List.takeWhile_append_dropWhile (p := fun x => decide (x.stage.rank ≤ e.stage.rank)) (l := s.track.entries)
  have horder : s.track.entries.Pairwise (fun x y => x.stage.rank ≤ y.stage.rank) := by
    simpa [places, List.pairwise_map] using hlegal.ordered
  have hlate := rank_lt_of_mem_dropWhile (k := e.stage.rank) horder
  have hearly : ∀ x ∈ s.track.entries.takeWhile (fun x => decide (x.stage.rank ≤ e.stage.rank)),
      x.stage.rank ≤ e.stage.rank := fun x hx => by simpa using List.mem_takeWhile_imp hx
  rw [places, createEntry_entries, insertByStage_eq]
  generalize s.track.entries.takeWhile (fun x => decide (x.stage.rank ≤ e.stage.rank)) = a at *
  generalize s.track.entries.dropWhile (fun x => decide (x.stage.rank ≤ e.stage.rank)) = b at *
  rw [List.map_append, List.map_cons]
  have hboth : places s = a.map Entry.place ++ b.map Entry.place := by rw [places, ← hsplit, List.map_append]
  rw [hboth] at hlegal
  refine placesLegal_middle (p := e.place).mpr ⟨hlegal, ?_, ?_, ?_, ?_, ?_⟩
  · rw [← hboth]; simpa [places] using hroom
  · simpa using hearly
  · simpa using fun x hx => (hlate x hx).le
  · rw [← hboth]
    simpa [places, hserial, NextSerialFree] using hfree
  · simpa [hserial] using hnext

/-! #### Removal and room -/

@[simp] theorem removeWithDrain_entries (e : Entry) (d : Disposition) (s : State) :
    (removeWithDrain e d s).track.entries = s.track.entries.eraseP (fun x => decide (x.serial = e.serial)) := by
  simp [removeWithDrain]

@[simp] theorem removeWithDrain_nextSerial (e : Entry) (d : Disposition) (s : State) :
    (removeWithDrain e d s).track.nextSerial = s.track.nextSerial := by simp [removeWithDrain]

theorem TrackFits.remove {n : Nat} {e : Entry} {s : State} (h : TrackFits n s) (he : e ∈ s.track.entries)
    (hst : e.stage ≠ .onPlatform) (d : Disposition) : TrackFits n (removeWithDrain e d s) := by
  obtain ⟨x, a, b, -, hx, hsplit, herased⟩ :=
    List.exists_of_eraseP (p := fun x : Entry => decide (x.serial = e.serial)) he (by simp)
  have hplace : x.place = e.place := h.legal.eq_of_serial (List.mem_map_of_mem (by simp [hsplit]))
    (List.mem_map_of_mem he) (by simpa using hx)
  have hlegal := h.legal
  have hnone : x.place.stage.weighings = 0 := by rw [hplace]; exact if_neg hst
  rw [← Nat.add_zero n, ← hnone, places, hsplit, List.map_append, List.map_cons, placesLegal_middle] at hlegal
  refine ⟨?_, by simpa using h.next⟩
  rw [places, removeWithDrain_entries, herased, List.map_append]
  exact hlegal.1

theorem nextSerialFree_remove {s : State} (h : NextSerialFree s) (e : Entry) (d : Disposition) :
    NextSerialFree (removeWithDrain e d s) := by
  intro x hx
  rw [removeWithDrain_entries] at hx
  rw [removeWithDrain_nextSerial]
  exact h x (List.mem_of_mem_eraseP hx)

theorem length_removeWithDrain {e : Entry} {s : State} (he : e ∈ s.track.entries) (d : Disposition) :
    (removeWithDrain e d s).track.entries.length = s.track.entries.length - 1 := by
  rw [removeWithDrain_entries, List.length_eraseP_of_mem he (by simp)]

theorem mem_of_oldestOf {st : Stage} {e : Entry} {s : State} (h : oldestOf st s = some e) :
    e ∈ s.track.entries ∧ e.stage = st :=
  ⟨List.mem_of_find?_eq_some h, by simpa using List.find?_some h⟩

/-- The entry that makes room is not ON_PLATFORM; there is none only where every entry is (R42). -/
theorem roomVictim_spec (s : State) :
    (∀ v, roomVictim s = some v → v ∈ s.track.entries ∧ v.stage ≠ .onPlatform) ∧
    (roomVictim s = none → ∀ x ∈ s.track.entries, x.stage = .onPlatform) := by
  unfold roomVictim
  split
  · next e he =>
    obtain ⟨hmem, hst⟩ := mem_of_oldestOf he
    exact ⟨fun v hv => by cases hv; exact ⟨hmem, by simp [hst]⟩, nofun⟩
  · refine ⟨fun v hv => ⟨List.mem_of_find?_eq_some hv, by simpa using List.find?_some hv⟩, fun hnone => ?_⟩
    simpa using hnone

theorem makeRoom_of_room {s : State} (h : s.track.entries.length < 256) : makeRoom s = s := by
  simp [makeRoom, trackFull, h.not_ge]

theorem makeRoom_of_full {v : Entry} {s : State} (hfull : 256 ≤ s.track.entries.length) (hv : roomVictim s = some v) :
    makeRoom s = raiseEvent .trackFull 3 (wordOfNat v.serial) (wordOfNat s.track.nextSerial)
      (removeWithDrain v .dropped s) := by
  simp [makeRoom, trackFull, hfull, hv]

theorem makeRoom_of_none {s : State} (h : roomVictim s = none) : makeRoom s = s := by
  simp [makeRoom, h]

@[simp] theorem makeRoom_nextSerial (s : State) : (makeRoom s).track.nextSerial = s.track.nextSerial := by
  unfold makeRoom
  repeat' split
  all_goals simp

/-- Making room keeps the conditions, leaves room for one entry, and frees no serial that was not free (R42). -/
theorem TrackFits.room {n : Nat} {s : State} (h : TrackFits n s) (hn : n < 256) (hfree : NextSerialFree s) :
    TrackFits n (makeRoom s) ∧ NextSerialFree (makeRoom s) ∧ (makeRoom s).track.entries.length < 256 := by
  by_cases hroom : s.track.entries.length < 256
  · rw [makeRoom_of_room hroom]
    exact ⟨h, hfree, hroom⟩
  have hlength : s.track.entries.length = 256 := by
    have hbounded : s.track.entries.length ≤ 256 := by simpa [places] using h.legal.bounded
    omega
  obtain ⟨hsome, hnone⟩ := roomVictim_spec s
  cases hv : roomVictim s with
  | none =>
    have hcount := h.legal.weighings
    rw [List.countP_eq_length.mpr (by simpa [places] using hnone hv)] at hcount
    simp only [places, List.length_map] at hcount
    omega
  | some v =>
    obtain ⟨hmem, hst⟩ := hsome v hv
    rw [makeRoom_of_full hlength.ge hv]
    refine ⟨(h.remove hmem hst .dropped).of_track, nextSerialFree_remove hfree v .dropped, ?_⟩
    have hshorter := length_removeWithDrain hmem .dropped
    simp only [raiseEvent_frame]
    omega

/-! #### Decisions -/

@[simp] theorem decideEntry_nextSerial (extra : BitVec 10) (e : Entry) (s : State) :
    (decideEntry extra e s).track.nextSerial = s.track.nextSerial := by simp [decideEntry]

theorem TrackKept.decide (extra : BitVec 10) {e : Entry} {s : State} (h : StandsIn e.serial e.stage s) :
    TrackKept s (decideEntry extra e s) := by
  refine ⟨?_, decideEntry_nextSerial ..⟩
  have hset : places (setEntry (decidedEntry s extra e) s) = places s := places_setEntry_of_standsIn h
  rw [← hset, places, places, setEntry_entries, decideEntry_entries]
  rfl

theorem TrackKept.decideDue {e : Entry} {s : State} (h : StandsIn e.serial e.stage s) : TrackKept s (decideIfDue e s) := by
  unfold decideIfDue
  split
  · exact .decide 0 h
  · exact .of_track rfl

/-- An entry that has just been set stands where it was set. -/
theorem standsIn_setEntry (e : Entry) (s : State) : StandsIn e.serial e.stage (setEntry e s) := by
  intro p hp hs
  rw [places_setEntry, List.mem_map] at hp
  obtain ⟨q, -, rfl⟩ := hp
  by_cases hq : q.serial = e.serial
  · rw [if_pos hq]; rfl
  · rw [if_neg hq] at hs; exact absurd hs hq

end Sys2Proof.Machine

namespace Sys2Proof.Machine

/-! PROOFS. The binding of reads and the platform keep the conditions on the Can Track (R46 to R54). -/

theorem nextSerialFree_of_track {s t : State} (h : NextSerialFree s) (ht : t.track.entries = s.track.entries := by simp)
    (hn : t.track.nextSerial = s.track.nextSerial := by simp) : NextSerialFree t := by
  unfold NextSerialFree
  rwa [ht, hn]

theorem TrackFits.withReads {n : Nat} {s : State} (h : TrackFits n s) (l : List PendingRead) : TrackFits n (setReads l s) :=
  ⟨h.legal, h.next⟩

theorem TrackFits.serials {n : Nat} {s : State} (h : TrackFits n s) : (s.track.entries.map (·.serial)).Nodup := by
  simpa [places, Function.comp_def] using h.legal.serials

/-- A new entry at the reader, with room made for it (R42, R47, R48). -/
theorem TrackFits.createAtReader {n : Nat} {s : State} (h : TrackFits n s) (hn : n < 256) (hfree : NextSerialFree s)
    (origin : Origin) (a : Attribution) (m : ReadMessage) :
    TrackFits n (Machine.createAtReader origin a m (makeRoom s)) := by
  obtain ⟨hfits, hfree', hroom⟩ := h.room hn hfree
  exact hfits.create (e := boundEntry (makeRoom s) a m (blankEntry origin .read (makeRoom s))) hfree' hroom rfl

/-- The oldest TRANSIT entry bound to a read: it goes to READ (R46, R48). -/
theorem TrackFits.bindOldest {n : Nat} {e : Entry} {s : State} (h : TrackFits n s) (he : oldestOf .transit s = some e)
    (u : State) (a : Attribution) (m : ReadMessage) : TrackFits n (setEntry (boundEntry u a m e) s) := by
  have hgap : ∀ q ∈ places s, q.stage.rank < Stage.transit.rank → q.stage.rank ≤ Stage.read.rank :=
    fun q _ hq => Nat.le_of_lt_succ hq
  exact h.move (st := .transit) (e := boundEntry u a m e) (find_places he) rfl (Nat.le_succ 3) hgap

theorem trackFits_bindByPosition {n : Nat} {s : State} (h : TrackFits n s) (hn : n < 256) (hfree : NextSerialFree s) :
    TrackFits n (bindByPosition s).1 := by
  unfold bindByPosition
  split
  · next e he => exact h.bindOldest he s .positional .noRead
  · exact (h.createAtReader hn hfree .untracked .positional .noRead).of_track (by simp)

/-! #### The entries lost before a code's entry -/

/-- Under distinct serials a removal takes out the entry alone. -/
theorem eraseP_serial_eq_filter {l : List Entry} (hserials : (l.map (·.serial)).Nodup) {e : Entry} (he : e ∈ l) :
    l.eraseP (fun x => decide (x.serial = e.serial)) = l.filter (fun x => decide (x ≠ e)) := by
  obtain ⟨x, a, b, hbefore, hx, hsplit, herased⟩ :=
    List.exists_of_eraseP (p := fun x : Entry => decide (x.serial = e.serial)) he (by simp)
  have hxe : x = e := List.inj_on_of_nodup_map hserials (by simp [hsplit]) he (by simpa using hx)
  subst hxe
  have hnodup : (a ++ x :: b).Nodup := hsplit ▸ List.Nodup.of_map _ hserials
  rw [List.nodup_middle, List.nodup_cons] at hnodup
  have hothers : ∀ y ∈ a ++ b, y ≠ x := fun y hy hyx => hnodup.1 (hyx ▸ hy)
  rw [herased, hsplit, List.filter_append, List.filter_cons_of_neg (by simp), ← List.filter_append,
    List.filter_eq_self.mpr (by simpa using hothers)]

/-- What remains when entries of the track are removed one after another: the others, in their order. -/
theorem loseEntries_entries {lost : List Entry} {s : State} (hserials : (s.track.entries.map (·.serial)).Nodup)
    (hnodup : lost.Nodup) (hlost : ∀ x ∈ lost, x ∈ s.track.entries) :
    (loseEntries lost s).track.entries = s.track.entries.filter (fun x => decide (x ∉ lost)) := by
  induction lost generalizing s with
  | nil => simp [loseEntries]
  | cons x l ih =>
    obtain ⟨hx, hl⟩ := List.nodup_cons.mp hnodup
    have herased : (removeWithDrain x .lostInTransit s).track.entries = s.track.entries.filter (fun y => decide (y ≠ x)) := by
      rw [removeWithDrain_entries, eraseP_serial_eq_filter hserials (hlost x (by simp))]
    have hrest := ih (s := removeWithDrain x .lostInTransit s)
      (by rw [removeWithDrain_entries]; exact hserials.sublist (List.eraseP_sublist.map _)) hl
      (fun y hy => by
        rw [herased]
        exact List.mem_filter.mpr ⟨hlost y (by simp [hy]), decide_eq_true (ne_of_mem_of_not_mem hy hx)⟩)
    rw [herased, List.filter_filter] at hrest
    refine hrest.trans (List.filter_congr fun y _ => ?_)
    simp [Bool.and_comm]

@[simp] theorem loseEntries_nextSerial (lost : List Entry) (s : State) :
    (loseEntries lost s).track.nextSerial = s.track.nextSerial := by
  unfold loseEntries
  induction lost generalizing s with
  | nil => rfl
  | cons x l ih => simpa using ih (removeWithDrain x .lostInTransit s)

theorem TrackFits.lose {n : Nat} {lost : List Entry} {s : State} (h : TrackFits n s) (hnodup : lost.Nodup)
    (hlost : ∀ x ∈ lost, x ∈ s.track.entries ∧ x.stage = .transit) : TrackFits n (loseEntries lost s) := by
  induction lost generalizing s with
  | nil => exact h
  | cons x l ih =>
    obtain ⟨hx, hl⟩ := List.nodup_cons.mp hnodup
    obtain ⟨hmem, hst⟩ := hlost x (by simp)
    refine ih (h.remove hmem (by simp [hst]) .lostInTransit) hl fun y hy => ?_
    obtain ⟨hymem, hyst⟩ := hlost y (by simp [hy])
    refine ⟨?_, hyst⟩
    rw [removeWithDrain_entries, eraseP_serial_eq_filter h.serials hmem]
    exact List.mem_filter.mpr ⟨hymem, decide_eq_true (ne_of_mem_of_not_mem hy hx)⟩

/-- The TRANSIT entries of the track split at the entry that a code finds: those before it are lost (R46). -/
structure FoundByMark (mark : Nat) (lost after : List Entry) (e : Entry) (s : State) : Prop where
  split : s.track.entries.filter (fun x => decide (x.stage = .transit)) = lost ++ e :: after
  near : lost.length < 32
  others : ∀ x ∈ lost, passMark x ≠ mark
  mark : passMark e = mark

theorem bindByMark_found {mark : Nat} {lost after : List Entry} {e : Entry} {s : State} (h : FoundByMark mark lost after e s)
    (text : List Byte) (grade : Grade) : bindByMark text mark grade s =
      (setEntry (boundEntry (lostEvent lost e (loseEntries lost s)) .exact (.code text mark grade) e)
        (lostEvent lost e (loseEntries lost s)), e.serial) := by
  obtain ⟨hsplit, hnear, hothers, hmark⟩ := h
  have hwindow : searchWindow s = lost ++ e :: after.take (31 - lost.length) := by
    rw [searchWindow, hsplit, List.take_append, List.take_of_length_le (by omega),
      show 32 - lost.length = 31 - lost.length + 1 by omega, List.take_succ_cons]
  have hfind : (searchWindow s).find? (fun x => decide (passMark x = mark)) = some e := by
    rw [hwindow]
    refine List.find?_eq_some_iff_append.mpr ⟨by simpa using hmark, lost, _, rfl, by simpa using hothers⟩
  have hlost : (searchWindow s).takeWhile (fun x => decide (passMark x ≠ mark)) = lost := by
    rw [hwindow, List.takeWhile_append_of_pos (by simpa using hothers), List.takeWhile_cons_of_neg (by simpa using hmark),
      List.append_nil]
  simp only [bindByMark, hfind, hlost]

theorem bindByMark_unmatched {mark : Nat} {s : State} (h : ∀ x ∈ searchWindow s, passMark x ≠ mark) (text : List Byte)
    (grade : Grade) : bindByMark text mark grade s =
      (raiseEvent .markUnmatched mark (wordOfNat (makeRoom s).track.nextSerial) (wordOfNat (searchWindow s).length)
        (createAtReader .unmatched .mismatch (.code text mark grade) (makeRoom s)), (makeRoom s).track.nextSerial) := by
  have hfind : (searchWindow s).find? (fun x => decide (passMark x = mark)) = none := by simpa using h
  simp only [bindByMark, hfind]

/-- A code finds an entry in the search window, or none there bears its mark (R46, R47). -/
theorem foundByMark_or_not (mark : Nat) (s : State) :
    (∀ x ∈ searchWindow s, passMark x ≠ mark) ∨ ∃ lost after e, FoundByMark mark lost after e s := by
  cases hfind : (searchWindow s).find? (fun x => decide (passMark x = mark)) with
  | none => exact .inl (by simpa using hfind)
  | some e =>
    obtain ⟨hmark, lost, rest, hsplit, hothers⟩ := List.find?_eq_some_iff_append.mp hfind
    refine .inr ⟨lost, rest ++ (s.track.entries.filter (fun x => decide (x.stage = .transit))).drop 32, e, ?_, ?_,
      by simpa using hothers, by simpa using hmark⟩
    · have hwhole := List.take_append_drop 32 (s.track.entries.filter (fun x => decide (x.stage = .transit)))
      change searchWindow s ++ _ = _ at hwhole
      exact hwhole.symm.trans (by rw [hsplit, List.append_assoc, List.cons_append])
    · have hlength : (searchWindow s).length ≤ 32 := List.length_take_le ..
      rw [hsplit, List.length_append, List.length_cons] at hlength
      omega

theorem FoundByMark.lost_mem {mark : Nat} {lost after : List Entry} {e : Entry} {s : State}
    (h : FoundByMark mark lost after e s) : ∀ x ∈ lost, x ∈ s.track.entries ∧ x.stage = .transit := by
  intro x hx
  have hmem : x ∈ s.track.entries.filter (fun x => decide (x.stage = .transit)) := by simp [h.split, hx]
  simpa using hmem

theorem FoundByMark.nodup {mark : Nat} {lost after : List Entry} {e : Entry} {s : State} (h : FoundByMark mark lost after e s)
    (hserials : (s.track.entries.map (·.serial)).Nodup) : lost.Nodup ∧ e ∉ lost := by
  have hnodup := (List.Nodup.of_map _ hserials).filter (fun x => decide (x.stage = .transit))
  rw [h.split, List.nodup_middle, List.nodup_cons] at hnodup
  exact ⟨hnodup.2.of_append_left, fun he => hnodup.1 (by simp [he])⟩

/-- With the older ones lost, the entry found is the oldest in TRANSIT. -/
theorem FoundByMark.oldest {mark : Nat} {lost after : List Entry} {e : Entry} {s : State} (h : FoundByMark mark lost after e s)
    (hserials : (s.track.entries.map (·.serial)).Nodup) : oldestOf .transit (loseEntries lost s) = some e := by
  obtain ⟨hnodup, he⟩ := h.nodup hserials
  rw [oldestOf, loseEntries_entries hserials hnodup fun x hx => (h.lost_mem x hx).1, ← List.head?_filter, List.filter_filter,
    List.filter_congr (fun x _ => Bool.and_comm ..), ← List.filter_filter, h.split, List.filter_append,
    List.filter_eq_nil_iff.mpr (by simp), List.nil_append, List.filter_cons_of_pos (by simpa using he), List.head?_cons]

theorem lostEvent_track (lost : List Entry) (e : Entry) (s : State) : (lostEvent lost e s).track = s.track := by simp

theorem trackFits_bindByMark {n : Nat} {s : State} (h : TrackFits n s) (hn : n < 256) (hfree : NextSerialFree s)
    (text : List Byte) (mark : Nat) (grade : Grade) : TrackFits n (bindByMark text mark grade s).1 := by
  rcases foundByMark_or_not mark s with hnot | ⟨lost, after, e, hfound⟩
  · rw [bindByMark_unmatched hnot]
    exact (h.createAtReader hn hfree .unmatched .mismatch (.code text mark grade)).of_track (by simp)
  · rw [bindByMark_found hfound]
    have hlost := (h.lose (hfound.nodup h.serials).1 hfound.lost_mem).of_track (lostEvent_track lost e _)
    exact hlost.bindOldest ((oldestOf_of_track (lostEvent_track ..)).trans (hfound.oldest h.serials)) ..

end Sys2Proof.Machine

namespace Sys2Proof.Machine

/-! PROOFS. The Can Track under the arrivals, the links and the orders: what each of them keeps of its conditions (R37, R38, R41,
R54). -/

/-! #### Reads -/

/-- The late completion of an entry keeps its serial and its stage (R53). -/
theorem trackKept_resolveLate (serial : Nat) (m : ReadMessage) {s : State}
    (h : ∀ e ∈ s.track.entries, StandsIn e.serial e.stage s) : TrackKept s (resolveLate serial m s).1 := by
  unfold resolveLate
  split
  · exact .of_track rfl
  · next e he =>
    have hset : TrackKept s (setEntry (lateEntry s m e) s) := .set (h e (List.mem_of_find?_eq_some he))
    exact hset.trans (.decideDue (standsIn_setEntry (lateEntry s m e) s))

theorem trackFits_resolveRead {n : Nat} {s : State} (h : TrackFits n s) (hn : n < 256) (hfree : NextSerialFree s)
    (p : PendingRead) (m : ReadMessage) : TrackFits n (resolveRead p m s).1 := by
  unfold resolveRead
  split
  · exact h.of_kept (trackKept_resolveLate _ _ fun e he => h.standsIn he)
  · exact trackFits_bindByPosition h hn hfree
  · exact trackFits_bindByMark h hn hfree ..

theorem trackFits_takeReadResult {n : Nat} {s : State} (h : TrackFits n s) (hn : n < 256) (hfree : NextSerialFree s)
    (m : ReadMessage) : TrackFits n (takeReadResult m s) := by
  unfold takeReadResult
  split
  · split
    · exact h.of_track
    · next p rest _ => exact trackFits_resolveRead (h.withReads rest) hn (nextSerialFree_of_track hfree) p m
  · exact h

theorem trackFits_readerTake {n : Nat} {s : State} (h : TrackFits n s) (hn : n < 256) (hfree : NextSerialFree s) (c : Byte) :
    TrackFits n (readerTake c s) := by
  have hresult (m : ReadMessage) {u : State} (hu : u.track = s.track) : TrackFits n (takeReadResult m u) :=
    trackFits_takeReadResult (h.of_track hu) hn (nextSerialFree_of_track hfree (by rw [hu]) (by rw [hu])) m
  unfold readerTake
  split
  · split
    · unfold readerEnd
      split
      · exact h
      · unfold takeMessage
        split
        · exact hresult _ (by simp)
        · split
          · exact hresult _ (by simp)
          · exact hresult _ (by simp)
      · exact hresult _ (by simp)
      · exact hresult _ (by simp)
    · split
      · exact h
      · exact h.of_track
  · exact h

theorem trackFits_makeReadRoom {n : Nat} {s : State} (h : TrackFits n s) (hn : n < 256) (hfree : NextSerialFree s) :
    TrackFits n (makeReadRoom s) := by
  unfold makeReadRoom
  split
  · exact h
  · split
    · next p rest _ _ =>
      exact (trackFits_resolveRead (h.withReads rest) hn (nextSerialFree_of_track hfree) p .noRead).of_track
    · exact h

/-! #### The platform -/

/-- A PLATFORM_IN puts one more entry ON_PLATFORM (R50 to R52, R54). -/
theorem trackFits_trackPlatformIn {n : Nat} {s : State} (h : TrackFits n s) (hn : n < 256) (hfree : NextSerialFree s) :
    TrackFits (n + 1) (trackPlatformIn s) := by
  have hcreate {e : Entry} (hserial : e.serial = (makeRoom s).track.nextSerial) (hst : e.stage = .onPlatform) {t : State}
      (ht : t.track.entries = (createEntry e (makeRoom s)).track.entries)
      (hnext : t.track.nextSerial = nextNumber (makeRoom s).track.nextSerial) : TrackFits (n + 1) t := by
    obtain ⟨hfits, hfree', hroom⟩ := h.room hn hfree
    have hcreated := hfits.create hfree' hroom hserial
    rw [hst] at hcreated
    exact hcreated.of_kept ⟨by rw [places, places, ht], hnext⟩
  unfold trackPlatformIn
  split
  · next e he =>
    exact h.move (st := .read) (e := { e with stage := .onPlatform }) (find_places he) rfl (Nat.le_succ 2)
      fun q _ hq => Nat.le_of_lt_succ hq
  · next hread =>
    split
    · unfold bindEarly
      split
      · next e he =>
        refine (h.move (st := .transit) (e := { e with stage := .onPlatform, attribution := some .positional, readOpen := true })
          (find_places he) rfl (by simp [Stage.rank]) fun q hq hrank => ?_).withReads _
        obtain ⟨x, hx, rfl⟩ := List.mem_map.mp hq
        have hnot : x.stage ≠ .read := by simpa using List.find?_eq_none.mp hread x hx
        rw [Entry.place_stage] at hrank ⊢
        revert hnot hrank
        cases x.stage <;> simp [Stage.rank]
      · exact hcreate (e := { blankEntry .untracked .onPlatform (makeRoom s) with
          attribution := some .positional, readOpen := true }) rfl rfl rfl rfl
    · exact hcreate (e := { blankEntry .untracked .onPlatform (makeRoom s) with read := some .noRead }) rfl rfl rfl rfl

/-- A PLATFORM_OUT takes the oldest entry off the platform (R54). -/
theorem trackFits_trackPlatformOut {n : Nat} {s : State} (h : TrackFits (n + 1) s) (w : WeighResult) :
    TrackFits n (trackPlatformOut w s) := by
  unfold trackPlatformOut
  split
  · next hnone =>
    have hcount := h.legal.weighings
    rw [List.countP_eq_zero.mpr] at hcount
    · omega
    · simpa [oldestOf, places] using hnone
  · next e he =>
    have hmoved : TrackFits n (setEntry (weighedEntry s w e) s) :=
      h.move (st := .onPlatform) (e := weighedEntry s w e) (find_places he) rfl (Nat.le_succ 1) fun q _ hq => Nat.le_of_lt_succ hq
    exact hmoved.of_kept (.decideDue (standsIn_setEntry (weighedEntry s w e) s))

/-! #### The reject station -/

theorem trackKept_settleAtEye {e : Entry} {s : State} (h : StandsIn e.serial e.stage s) : TrackKept s (settleAtEye e s) := by
  unfold settleAtEye
  split
  · exact .decide _ h
  · split
    · unfold forceEntry
      have hrecount : TrackKept s (recountLot e .retiring (recountLot e .active s)) := .of_track
      refine hrecount.trans (.set (e := { e with decision := some .reject, reasons := e.reasons ||| Reason.faultStop.bit }) ?_)
      unfold StandsIn
      rw [hrecount.1]
      exact h
    · exact .of_track rfl

/-- The oldest WEIGHED entry goes to PAST_REJECT, decided or forced on the way (R97 to R99). -/
theorem trackFits_takeAtEye {n : Nat} {e : Entry} {s : State} (h : TrackFits n s) (he : oldestOf .weighed s = some e) :
    TrackFits n (takeAtEye e s) := by
  obtain ⟨hmem, -⟩ := mem_of_oldestOf he
  have hkept : TrackKept s (settleAtEye e s) := trackKept_settleAtEye (h.standsIn hmem)
  have hfits := h.of_kept hkept
  have hold : (places (settleAtEye e s)).find? (fun q => decide (q.stage = .weighed)) = some e.place := by
    rw [hkept.1]; exact find_places he
  unfold takeAtEye
  dsimp only
  split
  · exact hfits
  · next e1 he1 =>
    have hserial : e1.serial = e.serial := by simpa using List.find?_some he1
    have hpassed (d : Option Nat) {u : State} (hu : u.track = (settleAtEye e s).track) :
        TrackFits n (setEntry { e1 with stage := .pastReject, deadline := d } u) :=
      (hfits.of_track hu).move (st := .weighed) (e := { e1 with stage := .pastReject, deadline := d })
        (by rw [places_of_track hu]; exact hold) hserial (Nat.le_succ 0) fun q _ hq => Nat.le_of_lt_succ hq
    unfold passEye
    dsimp only
    split
    · exact hpassed _ (by simp)
    · exact hpassed _ rfl

theorem mem_of_oldestOf_ne {st : Stage} {e : Entry} {s : State} (h : oldestOf st s = some e) (hst : st ≠ .onPlatform) :
    e ∈ s.track.entries ∧ e.stage ≠ .onPlatform := by
  obtain ⟨hmem, rfl⟩ := mem_of_oldestOf h
  exact ⟨hmem, hst⟩

theorem trackFits_settleDeadline {n : Nat} {e : Entry} {s : State} (h : TrackFits n s) (he : e ∈ s.track.entries)
    (hst : e.stage ≠ .onPlatform) : TrackFits n (settleDeadline e s) := by
  unfold settleDeadline
  split
  · exact h.remove he hst .rejected
  · refine TrackFits.remove (s := raiseEvent ..) (h.of_track (by simp)) (by simpa using he) hst .missing

/-! #### The filler link -/

theorem trackKept_swap (b : Gen) (s : State) : TrackKept s (swap b s) := by
  have htrack : (swap b s).track = (markRetiring s).track := by simp [swap]; rfl
  refine ⟨?_, by rw [htrack]; rfl⟩
  rw [places_of_track htrack, places, markRetiring_entries, List.map_map]
  rfl

theorem trackKept_takeAck (g : Gen) (res : AckResult) (s : State) : TrackKept s (takeAck g res s) := by
  have hserve (m : Message) : TrackKept s (serve m res s) := by
    unfold serve
    dsimp only
    split
    · have hswapped := trackKept_swap m.generation
        { linkUpEvent s.dose.link m.generation res.code (serveValues m s) with
          dose := { (linkUpEvent s.dose.link m.generation res.code (serveValues m s)).dose with changeover := none } }
      exact (TrackKept.of_track (by simp)).trans (hswapped.trans .of_track)
    · exact .of_track
  unfold takeAck
  split
  · exact .of_track
  · split
    · split
      · exact .of_track
      · exact hserve _
    · exact .of_track

theorem trackFits_takeDischarge {n : Nat} {s : State} (h : TrackFits n s) (hfree : NextSerialFree s) (valve : Byte) (g : Gen) :
    TrackFits n (takeDischarge valve g s) := by
  have hcreate {u : State} (hu : TrackFits n u) (hfree' : NextSerialFree u) (hroom : u.track.entries.length < 256) :
      TrackFits n (trackDischarge valve g u) :=
    (hu.create (e := dischargeEntry valve g u) hfree' hroom rfl).of_track (by simp [trackDischarge])
  unfold takeDischarge
  split
  · split
    · next v hv =>
      obtain ⟨hmem, hst⟩ := mem_of_oldestOf_ne hv (by decide)
      refine hcreate ((h.remove hmem hst .dropped).of_track) (nextSerialFree_of_track (nextSerialFree_remove hfree v .dropped)) ?_
      have hshorter := length_removeWithDrain hmem .dropped
      have hbounded : s.track.entries.length ≤ 256 := by simpa [places] using h.legal.bounded
      have hpos := List.length_pos_of_mem hmem
      simp only [raiseEvent_frame]
      omega
    · exact h.of_track
  · next hroom => exact hcreate h hfree (by simpa [trackFull] using hroom)

theorem trackFits_fillerTake {n : Nat} {s : State} (h : TrackFits n s) (hfree : NextSerialFree s) (b : Byte) :
    TrackFits n (fillerTake b s) := by
  have hsettle (f : Frame) (p : FillerPort) : TrackFits n (settleFrame f { s with filler := p }) := by
    unfold settleFrame
    split
    · exact h.of_track
    · split
      · exact trackFits_takeDischarge (s := { s with filler := p }) ⟨h.legal, h.next⟩ hfree ..
      · exact ⟨h.legal, h.next⟩
    · split
      · exact TrackFits.of_kept (s := { s with filler := p }) ⟨h.legal, h.next⟩ (trackKept_takeAck ..)
      · exact ⟨h.legal, h.next⟩
  unfold fillerTake
  dsimp only
  split
  · split
    · split <;> exact h.of_track
    · exact h.of_track
    · exact h.of_track
    · split <;> exact h.of_track
    · exact hsettle ..
  · exact h

end Sys2Proof.Machine

namespace Sys2Proof.Machine

/-! PROOFS. The platform list under the operations that end averagings and change the part state: none of them touches it, so one
entry ON_PLATFORM stands for each open weighing after every step (R54). -/

@[simp] theorem changePart_platform (new : PartState) (why : ChangeReason) (s : State) :
    (changePart new why s).weigh.platform = s.weigh.platform := by rw [changePart_weigh]

@[simp] theorem endZeroSet_platform (o : Outcome) (detail : Word) (s : State) :
    (endZeroSet o detail s).weigh.platform = s.weigh.platform := by rw [endZeroSet_weigh]

@[simp] theorem endCalAveraging_platform (o : Outcome) (detail : Word) (s : State) :
    (endCalAveraging o detail s).weigh.platform = s.weigh.platform := by rw [endCalAveraging_weigh]

@[simp] theorem handCause_platform (c : Cause) (s : State) : (handCause c s).weigh.platform = s.weigh.platform :=
  (handCause_weigh c s).1

@[simp] theorem silentCheck_platform (s : State) : (silentCheck s).weigh.platform = s.weigh.platform := (silentCheck_weigh s).1

@[simp] theorem readinessTest_platform (s : State) : (readinessTest s).weigh.platform = s.weigh.platform := by
  unfold readinessTest
  dsimp only
  repeat' split
  all_goals simp

@[simp] theorem zeroTrackSample_platform (x : Sample) (s : State) :
    (zeroTrackSample x s).weigh.platform = s.weigh.platform := by rw [zeroTrackSample_weigh]

@[simp] theorem finishZeroSet_platform (slot : Slot) (o : Outcome) (detail : Int) (s : State) :
    (finishZeroSet slot o detail s).weigh.platform = s.weigh.platform := by simp [finishZeroSet]

@[simp] theorem zeroSetSample_platform (x : Sample) (s : State) : (zeroSetSample x s).weigh.platform = s.weigh.platform := by
  unfold zeroSetSample completeZeroSet
  dsimp only
  repeat' split
  all_goals simp

@[simp] theorem setCalState_platform (c : CalState) (s : State) : (setCalState c s).weigh.platform = s.weigh.platform := by
  simp [setCalState]

@[simp] theorem setCalZero_platform (mean : Int) (limit : Nat) (s : State) :
    (setCalZero mean limit s).weigh.platform = s.weigh.platform := by
  unfold setCalZero
  dsimp only
  split <;> simp

@[simp] theorem setCalSpan_platform (f : Nat) (s : State) : (setCalSpan f s).weigh.platform = s.weigh.platform := by
  unfold setCalSpan
  dsimp only
  split <;> simp

@[simp] theorem calSample_platform (x : Sample) (s : State) : (calSample x s).weigh.platform = s.weigh.platform := by
  unfold calSample completeCal
  dsimp only
  repeat' split
  all_goals simp

@[simp] theorem jam_platform (loaded : Nat) (w : Weighing) (s : State) :
    (jam loaded w s).weigh.platform = s.weigh.platform := by simp [jam]

@[simp] theorem takeRecord_platform (bytes : List Byte) (s : State) :
    (takeRecord bytes s).weigh.platform = s.weigh.platform := rfl

/-! #### The commands -/

/-- A command that touches neither the track nor the platform list. -/
theorem TrackLegal.of_same {s t : State} (h : TrackLegal s) (ht : t.track = s.track := by simp)
    (hp : t.weigh.platform = s.weigh.platform := by simp) : TrackLegal t := by
  rw [trackLegal_iff] at h ⊢
  rw [hp]
  exact h.of_track ht

/-- A command that touches the track alone. -/
theorem trackLegal_of_fits {s t : State} (h : TrackFits s.weigh.platform.length t)
    (hp : t.weigh.platform.length = s.weigh.platform.length := by simp) : TrackLegal t := by
  rwa [trackLegal_iff, hp]

/-- The emptied track of a flush or a RESTART: no entry, no open weighing (R9, R60). -/
theorem trackLegal_of_empty {s t : State} (h : TrackLegal s) (he : t.track.entries = []) (hp : t.weigh.platform = [])
    (hn : t.track.nextSerial = s.track.nextSerial) : TrackLegal t := by
  have hnext := (trackLegal_iff.mp h).next
  unfold TrackLegal
  rw [he, hp, hn]
  exact ⟨by simp, by simp, by simp, by simp, hnext, rfl⟩

theorem trackLegal_orderTrackFlush (slot : Slot) {s : State} (h : TrackLegal s) : TrackLegal (orderTrackFlush slot s) := by
  have htrack := (flushEntries_fields s).1
  unfold orderTrackFlush
  dsimp only
  refine trackLegal_of_empty h ?_ ?_ ?_
  all_goals simp [apply_ite State.track, apply_ite State.weigh, htrack, emptyPlatform]

theorem trackLegal_handOver (k : OrderKind) (slot : Slot) {s : State} (h : TrackLegal s) : TrackLegal (handOver k slot s) := by
  cases k with
  | trackFlush => exact trackLegal_orderTrackFlush slot h
  | changeover =>
    simp only [handOver, orderChangeover]
    repeat' split
    · exact h.of_same
    · exact h.of_same
    · exact h.of_same (by simp) (by simp [changeoverInConfig])
    · exact h.of_same
  | zeroSet =>
    simp only [handOver, orderZeroSet]
    split
    · exact h.of_same
    · exact h.of_same
  | calZero =>
    simp only [handOver, orderCalZero]
    split
    · exact h.of_same (by simp) (by simp [beginCalAveraging])
    · exact h.of_same
  | calSpan => exact h.of_same (by simp [handOver]) (by simp [handOver, orderCalSpan, beginCalAveraging])
  | faultClear => exact h.of_same (by simp [handOver]) (by simp [handOver, orderFaultClear])
  | lotClose | valveLock | valveRelease | valveTrim | loopSet | snapshot =>
    exact h.of_same (by simp [handOver]) (by simp [handOver])

theorem trackLegal_scanSlots {s : State} (h : TrackLegal s) : TrackLegal (scanSlots s) := by
  have hexamine (slot : Slot) {u : State} (hu : TrackLegal u) : TrackLegal (examineSlot slot u) := by
    unfold examineSlot takeOrder
    repeat' split
    · exact hu.of_same
    · exact hu.of_same
    · exact trackLegal_handOver _ slot hu
    · exact hu
  unfold scanSlots
  induction scanOrder generalizing s with
  | nil => exact h
  | cons slot l ih => exact ih (hexamine slot h)

/-- RESTART empties the track and the platform (R9, R61, R176). -/
theorem trackLegal_restartPart {s : State} (h : TrackLegal s) : TrackLegal (restartPart s) := by
  unfold restartPart
  dsimp only
  have htrack : (restartBlocks s).track = { s.track with entries := [], reads := [] } := by
    simp [restartBlocks, setReads, (flushEntries_fields _).1]
  refine trackLegal_of_empty h ?_ ?_ ?_
  · simp [htrack]
  · simp [restartBlocks, weighAtRestart]
  · simp [htrack]

theorem trackLegal_hostWrite (addr value : Word) {s : State} (h : TrackLegal s) : TrackLegal (hostWrite addr value s) := by
  unfold hostWrite writeControl
  repeat' split
  · exact h
  · exact h.of_same
  · exact trackLegal_restartPart h
  · exact h
  · exact h.of_same
  · exact h.of_same
  · exact h

theorem trackLegal_platformInArrival {s t : State} (h : TrackLegal s) (hfree : NextSerialFree s)
    (ht : exec .platformInArrival s = .next t) : TrackLegal t := by
  cases ht
  split
  · split
    · exact h.of_same
    · next hroom =>
      generalize hu : endCalAveraging .disturbed 0 (endZeroSet .disturbed 0 (openPlatform s)) = u
      have htrack : u.track = s.track := by simp [← hu]
      have hlength : u.weigh.platform.length = s.weigh.platform.length + 1 := by
        simp [← hu, openPlatform_weigh, openWeighing_length]
      have hweigh : (trackPlatformIn u).weigh = u.weigh := by simp
      rw [trackLegal_iff, hweigh, hlength]
      exact trackFits_trackPlatformIn ((trackLegal_iff.mp h).of_track htrack) (by omega)
        (nextSerialFree_of_track hfree (by rw [htrack]) (by rw [htrack]))
  · split
    · exact h.of_same
    · exact h

theorem trackLegal_platformOutArrival {s t : State} (h : TrackLegal s) (ht : exec .platformOutArrival s = .next t) :
    TrackLegal t := by
  cases ht
  split
  · split
    · exact h.of_same
    · next w rest hp =>
      have hfits : TrackFits (rest.length + 1) (closeOldest rest s) := by
        have hs := trackLegal_iff.mp h
        rw [hp, List.length_cons] at hs
        exact hs.of_track
      have hlength : (closeOldest rest s).weigh.platform.length = rest.length := by
        cases rest <;> simp [closeOldest, emptyPlatform]
      have hweigh : (trackPlatformOut (resultNow w s) (closeOldest rest s)).weigh = (closeOldest rest s).weigh := by simp
      rw [trackLegal_iff, hweigh, hlength]
      exact trackFits_trackPlatformOut hfits _
  · exact h

theorem trackLegal_passUnit {s : State} (h : TrackLegal s) : TrackLegal (passUnit s) := by
  refine trackLegal_of_fits ((trackLegal_iff.mp h).of_kept ⟨?_, ?_⟩) rfl
  · simp only [places, passUnit, tickTrack]
    split
    · simp [Function.comp_def, Entry.place]
    · rfl
  · simp [passUnit, tickTrack, apply_ite Track.nextSerial]

theorem trackLegal_reset : TrackLegal State.reset := by
  unfold TrackLegal
  decide

/-- Every command keeps the conditions, where few weighings are open and the next serial is free. -/
theorem trackLegal_exec (c : Instr) {s t : State} (h : TrackLegal s) (hfree : NextSerialFree s)
    (hfew : s.weigh.platform.length ≤ 4) (ht : exec c s = .next t) : TrackLegal t := by
  have hfits := trackLegal_iff.mp h
  have hn : s.weigh.platform.length < 256 := by omega
  cases c with
  | fullReset => cases ht; exact trackLegal_reset.of_same rfl rfl
  | platformInArrival => exact trackLegal_platformInArrival h hfree ht
  | platformOutArrival => exact trackLegal_platformOutArrival h ht
  | restart value => cases ht; exact trackLegal_hostWrite _ _ h
  | noticeClear value => cases ht; exact trackLegal_hostWrite _ _ h
  | noticeMaskWrite value => cases ht; exact trackLegal_hostWrite _ _ h
  | registerWriteIgnored addr value => cases ht; exact trackLegal_hostWrite _ _ h
  | hostMemoryWrite addr value => cases ht; exact trackLegal_hostWrite _ _ h
  | readerMessage => cases ht; exact trackLegal_of_fits (trackFits_readerTake hfits hn hfree _)
  | readerOverlong c => cases ht; exact trackLegal_of_fits (trackFits_readerTake hfits hn hfree _)
  | readerCharacter c => cases ht; exact trackLegal_of_fits (trackFits_readerTake hfits hn hfree _)
  | dischargeFrame b => cases ht; exact trackLegal_of_fits (trackFits_fillerTake hfits hfree _)
  | doseAckFrame b => cases ht; exact trackLegal_of_fits (trackFits_fillerTake hfits hfree _)
  | fillerBufferOverrun b => cases ht; exact trackLegal_of_fits (trackFits_fillerTake hfits hfree _)
  | fillerCharacter b => cases ht; exact trackLegal_of_fits (trackFits_fillerTake hfits hfree _)
  | badFrameCompleted b => cases ht; exact trackLegal_of_fits (trackFits_fillerTake hfits hfree _)
  | fillerErroredCharacter c =>
    cases ht
    unfold fillerReceive
    split
    · exact h.of_same
    · exact trackLegal_of_fits (trackFits_fillerTake hfits hfree _)
  | readerEyeArrival =>
    cases ht
    split
    · exact trackLegal_of_fits ((trackFits_makeReadRoom hfits hn hfree).withReads _)
    · exact h
  | readDeadlineExpiry =>
    cases ht
    split
    · split
      · exact h
      · next p _ =>
        exact trackLegal_of_fits (trackFits_resolveRead (hfits.withReads (s.track.reads.eraseP PendingRead.expired)) hn
          (nextSerialFree_of_track hfree) p .noRead)
    · exact h
  | rejectEyeArrival =>
    cases ht
    split
    · split
      · exact h.of_same
      · next e he => exact trackLegal_of_fits (trackFits_takeAtEye hfits he)
    · exact h
  | confirmEyeArrival =>
    cases ht
    split
    · split
      · exact h.of_same
      · next e he =>
        obtain ⟨hmem, hst⟩ := mem_of_oldestOf_ne he (by decide)
        split
        · exact trackLegal_of_fits ((hfits.remove hmem hst .rejectFailed).of_track (by simp [rejectFailed]))
            (by simp [rejectFailed])
        · exact trackLegal_of_fits (hfits.remove hmem hst .passed)
    · exact h
  | pastRejectDeadlineExpiry =>
    cases ht
    split
    · split
      · exact h
      · next e he =>
        have hst : e.stage = .pastReject ∧ e.deadline = some 0 := by simpa [Entry.expired] using List.find?_some he
        exact trackLegal_of_fits (trackFits_settleDeadline hfits (List.mem_of_find?_eq_some he) (by simp [hst.1]))
    · exact h
  | orderScan switchOn =>
    cases ht
    split
    · exact trackLegal_scanSlots (h.of_same rfl rfl)
    · exact h.of_same
  | lineRunFall =>
    cases ht
    have hmarked : TrackLegal (interruptWeighings (setLineRun false s)) :=
      trackLegal_of_fits (s := s) (hfits.of_track) (by simp [interruptWeighings])
    split
    · exact hmarked.of_same
    · exact hmarked
  | sampleArrival count =>
    cases ht
    split
    · exact h.of_same
    · exact h
  | jamTimerExpiry | converterWatchExpiry | storeWriteCompared readBack | storeTimerExpiry | storeReadEnd bytes
  | clearingComplete | lineRunRise | calSwitchOff | readerFramingError brk | refusalHoldoffExpiry | timeWrap | gapTimerExpiry
  | transmitFrameEnd | fillerIndexArrival | ackTimerExpiry | pulseTimerExpiry | lotMinuteStep | breakEnd link =>
    cases ht
    repeat' split
    all_goals exact h.of_same

/-- Settles O56: a step is a unit of time, which moves no entry, or a command on the state without it. -/
theorem everyStepKeepsTheCanTrack : Obligations.EveryStepKeepsTheCanTrack := by
  intro s t h hfree hfew ht
  unfold step at ht
  split at ht
  · cases ht
    unfold tick
    split
    · exact h.of_same
    · exact trackLegal_passUnit h
  · next c rest _ => exact trackLegal_exec c (s := { s with pending := rest }) h hfree hfew ht

end Sys2Proof.Machine

namespace Sys2Proof.Machine

/-! PROOFS. The laws of the track that its statements share: where a new entry stands, a removal with nothing retiring, room
(R37, R42, R59). -/

theorem awake_of_takesCans {s : State} (h : s.takesCans = true) : s.awake = true := by
  rw [awake_iff]
  intro hc
  simp [State.takesCans, hc] at h

/-- A new entry stands before the first entry of a later stage; the test may be spelled in any way. -/
theorem insertByStage_of_rank {p : Entry → Bool} {e : Entry} (hp : ∀ x, p x = decide (x.stage.rank ≤ e.stage.rank))
    (l : List Entry) : insertByStage e l = l.takeWhile p ++ e :: l.dropWhile p := by
  rw [insertByStage_eq, ← funext hp]

/-- A TRANSIT entry is appended at the end of the track (R37). -/
theorem insertByStage_transit {e : Entry} (h : e.stage = .transit) (l : List Entry) : insertByStage e l = l ++ [e] := by
  have hall : ∀ x : Entry, x.stage.rank ≤ e.stage.rank := fun x => by
    rw [h]
    cases x.stage <;> decide
  rw [insertByStage_eq, List.takeWhile_eq_self_iff.mpr (by simpa using fun x _ => hall x),
    List.dropWhile_eq_nil_iff.mpr (by simpa using fun x _ => hall x)]

/-- A READ entry stands before the first TRANSIT entry (R37). -/
theorem insertByStage_read {e : Entry} (h : e.stage = .read) (l : List Entry) : insertByStage e l =
    l.takeWhile (fun x => decide (x.stage ≠ .transit)) ++ e :: l.dropWhile (fun x => decide (x.stage ≠ .transit)) :=
  insertByStage_of_rank (fun x => by rw [h]; cases x.stage <;> rfl) l

/-- An ON_PLATFORM entry stands before the first READ or TRANSIT entry (R37). -/
theorem insertByStage_onPlatform {e : Entry} (h : e.stage = .onPlatform) (l : List Entry) : insertByStage e l =
    l.takeWhile (fun x => decide (x.stage ≠ .read ∧ x.stage ≠ .transit)) ++ e ::
      l.dropWhile (fun x => decide (x.stage ≠ .read ∧ x.stage ≠ .transit)) :=
  insertByStage_of_rank (fun x => by rw [h]; cases x.stage <;> rfl) l

/-- With nothing retiring a removal is the removal alone (R59, R158). -/
theorem removeWithDrain_of_no_retiring {s : State} (h : s.recipes.retiring = none) (e : Entry) (d : Disposition) :
    removeWithDrain e d s = removeEntry e d s := by
  simp [removeWithDrain, drainCheck, h]

end Sys2Proof.Machine

namespace Sys2Proof.Machine

/-! PROOFS. A good DISCHARGE: its entry, its event, and what it does in a full track (R40, R41, R83, R84). -/

/-- The two payload bytes of a generation, joined most significant first (R77). -/
theorem genOf_eq_append (hi lo : Byte) : genOf hi lo = hi ++ lo := by
  apply BitVec.eq_of_toNat_eq
  rw [genOf, BitVec.toNat_ofNat, BitVec.toNat_append, ← Nat.shiftLeft_add_eq_or_of_lt lo.isLt, Nat.shiftLeft_eq]
  omega

/-- The frame under way finished, ahead of what becomes of it (R81). -/
def dropFrame (s : State) : State := { s with filler := s.filler.dropped }

@[simp] theorem dropFrame_fields (s : State) :
    (dropFrame s).pins = s.pins ∧ (dropFrame s).part = s.part ∧ (dropFrame s).weigh = s.weigh ∧ (dropFrame s).cal = s.cal ∧
    (dropFrame s).track = s.track ∧ (dropFrame s).reader = s.reader ∧ (dropFrame s).filler = s.filler.dropped ∧
    (dropFrame s).reject = s.reject ∧ (dropFrame s).valves = s.valves ∧ (dropFrame s).dose = s.dose ∧
    (dropFrame s).recipes = s.recipes ∧ (dropFrame s).orders = s.orders ∧ (dropFrame s).exch = s.exch ∧
    (dropFrame s).pending = s.pending := by simp [dropFrame]

/-- A check byte that completes a good DISCHARGE hands it to the Tracking Unit (R81, R83). -/
theorem exec_dischargeFrame {valve hi lo check : Byte} {s : State} (htakes : s.takesCans = true)
    (hlisten : s.filler.receiver ≠ .heldLow) (hasm : s.filler.asm = .check) (hkind : s.filler.kind = 0x11#8)
    (hlen : s.filler.len = 3) (hpayload : s.filler.payload = [valve, hi, lo]) (hsum : s.filler.sum + check = 0) :
    exec (.dischargeFrame check) s =
      .next (takeDischarge valve (hi ++ lo) (dropFrame s)) := by
  have hlistens : fillerListens s = true := by simp [fillerListens, awake_of_takesCans htakes, hlisten]
  have hjudged : judge (s.filler.completed check) = .discharge valve (hi ++ lo) := by
    rw [← genOf_eq_append]
    simp [judge, FillerPort.completed, hkind, hlen, hpayload, hsum, kindDischarge, Frame.byteAt]
  have htakes' : ({ s with filler := s.filler.dropped } : State).takesCans = true := htakes
  simp only [exec, execDischargeFrame, fillerTake, hlistens, if_true, hasm, settleFrame, hjudged, htakes', dropFrame]

/-- What a DISCHARGE reads of the state. -/
theorem dischargeEntry_congr {s t : State} (hr : t.recipes = s.recipes) (hd : t.dose = s.dose)
    (hn : t.track.nextSerial = s.track.nextSerial) (htag : t.exch.timeTag = s.exch.timeTag) (valve : Byte) (g : Gen) :
    dischargeEntry valve g t = dischargeEntry valve g s := by
  have hrecipe (ref : RecipeRef) : recipeOf t ref = recipeOf s ref := by cases ref <;> simp [recipeOf, activeRecipe, hr]
  simp only [dischargeEntry, blankEntry, dischargeRecipe, genKnownAt, hrecipe, hr, hd, hn, htag]
  rfl

/-- The recipe of R40: RETIRING for a generation older than the boundary, where a recipe is retiring. -/
theorem dischargeRecipe_eq (g : Gen) (s : State) : dischargeRecipe g s =
    if s.recipes.retiring.isSome = true ∧ ¬(g - s.recipes.boundary).toNat < 32768 then .retiring else .active := by
  simp only [dischargeRecipe, notOlder, Bool.and_eq_true, Bool.not_eq_true', decide_eq_false_iff_not]

/-- A generation is known where the newest one sent is not older and the table is SYNCED (R40). -/
theorem genKnownAt_iff {g : Gen} {s : State} : genKnownAt g s = true ↔ ∃ h, s.dose.served = some h ∧
    ((∃ m, s.dose.inflight = some m ∧ (m.generation - g).toNat < 32768) ∨
      (s.dose.inflight = none ∧ (h - g).toNat < 32768)) := by
  unfold genKnownAt
  cases s.dose.served <;> cases s.dose.inflight <;> simp [notOlder]

/-- A valve byte is bad where it is 0 or above V; a recipe in force has V within the 128 valves (R84). -/
theorem badValve_iff {valve : Byte} {ref : RecipeRef} {s : State}
    (hactive : ∀ r, s.recipes.active = some r → r.valveCount ≤ 128)
    (hretiring : ∀ r, s.recipes.retiring = some r → r.valveCount ≤ 128) (hpresent : s.recipes.active.isSome = true)
    (href : ref = .retiring → s.recipes.retiring.isSome = true) :
    badValve valve (recipeOf s ref) = true ↔ valve = 0 ∨ (recipeOf s ref).valveCount < valve.toNat := by
  have hcount : (recipeOf s ref).valveCount ≤ 128 := by
    cases ref with
    | active =>
      obtain ⟨r, hr⟩ := Option.isSome_iff_exists.mp hpresent
      simpa [recipeOf, activeRecipe, hr] using hactive r hr
    | retiring =>
      obtain ⟨r, hr⟩ := Option.isSome_iff_exists.mp (href rfl)
      simpa [recipeOf, hr] using hretiring r hr
  simp only [badValve, Bool.or_eq_true, decide_eq_true_eq, or_assoc]
  exact or_congr_right (or_iff_left_of_imp fun h => by omega)

theorem dischargeBad_event (valve : Byte) (g : Gen) (ref : RecipeRef) (serial : Nat) (s : State) :
    (dischargeBad valve g ref serial s).exch =
      if badValve valve (recipeOf s ref) then s.exch.event .dischargeBad valve.toNat (g.setWidth 32) (wordOfNat serial)
      else s.exch := by
  unfold dischargeBad
  split
  · rw [wordOfNat_gen]; rfl
  · rfl

/-- The entry appended for a discharge, and what it reports, in the state that the room has been made in. -/
theorem trackDischarge_fields (valve : Byte) (g : Gen) (s : State) :
    (trackDischarge valve g s).track = { s.track with
      entries := s.track.entries ++ [dischargeEntry valve g s], nextSerial := nextNumber s.track.nextSerial } ∧
    (trackDischarge valve g s).exch =
      if badValve valve (recipeOf s (dischargeRecipe g s)) then
        s.exch.event .dischargeBad valve.toNat (g.setWidth 32) (wordOfNat s.track.nextSerial)
      else s.exch := by
  refine ⟨?_, dischargeBad_event ..⟩
  simp only [trackDischarge, dischargeBad_frame, createEntry]
  rw [insertByStage_transit rfl]

/-! The three cases of a discharge by the room in the track (R41). -/

theorem takeDischarge_of_room {s : State} (h : s.track.entries.length < 256) (valve : Byte) (g : Gen) :
    takeDischarge valve g s = trackDischarge valve g s := by simp [takeDischarge, trackFull, h.not_ge]

theorem takeDischarge_untracked {s : State} (hfull : 256 ≤ s.track.entries.length) (hnone : oldestOf .transit s = none)
    (valve : Byte) (g : Gen) : takeDischarge valve g s =
      dischargeBad valve g (dischargeRecipe g s) 0 (raiseEvent .trackFull 2 0 (g.setWidth 32) s) := by
  simp [takeDischarge, trackFull, hfull, hnone, wordOfNat_gen]

theorem takeDischarge_dropping {v : Entry} {s : State} (hfull : 256 ≤ s.track.entries.length)
    (hv : oldestOf .transit s = some v) (hdone : s.recipes.retiring = none) (valve : Byte) (g : Gen) :
    takeDischarge valve g s = trackDischarge valve g
      (raiseEvent .trackFull 1 (wordOfNat v.serial) (g.setWidth 32) (removeEntry v .dropped s)) := by
  simp [takeDischarge, trackFull, hfull, hv, removeWithDrain_of_no_retiring hdone, wordOfNat_gen]

/-- Settles O31: the frame hands the discharge over, and the three cases of a track with room, without and with a TRANSIT
entry to drop each end in `trackDischarge` or in the event alone. -/
theorem aDischargeCreatesAnEntry : Obligations.ADischargeCreatesAnEntry := by
  intro valve hi lo check s htakes hlisten hasm hkind hlen hpayload hsum hactive hretiring hpresent g old ref bad frameEnds made
    reports
  have href : dischargeRecipe g s = ref := dischargeRecipe_eq g s
  have hbad : badValve valve (recipeOf s ref) = true ↔ bad := by
    refine badValve_iff hactive hretiring hpresent fun h => ?_
    by_contra hnone
    exact absurd h (by simp [ref, old, hnone])
  have hmade : made (dischargeEntry valve g s) := by
    refine ⟨rfl, rfl, rfl, rfl, href, rfl, rfl, rfl, rfl, ?_, fun h => ?_, fun h => ?_⟩
    · exact (Option.some_inj).trans genKnownAt_iff
    · simp only [dischargeEntry, href, hbad.mpr h, if_true]
    · simp only [dischargeEntry, href, eq_false_of_ne_true (mt hbad.mp h), Bool.false_eq_true, if_false]
  have hreports {x : Exchange} {serial : Nat} {t : State} (ht : t.exch = if badValve valve (recipeOf s ref) then
      x.event .dischargeBad valve.toNat (g.setWidth 32) (wordOfNat serial) else x) : reports x serial t :=
    ⟨fun h => by rw [ht, if_pos (hbad.mpr h)]; rfl, fun h => by rw [ht, if_neg (mt hbad.mp h)]⟩
  rw [exec_dischargeFrame htakes hlisten hasm hkind hlen hpayload hsum]
  have hsame {x : Exchange} (hx : x.timeTag = s.exch.timeTag) {w : State} (hr : w.recipes = s.recipes)
      (hd : w.dose = s.dose) (hn : w.track.nextSerial = s.track.nextSerial) (he : w.exch = x) :
      (trackDischarge valve g w).track = { w.track with
        entries := w.track.entries ++ [dischargeEntry valve g s], nextSerial := nextNumber s.track.nextSerial } ∧
      reports x s.track.nextSerial (trackDischarge valve g w) := by
    obtain ⟨htrack, hexch⟩ := trackDischarge_fields valve g w
    have href' : dischargeRecipe g w = ref := by rw [← href]; simp only [dischargeRecipe, hr]
    have hrecipe : recipeOf w ref = recipeOf s ref := by cases ref <;> simp only [recipeOf, activeRecipe, hr]
    rw [dischargeEntry_congr hr hd hn (by rw [he, hx]), hn] at htrack
    rw [href', hrecipe, hn, he] at hexch
    exact ⟨htrack, hreports hexch⟩
  refine ⟨fun hroom => ?_, fun hfull hnone => ?_, fun v hfull hv hdone => ?_⟩
  · obtain ⟨htrack, hreported⟩ := hsame (w := dropFrame s) rfl rfl rfl rfl rfl
    rw [takeDischarge_of_room (s := dropFrame s) hroom]
    exact ⟨_, dischargeEntry valve g s, rfl, ⟨by simp; rfl, by simp, .intro⟩, hmade, by rw [htrack]; rfl, by rw [htrack],
      hreported⟩
  · rw [takeDischarge_untracked (s := dropFrame s) hfull hnone]
    refine ⟨_, rfl, ⟨by simp; rfl, by simp, .intro⟩, by simp, hreports ?_⟩
    rw [dischargeBad_event, ← href]
    rfl
  · rw [takeDischarge_dropping (s := dropFrame s) hfull hv hdone]
    obtain ⟨htrack, hreported⟩ := hsame
      (x := (s.exch.logRecord (logWords v .dropped)).event .trackFull 1 (BitVec.ofNat 32 v.serial) (g.setWidth 32))
      (w := raiseEvent .trackFull 1 (wordOfNat v.serial) (g.setWidth 32) (removeEntry v .dropped (dropFrame s)))
      (by simp) (by simp) (by simp) (by simp) rfl
    exact ⟨_, dischargeEntry valve g s, rfl, ⟨by simp; rfl, by simp, .intro⟩, hmade, by rw [htrack]; simp, by rw [htrack],
      hreported⟩

end Sys2Proof.Machine

namespace Sys2Proof.Machine

/-! PROOFS. Making room reads neither the pins, the Weigh Channel, the Reader Port nor the pending reads (R42, R158). -/

/-- The blocks that making room neither reads nor writes, replaced. -/
def setAside (pins : Pins) (weigh : Weigh) (reader : ReaderPort) (reads : List PendingRead) (s : State) : State :=
  { s with pins := pins, weigh := weigh, reader := reader, track := { s.track with reads := reads } }

@[simp] theorem setAside_fields (pins : Pins) (weigh : Weigh) (reader : ReaderPort) (reads : List PendingRead) (s : State) :
    (setAside pins weigh reader reads s).pins = pins ∧ (setAside pins weigh reader reads s).weigh = weigh ∧
    (setAside pins weigh reader reads s).reader = reader ∧
    (setAside pins weigh reader reads s).track = { s.track with reads := reads } ∧
    (setAside pins weigh reader reads s).part = s.part ∧ (setAside pins weigh reader reads s).cal = s.cal ∧
    (setAside pins weigh reader reads s).filler = s.filler ∧ (setAside pins weigh reader reads s).reject = s.reject ∧
    (setAside pins weigh reader reads s).valves = s.valves ∧ (setAside pins weigh reader reads s).dose = s.dose ∧
    (setAside pins weigh reader reads s).recipes = s.recipes ∧ (setAside pins weigh reader reads s).orders = s.orders ∧
    (setAside pins weigh reader reads s).exch = s.exch ∧ (setAside pins weigh reader reads s).pending = s.pending := by
  simp [setAside]

section MakeRoom

variable (pins : Pins) (weigh : Weigh) (reader : ReaderPort) (reads : List PendingRead)

theorem closeRetiringLot_setAside (c : LotCause) (s : State) :
    closeRetiringLot c (setAside pins weigh reader reads s) = setAside pins weigh reader reads (closeRetiringLot c s) := by
  unfold closeRetiringLot
  simp only [setAside_fields]
  cases s.recipes.retiringLot <;> rfl

theorem finishHeldChangeover_setAside (o : Outcome) (detail : Word) (s : State) :
    finishHeldChangeover o detail (setAside pins weigh reader reads s) =
      setAside pins weigh reader reads (finishHeldChangeover o detail s) := by
  unfold finishHeldChangeover
  simp only [setAside_fields]
  cases s.recipes.held <;> rfl

theorem endDrain_setAside (c : LotCause) (how : Nat) (s : State) :
    endDrain c how (setAside pins weigh reader reads s) = setAside pins weigh reader reads (endDrain c how s) := by
  have hfinish (u : State) := finishHeldChangeover_setAside pins weigh reader reads .done (boundaryWord s)
    { u with recipes := { u.recipes with retiring := none } }
  unfold endDrain
  rw [closeRetiringLot_setAside]
  exact congrArg (raiseEvent .retiringDrained how (boundaryWord s) (wordOfNat (retiringLotIndex s))) (hfinish _)

theorem removeWithDrain_setAside (e : Entry) (d : Disposition) (s : State) :
    removeWithDrain e d (setAside pins weigh reader reads s) = setAside pins weigh reader reads (removeWithDrain e d s) := by
  have hremoved : removeEntry e d (setAside pins weigh reader reads s) =
      setAside pins weigh reader reads (removeEntry e d s) := rfl
  unfold removeWithDrain drainCheck
  rw [hremoved, endDrain_setAside]
  exact (apply_ite (setAside pins weigh reader reads) _ _ _).symm

theorem makeRoom_setAside (s : State) :
    makeRoom (setAside pins weigh reader reads s) = setAside pins weigh reader reads (makeRoom s) := by
  have hfull : trackFull (setAside pins weigh reader reads s) = trackFull s := rfl
  have hvictim : roomVictim (setAside pins weigh reader reads s) = roomVictim s := rfl
  unfold makeRoom
  rw [hfull, hvictim]
  split
  · cases roomVictim s with
    | none => rfl
    | some v =>
      dsimp only
      rw [removeWithDrain_setAside]
      rfl
  · rfl

end MakeRoom

theorem endDrain_active (c : LotCause) (how : Nat) (s : State) : (endDrain c how s).recipes.active = s.recipes.active := by
  have hclosed : (closeRetiringLot c s).recipes.active = s.recipes.active := by
    unfold closeRetiringLot
    split <;> rfl
  have hfinished (o : Outcome) (detail : Word) (u : State) :
      (finishHeldChangeover o detail u).recipes.active = u.recipes.active := by
    unfold finishHeldChangeover
    split <;> rfl
  exact (hfinished ..).trans hclosed

/-- Making room keeps the recipe in force: a drain takes only the retiring one (R158). -/
@[simp] theorem makeRoom_active (s : State) : (makeRoom s).recipes.active = s.recipes.active := by
  have hremoved (v : Entry) : (removeWithDrain v .dropped s).recipes.active = s.recipes.active := by
    unfold removeWithDrain drainCheck
    split
    · exact endDrain_active ..
    · rfl
  unfold makeRoom
  repeat' split
  · rfl
  · exact hremoved _
  · rfl

end Sys2Proof.Machine

namespace Sys2Proof.Machine

/-! PROOFS. A PLATFORM_IN without a READ entry: the entry that it binds or creates, and the room made for it (R42, R51, R52). -/

theorem bindOldestRead_split {before after : List PendingRead} {p : PendingRead} (serial : Nat)
    (hbefore : ∀ q ∈ before, q.bound ≠ none) (hp : p.bound = none) : bindOldestRead serial (before ++ p :: after) =
      before ++ { p with bound := some serial } :: after := by
  induction before with
  | nil => simp [bindOldestRead, hp]
  | cons q l ih =>
    have hq : q.bound.isNone = false := by simpa [Option.isSome_iff_ne_none] using hbefore q (by simp)
    simp only [List.cons_append, bindOldestRead, hq, Bool.false_eq_true, if_false]
    rw [ih fun x hx => hbefore x (by simp [hx])]

theorem unboundWaits_iff {s : State} : unboundWaits s = true ↔ ∃ p ∈ s.track.reads, p.bound = none := by
  simp [unboundWaits]

/-- An accepted PLATFORM_IN with no averaging in flight changes the Weigh Channel and hands the arrival to the track (R5, R50). -/
theorem platformInArrival_idle {s : State} (htakes : s.takesCans = true) (hroom : s.weigh.platform.length < 4)
    (hzero : s.weigh.zeroSet = none) (hcal : s.cal.averaging = none) : ∃ weigh : Weigh,
      weigh.platform.length = s.weigh.platform.length + 1 ∧
      exec .platformInArrival s = .next (trackPlatformIn (setAside s.pins weigh s.reader s.track.reads s)) := by
  refine ⟨(openPlatform s).weigh, by simp [openPlatform_weigh, openWeighing_length], ?_⟩
  have hweigh := openPlatform_weigh s
  rw [platformInArrival_accepted htakes hroom, endZeroSet_of_none _ _ (by rw [hweigh]; exact hzero),
    endCalAveraging_of_none _ _ (by simpa using hcal)]
  rfl

/-! The two entries of early binding (R51), and the one of a can never read (R52). -/

theorem bindEarly_of_transit {e : Entry} {s : State} (h : oldestOf .transit s = some e) : bindEarly s =
    setReads (bindOldestRead e.serial s.track.reads)
      (setEntry { e with stage := .onPlatform, attribution := some .positional, readOpen := true } s) := by
  simp only [bindEarly, h]

/-- A can created on the platform: UNTRACKED_CAN, and the pending reads as they are left. -/
def createdOnPlatform (n : Entry) (why : Nat) (reads : List PendingRead) (s : State) : State :=
  raiseEvent .untrackedCan why (wordOfNat s.track.nextSerial) 0 (setReads reads (createEntry n s))

theorem bindEarly_of_none {s : State} (h : oldestOf .transit s = none) : bindEarly s =
    createdOnPlatform { blankEntry .untracked .onPlatform (makeRoom s) with
        attribution := some .positional, readOpen := true } 2
      (bindOldestRead (makeRoom s).track.nextSerial (makeRoom s).track.reads) (makeRoom s) := by
  simp only [bindEarly, h, createdOnPlatform]

theorem createAtPlatform_eq (s : State) : createAtPlatform s =
    createdOnPlatform { blankEntry .untracked .onPlatform (makeRoom s) with read := some .noRead } 1
      (makeRoom s).track.reads (makeRoom s) := rfl

theorem createdOnPlatform_track {n : Entry} (hst : n.stage = .onPlatform) (why : Nat) (reads : List PendingRead) (s : State) :
    (createdOnPlatform n why reads s).track = {
      entries := s.track.entries.takeWhile (fun x => decide (x.stage ≠ .read ∧ x.stage ≠ .transit)) ++ n ::
        s.track.entries.dropWhile (fun x => decide (x.stage ≠ .read ∧ x.stage ≠ .transit))
      reads := reads, nextSerial := nextNumber s.track.nextSerial } := by
  rw [← insertByStage_onPlatform hst]
  rfl

@[simp] theorem createdOnPlatform_frame (n : Entry) (why : Nat) (reads : List PendingRead) (s : State) :
    (createdOnPlatform n why reads s).pins = s.pins ∧ (createdOnPlatform n why reads s).part = s.part ∧
    (createdOnPlatform n why reads s).weigh = s.weigh ∧ (createdOnPlatform n why reads s).cal = s.cal ∧
    (createdOnPlatform n why reads s).reader = s.reader ∧ (createdOnPlatform n why reads s).filler = s.filler ∧
    (createdOnPlatform n why reads s).reject = s.reject ∧ (createdOnPlatform n why reads s).valves = s.valves ∧
    (createdOnPlatform n why reads s).dose = s.dose ∧ (createdOnPlatform n why reads s).recipes = s.recipes ∧
    (createdOnPlatform n why reads s).orders = s.orders ∧ (createdOnPlatform n why reads s).pending = s.pending := by
  simp [createdOnPlatform]

/-- Settles O20: the arrival opens the weighing, early binding or a new entry follows by the pending reads, and room is made as
`makeRoom_of_full` says. -/
theorem aCanWithoutAReadGetsAnEntry : Obligations.ACanWithoutAReadGetsAnEntry := by
  intro e v before after p s hroom hread u serial held blank creates
  refine ⟨fun htakes hzero hcal => ?_, fun h => makeRoom_of_room h, fun hfull hv => ?_⟩
  · obtain ⟨weigh, hlength, hexec⟩ := platformInArrival_idle htakes hroom hzero hcal
    have hin : trackPlatformIn (setAside s.pins weigh s.reader s.track.reads s) =
        if unboundWaits s then bindEarly (setAside s.pins weigh s.reader s.track.reads s)
        else createAtPlatform (setAside s.pins weigh s.reader s.track.reads s) := by
      have hnone : oldestOf .read (setAside s.pins weigh s.reader s.track.reads s) = none := hread
      simp only [trackPlatformIn, hnone]
      rfl
    have hcreates {n : Entry} {reads : List PendingRead} {why : Nat} (hst : n.stage = .onPlatform)
        (hrun : trackPlatformIn (setAside s.pins weigh s.reader s.track.reads s) =
          createdOnPlatform n why reads (setAside s.pins weigh s.reader s.track.reads (makeRoom s))) : creates n reads why :=
      ⟨_, hexec.trans (congrArg _ hrun), createdOnPlatform_track hst why reads _, rfl, by simp [hlength], .intro⟩
    refine ⟨fun hreads hbound hp => ⟨fun he => ?_, fun hnone => ?_⟩, fun hbound => ?_⟩
    · have hwaits : unboundWaits s = true := unboundWaits_iff.mpr ⟨p, by simp [hreads], hp⟩
      have hbinds := bindEarly_of_transit (s := setAside s.pins weigh s.reader s.track.reads s) he
      refine ⟨_, hexec.trans (congrArg _ (hin.trans ((if_pos hwaits).trans hbinds))), ?_, by simp [hlength], .intro⟩
      simp [setReads, setEntry, hreads, bindOldestRead_split _ hbound hp]
    · have hwaits : unboundWaits s = true := unboundWaits_iff.mpr ⟨p, by simp [hreads], hp⟩
      have hbinds := bindEarly_of_none (s := setAside s.pins weigh s.reader s.track.reads s) hnone
      have hsplit : (setAside s.pins weigh s.reader s.track.reads (makeRoom s)).track.reads = before ++ p :: after := hreads
      rw [makeRoom_setAside, hsplit, bindOldestRead_split _ hbound hp] at hbinds
      exact hcreates rfl (hin.trans ((if_pos hwaits).trans hbinds))
    · have hwaits : ¬unboundWaits s = true := fun h => by
        obtain ⟨q, hq, hnone⟩ := unboundWaits_iff.mp h
        exact hbound q hq hnone
      have hmade := createAtPlatform_eq (setAside s.pins weigh s.reader s.track.reads s)
      rw [makeRoom_setAside] at hmade
      exact hcreates rfl (hin.trans ((if_neg hwaits).trans hmade))
  · have hvictim : roomVictim s = some v := by
      rcases hv with hv | ⟨hnone, hv⟩
      · simp only [roomVictim, hv]
      · simp only [roomVictim, hnone, hv]
    have hmade : u = _ := makeRoom_of_full hfull hvictim
    rw [hmade]
    refine ⟨by simp [removeWithDrain, removeEntry], fun hdone => ?_, .intro⟩
    rw [removeWithDrain_of_no_retiring hdone]
    exact ⟨rfl, .intro⟩

end Sys2Proof.Machine

namespace Sys2Proof.Machine

/-! PROOFS. The resolution of a pending read: by position, by mark or late (R44 to R49, R53, R55). -/

/-- The entry created at the reader stands before the first TRANSIT entry, bound as it is created (R37, R47, R48). -/
theorem createAtReader_track (origin : Origin) (a : Attribution) (m : ReadMessage) (s : State) :
    (createAtReader origin a m s).track = { s.track with
      entries := s.track.entries.takeWhile (fun x => decide (x.stage ≠ .transit)) ++
        boundEntry s a m (blankEntry origin .read s) :: s.track.entries.dropWhile (fun x => decide (x.stage ≠ .transit))
      nextSerial := nextNumber s.track.nextSerial } := by
  rw [← insertByStage_read rfl]
  rfl

theorem bindByPosition_of_transit {e : Entry} {s : State} (h : oldestOf .transit s = some e) :
    bindByPosition s = (setEntry (boundEntry s .positional .noRead e) s, e.serial) := by
  simp only [bindByPosition, h]

theorem bindByPosition_of_none {s : State} (h : oldestOf .transit s = none) : bindByPosition s =
    (raiseEvent .untrackedCan 3 (wordOfNat (makeRoom s).track.nextSerial) 0
      (createAtReader .untracked .positional .noRead (makeRoom s)), (makeRoom s).track.nextSerial) := by
  simp only [bindByPosition, h]

/-! #### Late resolution -/

theorem serial_of_entryOf {serial : Nat} {e : Entry} {s : State} (h : entryOf serial s = some e) : e.serial = serial := by
  simpa using List.find?_some h

theorem decideIfDue_of_undue {e : Entry} (h : e.weighing = none ∨ e.decision ≠ none) (s : State) : decideIfDue e s = s := by
  rw [decideIfDue, if_neg]
  rcases h with h | h <;> simp [h]

theorem resolveLate_of_none {serial : Nat} {s : State} (h : entryOf serial s = none) (m : ReadMessage) :
    resolveLate serial m s = (s, 0) := by simp only [resolveLate, h]

/-- An entry completed late that is not weighed, or decided already, is completed and no more (R53). -/
theorem resolveLate_of_undue {serial : Nat} {e : Entry} {s : State} (h : entryOf serial s = some e)
    (hnot : e.weighing = none ∨ e.decision ≠ none) (m : ReadMessage) :
    resolveLate serial m s = (setEntry (lateEntry s m e) s, serial) := by
  have hundue : decideIfDue (lateEntry s m e) (setEntry (lateEntry s m e) s) = setEntry (lateEntry s m e) s :=
    decideIfDue_of_undue (e := lateEntry s m e) hnot _
  simp only [resolveLate, h, hundue]

/-- A weighed entry without a decision is completed late and decided (R53, R55). -/
theorem resolveLate_of_due {serial : Nat} {e : Entry} {s : State} (h : entryOf serial s = some e) (hw : e.weighing ≠ none)
    (hd : e.decision = none) (m : ReadMessage) : resolveLate serial m s =
      (decideEntry 0 (lateEntry s m e) (setEntry (lateEntry s m e) s), serial) := by
  have hdue : decideIfDue (lateEntry s m e) (setEntry (lateEntry s m e) s) =
      decideEntry 0 (lateEntry s m e) (setEntry (lateEntry s m e) s) :=
    decideIfDue_of_due (e := lateEntry s m e) (Option.isSome_iff_ne_none.mpr hw) rfl hd _
  simp only [resolveLate, h, hdue]

/-- A decision leaves its entry in the track with the decision, its reasons and its lot, and nothing else changed (R93). -/
theorem decideEntry_decides (extra : BitVec 10) {e : Entry} {s : State} (he : e ∈ s.track.entries) :
    ∃ x ∈ (decideEntry extra e s).track.entries, x.decision.isSome = true ∧
      x = { e with decision := x.decision, reasons := x.reasons, countedLot := x.countedLot } := by
  refine ⟨decidedEntry s extra e, ?_, rfl, rfl⟩
  rw [decideEntry_entries]
  exact List.mem_map.mpr ⟨e, he, if_pos rfl⟩

theorem mem_setEntry {e x : Entry} {s : State} (hx : x ∈ s.track.entries) (hs : x.serial = e.serial) :
    e ∈ (setEntry e s).track.entries := List.mem_map.mpr ⟨x, hx, if_pos hs⟩

end Sys2Proof.Machine

namespace Sys2Proof.Machine

/-! PROOFS. The pending reads: how they come, and how they end at their deadline (R43, R45, R48, R53, R57). -/

theorem makeReadRoom_of_room {s : State} (h : s.track.reads.length < 8) : makeReadRoom s = s := by
  unfold makeReadRoom
  split
  · rfl
  · exact if_neg h.not_ge

theorem makeReadRoom_of_full {p : PendingRead} {rest : List PendingRead} {s : State} (h : s.track.reads = p :: rest)
    (hlen : rest.length = 7) : makeReadRoom s =
      raiseEvent .readListFull (flagNat p.bound.isSome) p.eyeTag (wordOfNat (resolveRead p .noRead (setReads rest s)).2)
        (resolveRead p .noRead (setReads rest s)).1 := by
  simp [makeReadRoom, h, hlen]

theorem readerEyeArrival_taken {s : State} (h : s.takesCans = true) : exec .readerEyeArrival s =
    .next (setReads ((makeReadRoom s).track.reads ++ [newRead s]) (makeReadRoom s)) := by
  simp only [exec, execReaderEyeArrival, h, if_true]

/-- A deadline at 0 resolves the oldest read that stands there as NO_READ, the others staying in their order (R45, log 29). -/
theorem readDeadlineExpiry_due {before after : List PendingRead} {p : PendingRead} {s : State} (hrun : s.pins.lineRun = true)
    (hreads : s.track.reads = before ++ p :: after) (hbefore : ∀ q ∈ before, q.left ≠ 0) (hp : p.left = 0) :
    exec .readDeadlineExpiry s = .next (resolveRead p .noRead (setReads (before ++ after) s)).1 := by
  have hexpired : p.expired = true := by simpa [PendingRead.expired] using hp
  have hothers : ∀ q ∈ before, ¬q.expired = true := by simpa [PendingRead.expired] using hbefore
  have hfind : s.track.reads.find? PendingRead.expired = some p := by
    rw [hreads]
    exact List.find?_eq_some_iff_append.mpr ⟨hexpired, before, after, rfl, by simpa using hothers⟩
  have herase : s.track.reads.eraseP PendingRead.expired = before ++ after := by
    rw [hreads, List.eraseP_append_right _ hothers, List.eraseP_cons_of_pos hexpired]
  simp only [exec, execReadDeadlineExpiry, hrun, if_true, hfind, herase]

theorem resolveRead_unbound {p : PendingRead} (h : p.bound = none) (s : State) :
    resolveRead p .noRead s = bindByPosition s := by simp only [resolveRead, h]

theorem resolveRead_code {p : PendingRead} (h : p.bound = none) (text : List Byte) (mark : Nat) (g : Grade) (s : State) :
    resolveRead p (.code text mark g) s = bindByMark text mark g s := by simp only [resolveRead, h]

theorem resolveRead_bound {p : PendingRead} {serial : Nat} (h : p.bound = some serial) (m : ReadMessage) (s : State) :
    resolveRead p m s = resolveLate serial m s := by simp only [resolveRead, h]

theorem setReads_eq_setAside (l : List PendingRead) (s : State) : setReads l s = setAside s.pins s.weigh s.reader l s := rfl

/-- Settles O25: the append and the displacement of a READER_EYE, and each way a read at its deadline resolves. -/
theorem pendingReadsComeAndExpire : Obligations.PendingReadsComeAndExpire := by
  intro before after rest p e serial s u read new
  refine ⟨fun htakes hlen => ?_, fun htakes hreads hlen hp he => ?_, fun hrun => ?_, fun hrun hreads hbefore hleft => ?_⟩
  · rw [readerEyeArrival_taken htakes, makeReadRoom_of_room hlen]
    exact ⟨_, rfl, rfl, .intro⟩
  · rw [readerEyeArrival_taken htakes, makeReadRoom_of_full hreads hlen, resolveRead_unbound hp,
      bindByPosition_of_transit (s := setReads rest s) he]
    exact ⟨_, rfl, rfl, rfl, rfl, by rw [hp]; rfl, .intro⟩
  · simp [exec, execReadDeadlineExpiry, hrun]
  · have hexec := readDeadlineExpiry_due hrun hreads hbefore hleft
    refine ⟨fun hp he => ?_, fun hp hnone => ?_, fun hp hgone => ?_, fun hp he hnot => ?_, fun hp he hst hw hd => ?_⟩
    · rw [resolveRead_unbound hp, bindByPosition_of_transit (s := setReads (before ++ after) s) he] at hexec
      exact ⟨_, hexec, rfl, rfl, rfl, .intro⟩
    · rw [resolveRead_unbound hp, bindByPosition_of_none (s := setReads (before ++ after) s) hnone, setReads_eq_setAside,
        makeRoom_setAside] at hexec
      have hserial : (makeRoom s).track.nextSerial = s.track.nextSerial := makeRoom_nextSerial s
      refine ⟨_, boundEntry (setAside s.pins s.weigh s.reader (before ++ after) (makeRoom s)) .positional .noRead
        (blankEntry .untracked .read (makeRoom s)), hexec, rfl, ?_, hserial, rfl, rfl, rfl, rfl, rfl, rfl, rfl, rfl, rfl, rfl,
        congrArg nextNumber hserial, ?_, .intro⟩
      · simp only [raiseEvent_frame, createAtReader_track]; rfl
      · rw [← hserial]; rfl
    · rw [resolveRead_bound hp, resolveLate_of_none (s := setReads (before ++ after) s) hgone] at hexec
      exact ⟨_, hexec, rfl, .intro⟩
    · obtain rfl := serial_of_entryOf he
      rw [resolveRead_bound hp, resolveLate_of_undue (s := setReads (before ++ after) s) he hnot] at hexec
      exact ⟨_, hexec, rfl, .intro⟩
    · obtain rfl := serial_of_entryOf he
      intro late b
      rw [resolveRead_bound hp, resolveLate_of_due (s := setReads (before ++ after) s) he hw hd] at hexec
      refine ⟨_, hexec, rfl, by simp, decideEntry_decides 0 (mem_setEntry (List.mem_of_find?_eq_some he) rfl), .intro⟩

end Sys2Proof.Machine

namespace Sys2Proof.Machine

/-! PROOFS. A code at the end of a message: it binds by its mark, finds no entry, or completes its entry late (R44, R46, R47,
R49, R53, R59, R71). -/

theorem readerMessage_ends {s : State} (htakes : s.takesCans = true) (hlisten : s.reader.receiver ≠ .heldLow) :
    exec .readerMessage s = .next (readerEnd s) := by
  have hlistens : readerListens s = true := by simp [readerListens, awake_of_takesCans htakes, hlisten]
  simp [exec, execReaderMessage, readerTake, hlistens]

theorem takeReadResult_cons {p : PendingRead} {rest : List PendingRead} {s : State} (htakes : s.takesCans = true)
    (hreads : s.track.reads = p :: rest) (m : ReadMessage) :
    takeReadResult m s = (resolveRead p m (setReads rest s)).1 := by
  simp only [takeReadResult, htakes, if_true, hreads]

/-- The state in which a message's read result resolves the oldest pending read: the assembler in IDLE, the read off the list. -/
def answering (rest : List PendingRead) (s : State) : State :=
  setAside s.pins s.weigh { s.reader with asm := .idle } rest s

@[simp] theorem answering_fields (rest : List PendingRead) (s : State) :
    (answering rest s).pins = s.pins ∧ (answering rest s).part = s.part ∧ (answering rest s).weigh = s.weigh ∧
    (answering rest s).cal = s.cal ∧ (answering rest s).track = { s.track with reads := rest } ∧
    (answering rest s).reader = { s.reader with asm := .idle } ∧ (answering rest s).filler = s.filler ∧
    (answering rest s).reject = s.reject ∧ (answering rest s).valves = s.valves ∧ (answering rest s).dose = s.dose ∧
    (answering rest s).recipes = s.recipes ∧ (answering rest s).orders = s.orders ∧ (answering rest s).exch = s.exch ∧
    (answering rest s).pending = s.pending := by simp [answering]

theorem readerMessage_code {buffer : List Byte} {m : ReadMessage} {p : PendingRead} {rest : List PendingRead} {s : State}
    (htakes : s.takesCans = true) (hlisten : s.reader.receiver ≠ .heldLow) (hasm : s.reader.asm = .collecting buffer)
    (hne : buffer ≠ [0x23#8]) (hcode : parseCode buffer = .ok m) (hreads : s.track.reads = p :: rest) :
    exec .readerMessage s = .next (resolveRead p m (answering rest s)).1 := by
  rw [readerMessage_ends htakes hlisten]
  have hidle := takeReadResult_cons (s := setReaderAsm .idle s) htakes hreads m
  simp only [readerEnd, hasm, takeMessage, charHash, if_neg hne, hcode, hidle]
  rfl

/-- With nothing retiring the lost entries leave their records and nothing else but the track changes (R59). -/
theorem loseEntries_of_no_retiring {s : State} (h : s.recipes.retiring = none) (lost : List Entry) :
    (loseEntries lost s).recipes = s.recipes ∧ (loseEntries lost s).orders = s.orders ∧
    (loseEntries lost s).exch = lost.foldl (fun m y => m.logRecord (logWords y .lostInTransit)) s.exch := by
  unfold loseEntries
  induction lost generalizing s with
  | nil => exact ⟨rfl, rfl, rfl⟩
  | cons x l ih =>
    rw [List.foldl_cons, removeWithDrain_of_no_retiring h]
    exact ih h

/-- Settles O26: the entries before the one found are lost by `loseEntries_entries`, and that one is bound. -/
theorem aCodeBindsByItsMark : Obligations.ACodeBindsByItsMark := by
  intro buffer text mark g p rest lost after e s htakes hlisten hasm hne hcode hreads hp hsplit hnear hothers hmark hserials
    hdone hactive
  have hfound : FoundByMark mark lost after e (answering rest s) := ⟨hsplit, hnear, hothers, hmark⟩
  obtain ⟨hrecipes, horders, hexch⟩ := loseEntries_of_no_retiring (s := answering rest s) hdone lost
  have hentries : (loseEntries lost (answering rest s)).track.entries = s.track.entries.filter (fun x => decide (x ∉ lost)) :=
    loseEntries_entries hserials (hfound.nodup hserials).1 fun x hx => (hfound.lost_mem x hx).1
  have hexec := readerMessage_code htakes hlisten hasm hne hcode hreads
  rw [resolveRead_code hp, bindByMark_found hfound] at hexec
  generalize hw : lostEvent lost e (loseEntries lost (answering rest s)) = w at hexec
  have hkept : w.recipes = s.recipes := by simpa [← hw] using hrecipes
  have hrecipe : recipeOf w e.recipe = activeRecipe s := by simp only [hactive, recipeOf, activeRecipe, hkept]
  have hbound : boundEntry w .exact (.code text mark g) e = { e with
      stage := .read, attribution := some .exact, readOpen := false
      read := some (.code (decide (text = (activeRecipe s).lotText)) mark g) } := by
    simp only [boundEntry, readResultOf, hrecipe]
  have htrack : w.track = (loseEntries lost (answering rest s)).track := by simp [← hw]
  refine ⟨_, hexec, ?_, ?_, ?_, ?_, ?_, ?_⟩
  · simp [← hw]
  · simp [htrack]
  · simp [htrack]
  · rw [setEntry_entries, htrack, hentries, hbound]
  · subst hw
    cases lost with
    | nil => exact hexch
    | cons x l => exact congrArg (fun m : Exchange => m.event .lostInTransit _ _ _) hexch
  · subst hw
    exact .intro (hrecipes := .inr (by simpa using hrecipes)) (horders := .inr (by simpa using horders))

/-- A code completes its entry late: EXACT where it bears the mark of a FILLER entry, else MISMATCH (R49, R53). -/
theorem lateEntry_code (text : List Byte) (mark : Nat) (g : Grade) (e : Entry) (s : State) :
    lateEntry s (.code text mark g) e = { e with
      attribution := some (if e.origin = .filler ∧ e.serial % 1000 = mark then .exact else .mismatch)
      read := some (.code (decide (text = (recipeOf s e.recipe).lotText)) mark g), readOpen := false } := by
  have hattribution : (if e.origin = .filler && passMark e = mark then some Attribution.exact else some .mismatch) =
      some (if e.origin = .filler ∧ e.serial % 1000 = mark then .exact else .mismatch) := by
    rw [apply_ite some]
    exact if_congr (by rw [Bool.and_eq_true, decide_eq_true_eq, decide_eq_true_eq]; rfl) rfl rfl
  simp only [lateEntry, readResultOf, hattribution]

/-- Settles O27: a code without a match creates its entry behind `makeRoom`, a late one completes its entry by `resolveLate`. -/
theorem aCodeWithoutAMatchOrLate : Obligations.ACodeWithoutAMatchOrLate := by
  intro buffer text mark serial g p rest e s htakes hlisten hasm hne hcode hreads u read transit answers attribution result
  have hexec := readerMessage_code htakes hlisten hasm hne hcode hreads
  refine ⟨fun hp hothers => ?_, fun hp hgone => ?_, fun hp he hnot => ?_, fun hp he hst hw hd => ?_⟩
  · have hserial : (makeRoom s).track.nextSerial = s.track.nextSerial := makeRoom_nextSerial s
    have hroom : makeRoom (answering rest s) = answering rest (makeRoom s) := by
      rw [answering, makeRoom_setAside, answering]
      simp
    rw [resolveRead_code hp, bindByMark_unmatched (s := answering rest s) hothers, hroom] at hexec
    have hrecipe : activeRecipe (answering rest (makeRoom s)) = activeRecipe s := by simp [activeRecipe]
    refine ⟨_, boundEntry (answering rest (makeRoom s)) .mismatch (.code text mark g) (blankEntry .unmatched .read (makeRoom s)),
      hexec, ⟨by simp, by simp⟩, makeRoom_of_room, ?_, ?_, hserial, rfl, rfl, rfl, rfl, ?_, rfl, rfl, rfl, rfl, rfl, rfl, ?_,
      .intro⟩
    · simp only [raiseEvent_frame, createAtReader_track]
      exact congrArg nextNumber hserial
    · simp only [raiseEvent_frame, createAtReader_track]; rfl
    · rw [← hrecipe]; rfl
    · have hwindow : (searchWindow (answering rest s)).length = min 32 transit.length := List.length_take ..
      rw [← hserial, ← hwindow]; rfl
  · rw [resolveRead_bound hp, resolveLate_of_none (s := answering rest s) hgone] at hexec
    exact ⟨_, hexec, ⟨rfl, rfl⟩, rfl, .intro⟩
  · obtain rfl := serial_of_entryOf he
    rw [resolveRead_bound hp, resolveLate_of_undue (s := answering rest s) he hnot, lateEntry_code] at hexec
    exact ⟨_, hexec, ⟨rfl, rfl⟩, rfl, rfl, .intro⟩
  · obtain rfl := serial_of_entryOf he
    intro late b
    rw [resolveRead_bound hp, resolveLate_of_due (s := answering rest s) he hw hd, lateEntry_code] at hexec
    exact ⟨_, hexec, rfl, ⟨by simp, by simp⟩, by simp, decideEntry_decides 0 (mem_setEntry (List.mem_of_find?_eq_some he) rfl),
      .intro⟩

end Sys2Proof.Machine

namespace Sys2Proof.Machine

/-! PROOFS. The reader link's assembler, and the NO_READ of a message that gives no code (R63 to R71). The levels of the
inputs play no part in the resolution of a read. -/

/-- The levels of the inputs replaced. -/
def withPins (pins : Pins) (s : State) : State := { s with pins := pins }

section Levels

variable (pins : Pins)

theorem withPins_own (s : State) : withPins s.pins s = s := rfl

theorem withPins_twice (other : Pins) (s : State) : withPins pins (withPins other s) = withPins pins s := rfl

theorem makeRoom_withPins (s : State) : makeRoom (withPins pins s) = withPins pins (makeRoom s) := by
  have haside : withPins pins s = setAside pins s.weigh s.reader s.track.reads s := rfl
  have hback : setAside pins s.weigh s.reader s.track.reads (makeRoom s) = withPins pins (makeRoom s) := by
    have hweigh : (makeRoom s).weigh = s.weigh := by simp
    have hreader : (makeRoom s).reader = s.reader := by simp
    have hreads : (makeRoom s).track.reads = s.track.reads := makeRoom_reads s
    rw [← hweigh, ← hreader, ← hreads]
    rfl
  rw [haside, makeRoom_setAside, hback]

theorem reopenActiveLot_withPins (c : LotCause) (s : State) :
    reopenActiveLot c (withPins pins s) = withPins pins (reopenActiveLot c s) := by
  unfold reopenActiveLot closeActiveLot
  have hlot : (withPins pins s).recipes = s.recipes := rfl
  rw [hlot]
  cases s.recipes.activeLot <;> rfl

theorem lotLimitCheck_withPins (ref : RecipeRef) (d : Decision) (s : State) :
    lotLimitCheck ref d (withPins pins s) = withPins pins (lotLimitCheck ref d s) := by
  have hlot : (withPins pins s).recipes = s.recipes := rfl
  have hactive : activeRecipe (withPins pins s) = activeRecipe s := rfl
  unfold lotLimitCheck
  rw [hlot, hactive, reopenActiveLot_withPins]
  cases ref with
  | retiring => rfl
  | active =>
    cases d with
    | reject => rfl
    | accept =>
      cases s.recipes.activeLot with
      | none => rfl
      | some l => exact (apply_ite (withPins pins) _ _ _).symm

theorem setValve_withPins (v : Nat) (x : Valve) (s : State) :
    setValve v x (withPins pins s) = withPins pins (setValve v x s) := rfl

theorem valveAt_withPins (s : State) (v : Nat) : valveAt (withPins pins s) v = valveAt s v := rfl

theorem trimAt_withPins (s : State) (v : Nat) : trimAt (withPins pins s) v = trimAt s v := rfl

theorem raiseEvent_withPins (k : EventKind) (arg0 : Nat) (arg1 arg2 : Word) (s : State) :
    raiseEvent k arg0 arg1 arg2 (withPins pins s) = withPins pins (raiseEvent k arg0 arg1 arg2 s) := rfl

theorem waitAfterWrite_withPins (v : Nat) (wanted : Int) (s : State) :
    waitAfterWrite v wanted (withPins pins s) = withPins pins (waitAfterWrite v wanted s) := rfl

theorem activeRecipe_withPins (s : State) : activeRecipe (withPins pins s) = activeRecipe s := rfl

theorem recipeOf_withPins (s : State) (ref : RecipeRef) : recipeOf (withPins pins s) ref = recipeOf s ref := by
  cases ref <;> rfl

theorem lotOf_withPins (s : State) (ref : RecipeRef) : lotOf (withPins pins s) ref = lotOf s ref := by cases ref <;> rfl

theorem applyCorrection_withPins (v : Nat) (s : State) :
    applyCorrection v (withPins pins s) = withPins pins (applyCorrection v s) := by
  unfold applyCorrection
  simp only [activeRecipe_withPins, valveAt_withPins, trimAt_withPins, raiseEvent_withPins, waitAfterWrite_withPins]
  rw [apply_ite (withPins pins)]
  rfl

theorem averageCan_withPins (v : Nat) (net : Int) (s : State) :
    averageCan v net (withPins pins s) = withPins pins (averageCan v net s) := by
  have hdue (u : State) (avg : Int) : correctionDue (withPins pins u) avg = correctionDue u avg := rfl
  unfold averageCan
  simp only [valveAt_withPins, activeRecipe_withPins, setValve_withPins, hdue, applyCorrection_withPins]
  rw [apply_ite (withPins pins), apply_ite (withPins pins)]

theorem takeQualifying_withPins (v : Nat) (gen : Gen) (net : Int) (s : State) :
    takeQualifying v gen net (withPins pins s) = withPins pins (takeQualifying v gen net s) := by
  unfold takeQualifying
  simp only [valveAt_withPins, activeRecipe_withPins, setValve_withPins, averageCan_withPins]
  split
  · rfl
  · rw [apply_ite (withPins pins)]
  · rfl

theorem hardLowCan_withPins (v : Nat) (e : Entry) (net : Int) (s : State) :
    hardLowCan v e net (withPins pins s) = withPins pins (hardLowCan v e net s) := by
  unfold hardLowCan
  simp only [valveAt_withPins, setValve_withPins, raiseEvent_withPins]
  rw [apply_ite (withPins pins)]
  rfl

theorem offerCan_withPins (e : Entry) (s : State) : offerCan e (withPins pins s) = withPins pins (offerCan e s) := by
  unfold offerCan
  cases countedValve e with
  | none => rfl
  | some v =>
    have hcounted : countCan v e (withPins pins s) = withPins pins (countCan v e s) := rfl
    have hqualifies (u : State) (x : Valve) : otherwiseQualifies (withPins pins u) e x = otherwiseQualifies u e x := rfl
    simp only [hcounted, hqualifies, valveAt_withPins, setValve_withPins]
    split
    · split
      · exact hardLowCan_withPins pins v e _ _
      · exact takeQualifying_withPins pins v _ _ _
      · exact takeQualifying_withPins pins v _ _ _
      · rfl
    · rfl

theorem decideEntry_withPins (extra : BitVec 10) (e : Entry) (s : State) :
    decideEntry extra e (withPins pins s) = withPins pins (decideEntry extra e s) := by
  have hset (l : Option Lot) (x : Entry) :
      setLot e.recipe l (setEntry x (withPins pins s)) = withPins pins (setLot e.recipe l (setEntry x s)) := by
    cases e.recipe <;> rfl
  simp only [decideEntry, decidedEntry, decidedLot, lotOf_withPins, recipeOf_withPins, hset, lotLimitCheck_withPins,
    offerCan_withPins]

/-- A read is resolved the same whatever the levels of the inputs. -/
theorem resolveRead_withPins (p : PendingRead) (s : State) :
    (resolveRead p .noRead (withPins pins s)).1 = withPins pins (resolveRead p .noRead s).1 := by
  cases hp : p.bound with
  | none =>
    rw [resolveRead_unbound hp, resolveRead_unbound hp]
    cases he : oldestOf .transit s with
    | some e =>
      rw [bindByPosition_of_transit he, bindByPosition_of_transit (s := withPins pins s) he]
      rfl
    | none =>
      rw [bindByPosition_of_none he, bindByPosition_of_none (s := withPins pins s) he, makeRoom_withPins]
      rfl
  | some serial =>
    rw [resolveRead_bound hp, resolveRead_bound hp]
    have hlate (e : Entry) : lateEntry (withPins pins s) .noRead e = lateEntry s .noRead e := rfl
    have hset (e : Entry) : setEntry e (withPins pins s) = withPins pins (setEntry e s) := rfl
    have hentry : entryOf serial (withPins pins s) = entryOf serial s := rfl
    unfold resolveLate
    rw [hentry]
    cases entryOf serial s with
    | none => rfl
    | some e =>
      simp only [hlate, hset, decideIfDue, decideEntry_withPins]
      rw [apply_ite (withPins pins)]

/-- Its resolution with LINE_RUN high is its resolution, once the level is put back. -/
theorem resolveRead_lineRun (p : PendingRead) (s : State) : (resolveRead p .noRead s).1 =
    withPins s.pins (resolveRead p .noRead (withPins { s.pins with lineRun := true } s)).1 := by
  have hpins : (resolveRead p .noRead s).1.pins = s.pins := by simp
  rw [resolveRead_withPins, withPins_twice, ← hpins, withPins_own]

end Levels

/-- A read result that finds no pending read is unsolicited (R44). -/
theorem takeReadResult_nil {m : ReadMessage} {s : State} (htakes : s.takesCans = true) (hreads : s.track.reads = []) :
    takeReadResult m s = unsolicited m s := by simp only [takeReadResult, htakes, if_true, hreads]

/-- The assembler back in IDLE at the end of a message, with what the message has written to the exchange memory. -/
@[simp] def messageEnded (m : Exchange) (s : State) : State :=
  { s with reader := { s.reader with asm := .idle }, exch := m }

/-- The four messages that give no code, each with the exchange memory that its event leaves (R65 to R68, R70). -/
def NoCode (s : State) (m : Exchange) : Prop :=
  (s.reader.asm = .collecting [0x23#8] ∧ m = s.exch) ∨
  (∃ reported, s.reader.asm = .skipping .charError reported ∧ m = s.exch) ∨
  (∃ reported, s.reader.asm = .skipping .overlong reported ∧ m = s.exch.event .codeGarbled 2 0 41) ∨
  (∃ buffer step, s.reader.asm = .collecting buffer ∧ buffer ≠ [0x23#8] ∧ parseCode buffer = .error step ∧
    m = s.exch.event .codeGarbled 1 (BitVec.ofNat 32 step) (BitVec.ofNat 32 buffer.length))

/-- Each of them yields one NO_READ, after its event (R71). -/
theorem readerMessage_noRead {m : Exchange} {s : State} (htakes : s.takesCans = true) (hlisten : s.reader.receiver ≠ .heldLow)
    (h : NoCode s m) : exec .readerMessage s = .next (takeReadResult .noRead (messageEnded m s)) := by
  have htakes' : (setReaderAsm .idle s).takesCans = true := htakes
  rw [readerMessage_ends htakes hlisten]
  rcases h with ⟨hasm, rfl⟩ | ⟨reported, hasm, rfl⟩ | ⟨reported, hasm, rfl⟩ | ⟨buffer, step, hasm, hne, hcode, rfl⟩
  · simp only [readerEnd, hasm]
    rfl
  · simp only [readerEnd, hasm]
    rfl
  · simp only [readerEnd, hasm, raiseLineEvent, htakes', if_true]
    rfl
  · simp only [readerEnd, hasm, takeMessage, charHash, if_neg hne, hcode, garbled, raiseLineEvent, htakes', if_true]
    rfl

/-- The receiver as a framing error leaves it: held low by a break, else waiting (R63). -/
@[simp] def framingLeft (brk : Bool) (s : State) : State :=
  { s with reader := { s.reader with receiver := if brk then .heldLow else .waiting } }

theorem readerTake_lineFeed (s : State) : readerTake 0x0A#8 s = s := by simp [readerTake, charCR, charLF]

section ReaderCharacters

variable {s : State} (htakes : s.takesCans = true) (hlisten : s.reader.receiver ≠ .heldLow)

include htakes hlisten

theorem readerListens_of_takesCans : readerListens s = true := by
  simp [readerListens, awake_of_takesCans htakes, hlisten]

theorem readerTake_put {c : Byte} (hcr : c ≠ 0x0D#8) (hlf : c ≠ 0x0A#8) : readerTake c s = readerPut c s := by
  simp [readerTake, readerListens_of_takesCans htakes hlisten, charCR, charLF, hcr, hlf]

/-- A framing error leaves the receiver as the line leaves it, and the assembler takes the damage (R63, R67). -/
theorem readerFramingFault_taken (brk : Bool) : readerFramingFault brk s =
    readerDamage (framingLeft brk s) := by
  simp only [readerFramingFault, readerListens_of_takesCans htakes hlisten, if_true, framingLeft]

end ReaderCharacters

/-- A line event is raised in the states that take cans (R71). -/
theorem raiseLineEvent_taken {s : State} (h : s.takesCans = true) (k : EventKind) (arg0 : Nat) (arg1 arg2 : Word) :
    raiseLineEvent k arg0 arg1 arg2 s = raiseEvent k arg0 arg1 arg2 s := by
  simp only [raiseLineEvent, h, if_true, raiseEvent]

/-- Settles O28: the characters by the assembler's state, and the messages without a code by the NO_READ that each yields. -/
theorem theReaderAssemblesAMessage : Obligations.TheReaderAssemblesAMessage := by
  intro c brk reported buffer d step p rest x s always
  refine ⟨fun hlow => ?_, fun htakes hlisten hcr hlf => ?_, fun htakes hlisten => ?_⟩
  · refine ⟨{ s with reader := { s.reader with receiver := .waiting } }, ?_, rfl, .intro⟩
    simp only [exec, execBreakEnd, hlow, if_true]
  · intro asmIs damaged
    have hput : ∀ t, readerPut c s = t → exec (.readerCharacter c) s = .next t ∧ exec (.readerOverlong c) s = .next t := by
      rintro t rfl
      have htaken := readerTake_put htakes hlisten hcr hlf
      exact ⟨congrArg _ htaken, congrArg _ htaken⟩
    have hdamage : exec (.readerFramingError brk) s = .next (readerDamage (framingLeft brk s)) :=
      congrArg _ (readerFramingFault_taken htakes hlisten brk)
    have hraised (a : ReaderAsm) (arg0 n : Nat) (hd : readerDamage (framingLeft brk s) =
        raiseLineEvent .readerCharError arg0 (wordOfNat n) 0 (setReaderAsm a (framingLeft brk s))) :
        ∃ t, exec (.readerFramingError brk) s = .next t ∧ damaged a arg0 n t := by
      rw [raiseLineEvent_taken (by exact htakes)] at hd
      exact ⟨_, hdamage.trans (congrArg _ hd), rfl, rfl, .intro⟩
    refine ⟨congrArg _ (readerTake_lineFeed s), fun hasm => ⟨?_, ?_⟩, fun hasm => ⟨fun hlen => ?_, fun hlen => ?_, ?_⟩,
      fun hasm => ⟨?_, ?_⟩, fun hasm => ?_⟩
    · exact ⟨setReaderAsm (.collecting [c]) s, (hput _ (by simp only [readerPut, hasm])).1, rfl, .intro⟩
    · exact hraised _ 0 0 (by simp only [readerDamage, framingLeft, hasm]; rfl)
    · exact ⟨setReaderAsm (.collecting (buffer ++ [c])) s,
        (hput _ (by simp only [readerPut, hasm, hlen, if_true])).1, rfl, .intro⟩
    · exact ⟨setReaderAsm (.skipping .overlong false) s,
        (hput _ (by simp only [readerPut, hasm, hlen, lt_irrefl, if_false])).2, rfl, .intro⟩
    · exact hraised _ 1 buffer.length (by simp only [readerDamage, framingLeft, hasm])
    · exact (hput _ (by simp only [readerPut, hasm])).1
    · exact hraised _ 2 0 (by simp only [readerDamage, framingLeft, hasm]; rfl)
    · exact ⟨framingLeft brk s, hdamage.trans (congrArg _ (by simp only [readerDamage, framingLeft, hasm])),
        by rw [← hasm]; rfl, .intro⟩
  · have halways (ends : Exchange → Prop) (h : ∀ m, NoCode s m → ends m) : always ends :=
      ⟨fun ha => h _ (.inl ⟨ha, rfl⟩), fun ha => h _ (.inr (.inl ⟨_, ha, rfl⟩)),
        fun ha => h _ (.inr (.inr (.inl ⟨_, ha, rfl⟩))),
        fun ha hne hcode => h _ (.inr (.inr (.inr ⟨_, _, ha, hne, hcode, rfl⟩)))⟩
    clear_value always
    refine ⟨fun hasm => ?_, fun hreads => halways _ fun m hm => ?_, fun hreads hp hx => halways _ fun m hm => ?_,
      fun hreads => halways _ fun m hm => ?_⟩
    · rw [readerMessage_ends htakes hlisten]
      simp only [readerEnd, hasm]
    · have hended := readerMessage_noRead htakes hlisten hm
      rw [takeReadResult_nil (s := messageEnded m s) htakes hreads] at hended
      exact ⟨_, hended, rfl, rfl, .intro⟩
    · have hended := readerMessage_noRead htakes hlisten hm
      rw [takeReadResult_cons (s := messageEnded m s) htakes hreads, resolveRead_unbound hp,
        bindByPosition_of_transit (s := setReads rest (messageEnded m s)) hx] at hended
      exact ⟨_, hended, rfl, rfl, rfl, .intro⟩
    · intro due
      have hended := readerMessage_noRead htakes hlisten hm
      rw [takeReadResult_cons (s := messageEnded m s) htakes hreads] at hended
      have hdue := readDeadlineExpiry_due (s := due) (before := []) rfl rfl (by simp) rfl
      refine ⟨_, hdue, hended.trans (congrArg _ ?_)⟩
      exact resolveRead_lineRun p (setReads rest (messageEnded m s))

end Sys2Proof.Machine

namespace Sys2Proof.Machine

/-! PROOFS. The exchange memory and ATTN under every step: a property that the unit's updates keep, and that full reset and the
end of CLEARING keep, holds after every step (R169, R192, R195). -/

/-- A property of the Exchange Memory Unit that its updates, a full reset and the end of CLEARING keep. -/
structure Exchange.Invariant (P : Exchange → Prop) : Prop extends Exchange.Closed P where
  reset : P State.reset.exch
  cleared : ∀ e : Exchange, P e → P { e with mem := [] }

theorem Exchange.invariant_wf : Exchange.Invariant (fun e => Mem.wf e.mem = true) where
  toClosed := Exchange.closed_wf
  reset := reset_mem_wf
  cleared _ _ := cleared_wf

theorem Exchange.invariant_attn : Exchange.Invariant (fun e => e.attn = decide (e.notice &&& e.mask ≠ 0)) where
  toClosed := Exchange.closed_attn
  reset := rfl
  cleared _ hp := hp

section ExchangeInvariant

variable {P : Exchange → Prop} {s t : State}

theorem exch_of_same (hs : P s.exch) (h : t.exch = s.exch := by simp) : P t.exch := h ▸ hs

theorem Exchange.Closed.timed {P : Exchange → Prop} (h : Exchange.Closed P) {e : Exchange} (holdoff : Option Nat) (tag : Word)
    (hp : P e) : P { e with holdoff := holdoff, timeTag := tag } :=
  h.counters e e.evWrite e.dropCount holdoff e.suppressed e.logIndex e.wrapCount tag hp

theorem tick_exch (h : Exchange.Closed P) (hs : P s.exch) : P (tick s).exch := by
  unfold tick
  split
  · exact hs
  · exact h.timed _ _ hs

theorem fullReset_exch (h : Exchange.Invariant P) (ht : exec .fullReset s = .next t) : P t.exch := by
  cases ht
  exact h.reset

theorem clearingComplete_exch (h : Exchange.Invariant P) (hs : P s.exch) (ht : exec .clearingComplete s = .next t) :
    P t.exch := by
  cases ht
  split
  · exact changePart_exch h.toClosed _ _ _ (h.cleared _ hs)
  · exact hs

variable (h : Exchange.Closed P) (hs : P s.exch)

include h hs

theorem storeReadEnd_exch (bytes : List Byte) (ht : exec (.storeReadEnd bytes) s = .next t) : P t.exch := by
  cases ht
  split
  · simp only [startScan_frame]
    refine changePart_exch h _ _ _ ?_
    split
    · exact exch_of_same hs
    · exact raiseEvent_exch h _ _ _ _ _ hs
  · exact hs

theorem sampleArrival_exch (count : BitVec 24) (ht : exec (.sampleArrival count) s = .next t) : P t.exch := by
  cases ht
  split
  · exact calSample_exch h _ _ (zeroSetSample_exch h _ _ (zeroTrackSample_exch h _ _ (exch_of_same hs)))
  · exact hs

theorem platformInArrival_exch (ht : exec .platformInArrival s = .next t) : P t.exch := by
  cases ht
  repeat' split
  · exact raiseEvent_exch h _ _ _ _ _ hs
  · exact trackPlatformIn_exch h _ (endCalAveraging_exch h _ _ _ (endZeroSet_exch h _ _ _ (exch_of_same hs)))
  · exact endCalAveraging_exch h _ _ _ hs
  · exact hs

theorem confirmEyeArrival_exch (ht : exec .confirmEyeArrival s = .next t) : P t.exch := by
  cases ht
  repeat' split
  · exact raiseEvent_exch h _ _ _ _ _ hs
  · exact rejectFailed_exch h _ _ hs
  · exact removeWithDrain_exch h _ _ _ hs
  · exact hs

end ExchangeInvariant

/-- Every command keeps the property: it acts on the unit through the operations of Laws/Exchange.lean, or through its blocks'
frames not at all. -/
theorem exec_exch {P : Exchange → Prop} (h : Exchange.Invariant P) (c : Instr) {s t : State} (hs : P s.exch)
    (ht : exec c s = .next t) : P t.exch := by
  have hc := h.toClosed
  cases c with
  | fullReset => exact fullReset_exch h ht
  | clearingComplete => exact clearingComplete_exch h hs ht
  | storeReadEnd bytes => exact storeReadEnd_exch hc hs bytes ht
  | restart value => cases ht; exact hostWrite_exch hc _ _ _ hs
  | noticeClear value => cases ht; exact hostWrite_exch hc _ _ _ hs
  | noticeMaskWrite value => cases ht; exact hostWrite_exch hc _ _ _ hs
  | registerWriteIgnored addr value => cases ht; exact hostWrite_exch hc _ _ _ hs
  | hostMemoryWrite addr value => cases ht; exact hostWrite_exch hc _ _ _ hs
  | sampleArrival count => exact sampleArrival_exch hc hs count ht
  | platformInArrival => exact platformInArrival_exch hc hs ht
  | confirmEyeArrival => exact confirmEyeArrival_exch hc hs ht
  | calSwitchOff => cases ht; exact endCalAveraging_exch hc _ _ _ hs
  | readerMessage => cases ht; exact readerTake_exch hc _ _ hs
  | readerOverlong c => cases ht; exact readerTake_exch hc _ _ hs
  | readerCharacter c => cases ht; exact readerTake_exch hc _ _ hs
  | readerFramingError brk => cases ht; exact readerFramingFault_exch hc _ _ hs
  | dischargeFrame b => cases ht; exact fillerTake_exch hc _ _ hs
  | doseAckFrame b => cases ht; exact fillerTake_exch hc _ _ hs
  | fillerBufferOverrun b => cases ht; exact fillerTake_exch hc _ _ hs
  | fillerCharacter b => cases ht; exact fillerTake_exch hc _ _ hs
  | badFrameCompleted b => cases ht; exact fillerTake_exch hc _ _ hs
  | fillerErroredCharacter c => cases ht; exact fillerReceive_exch hc _ _ hs
  | storeWriteCompared readBack =>
    cases ht
    repeat' split
    · exact hs
    · exact storeSaved_exch hc _ hs
    · exact storeFailed_exch hc _ _ hs
  | storeTimerExpiry =>
    cases ht
    split
    · exact storeFailed_exch hc _ _ hs
    · exact hs
  | refusalHoldoffExpiry =>
    cases ht
    split
    · exact hc.timed _ _ hs
    · exact hs
  | timeWrap =>
    cases ht
    split
    · exact raiseEvent_exch hc _ _ _ _ _ (hc.timed _ _ hs)
    · exact hs
  | converterWatchExpiry =>
    cases ht
    split
    · exact handCause_exch hc _ _ (raiseEvent_exch hc _ _ _ _ _ hs)
    · exact hs
  | platformOutArrival =>
    cases ht
    repeat' split
    · exact raiseEvent_exch hc _ _ _ _ _ hs
    · exact trackPlatformOut_exch hc _ _ (exch_of_same hs)
    · exact hs
  | lineRunRise =>
    cases ht
    split
    · exact changePart_exch hc _ _ _ (endCalAveraging_exch hc _ _ _ (endZeroSet_exch hc _ _ _ hs))
    · exact hs
  | lineRunFall =>
    cases ht
    split
    · exact changePart_exch hc _ _ _ hs
    · exact hs
  | jamTimerExpiry =>
    cases ht
    repeat' split
    · exact jam_exch hc _ _ _ hs
    · exact hs
    · exact hs
  | readerEyeArrival =>
    cases ht
    split
    · exact makeReadRoom_exch hc _ hs
    · exact hs
  | readDeadlineExpiry =>
    cases ht
    repeat' split
    · exact hs
    · exact resolveRead_exch hc _ _ _ hs
    · exact hs
  | gapTimerExpiry =>
    cases ht
    split
    · exact gapExpired_exch hc _ hs
    · exact hs
  | ackTimerExpiry =>
    cases ht
    split
    · exact ackTimedOut_exch hc _ hs
    · exact hs
  | rejectEyeArrival =>
    cases ht
    repeat' split
    · exact kickUnknown_exch hc _ hs
    · exact takeAtEye_exch hc _ _ hs
    · exact hs
  | pastRejectDeadlineExpiry =>
    cases ht
    repeat' split
    · exact hs
    · exact settleDeadline_exch hc _ _ hs
    · exact hs
  | lotMinuteStep =>
    cases ht
    split
    · exact minuteStep_exch hc _ hs
    · exact hs
  | orderScan switchOn =>
    cases ht
    split
    · exact scanNow_exch hc _ hs
    · exact hs
  | transmitFrameEnd | fillerIndexArrival | pulseTimerExpiry | breakEnd link =>
    cases ht
    repeat' split
    all_goals exact exch_of_same hs

end Sys2Proof.Machine

namespace Sys2Proof.Machine

/-! PROOFS. The outputs and the reset source under every command (R63, R101, R169). -/

/-- What a command leaves of the signals: TX of the reader link as it was, REJECT_DRIVE as the driver's state gives it, and a
source that holds the reset only where it held it before. A command whose blocks keep them gives all three by its frame. -/
structure SignalsKept (s t : State) : Prop where
  tx : t.reader.tx = s.reader.tx := by simp
  drive : DriveLegal s → DriveLegal t := by simp [DriveLegal]
  held : t.pins.resetHeld = true → s.pins.resetHeld = true := by simp

/-! #### TX of the reader link -/

@[simp] theorem readerEnd_tx (s : State) : (readerEnd s).reader.tx = s.reader.tx := by
  unfold readerEnd
  split <;> simp

@[simp] theorem readerPut_tx (c : Byte) (s : State) : (readerPut c s).reader.tx = s.reader.tx := by
  unfold readerPut
  repeat' split
  all_goals rfl

@[simp] theorem readerTake_tx (c : Byte) (s : State) : (readerTake c s).reader.tx = s.reader.tx := by
  unfold readerTake
  repeat' split
  · exact readerEnd_tx s
  · rfl
  · exact readerPut_tx c s
  · rfl

@[simp] theorem readerDamage_tx (s : State) : (readerDamage s).reader.tx = s.reader.tx := by
  unfold readerDamage
  split <;> simp

@[simp] theorem readerFramingFault_tx (brk : Bool) (s : State) : (readerFramingFault brk s).reader.tx = s.reader.tx := by
  unfold readerFramingFault
  split
  · exact readerDamage_tx _
  · rfl

/-! #### The Reject Driver (R101) -/

theorem driveLegal_of_reject {s t : State} (h : DriveLegal s) (ht : t.reject = s.reject := by simp) : DriveLegal t := by
  simpa only [DriveLegal, ht] using h

theorem driveLegal_fire (pulse : Nat) (s : State) : DriveLegal (fire pulse s) := rfl

theorem driveLegal_passEye (e : Entry) {s : State} (h : DriveLegal s) : DriveLegal (passEye e s) := by
  unfold passEye
  dsimp only
  split
  · exact driveLegal_of_reject (driveLegal_fire (recipeOf s e.recipe).rejectPulse s)
  · exact driveLegal_of_reject h

theorem driveLegal_takeAtEye (e : Entry) {s : State} (h : DriveLegal s) : DriveLegal (takeAtEye e s) := by
  unfold takeAtEye
  dsimp only
  split
  · exact driveLegal_of_reject h
  · exact driveLegal_passEye _ (driveLegal_of_reject h)

/-- The pulse timer counts down and the driver keeps its state. -/
theorem driveLegal_passUnit {s : State} (h : DriveLegal s) : DriveLegal (passUnit s) := by
  have hkind : (tickReject s.reject).actuator = .idle ↔ s.reject.actuator = .idle := by
    unfold tickReject
    split <;> simp_all
  exact h.trans (decide_eq_decide.mpr (not_congr hkind.symm))

theorem driveLegal_tick {s : State} (h : DriveLegal s) : DriveLegal (tick s) := by
  unfold tick
  split
  · exact h
  · exact driveLegal_passUnit h

/-! #### The commands -/

/-- Every command but FULL_RESET keeps the signals: most by their frames, the driver's and the level inputs' own by name. -/
theorem signalsKept_exec (c : Instr) {s t : State} (hc : c ≠ .fullReset) (ht : exec c s = .next t) : SignalsKept s t := by
  cases c with
  | fullReset => exact absurd rfl hc
  | clearingComplete =>
    cases ht
    split
    · exact { held := by simp [releaseReset] }
    · exact {}
  | rejectEyeArrival =>
    cases ht
    repeat' split
    · exact { drive := fun _ => driveLegal_fire _ _ }
    · exact { drive := driveLegal_takeAtEye _ }
    · exact {}
  | pulseTimerExpiry =>
    cases ht
    split
    · exact { drive := fun _ => rfl }
    · exact {}
  | lineRunRise | lineRunFall =>
    cases ht
    split <;> exact { held := by simp [setLineRun] }
  | orderScan switchOn =>
    cases ht
    split <;> exact { held := by simp [noteSwitch] }
  | _ =>
    cases ht
    repeat' split
    all_goals exact {}

/-! #### The held reset (R169, log 28) -/

/-- The part while a source holds the reset. -/
def heldReset (pins : Pins) (queue : List Instr) : State := { State.reset with pins := pins, pending := queue }

theorem heldLegal_iff {s : State} : HeldLegal s ↔ (s.pins.resetHeld = true → s = heldReset s.pins s.pending) := .rfl

/-- A part that the reset holds is in CLEARING with no timer running: a command moves a level input, releases the reset, resets
the part again, or does nothing. -/
theorem exec_heldReset (c : Instr) {pins : Pins} {queue : List Instr} {t : State}
    (ht : exec c (heldReset pins queue) = .next t) (hheld : t.pins.resetHeld = true) : t = heldReset t.pins t.pending := by
  cases c with
  | clearingComplete =>
    cases ht
    exact absurd hheld (by simp [heldReset, State.reset, releaseReset])
  | readDeadlineExpiry | pastRejectDeadlineExpiry =>
    cases ht
    split <;> rfl
  | fillerErroredCharacter c =>
    cases ht
    unfold fillerReceive
    split <;> rfl
  | breakEnd link =>
    cases ht
    cases link <;> rfl
  | _ => cases ht; rfl

theorem heldLegal_exec (c : Instr) {s t : State} (h : HeldLegal s) (ht : exec c s = .next t) : HeldLegal t := by
  intro hheld
  by_cases hc : c = .fullReset
  · subst hc
    cases ht
    rfl
  · rw [heldLegal_iff.mp h ((signalsKept_exec c hc ht).held hheld)] at ht
    exact exec_heldReset c ht hheld

theorem heldLegal_tick (s : State) : HeldLegal (tick s) := by
  intro hheld
  unfold tick at hheld
  split at hheld
  · exact absurd hheld (by simp [releaseReset])
  · next hfree => exact absurd hheld hfree

/-! #### Every step -/

/-- A step is a unit of time, or a command on the state without it (logs 1, 25). -/
theorem step_cases {s t : State} (h : step s = .next t) :
    t = tick s ∨ ∃ c rest, exec c { s with pending := rest } = .next t := by
  unfold step at h
  split at h
  · cases h; exact .inl rfl
  · next c rest _ => exact .inr ⟨c, rest, h⟩

theorem exch_step {P : Exchange → Prop} (h : Exchange.Invariant P) {s t : State} (hs : P s.exch) (ht : step s = .next t) :
    P t.exch := by
  obtain rfl | ⟨c, rest, hc⟩ := step_cases ht
  · exact tick_exch h.toClosed hs
  · exact exec_exch h c (s := { s with pending := rest }) hs hc

theorem driveLegal_step {s t : State} (h : DriveLegal s) (ht : step s = .next t) : DriveLegal t := by
  obtain rfl | ⟨c, rest, hc⟩ := step_cases ht
  · exact driveLegal_tick h
  · by_cases hreset : c = .fullReset
    · subst hreset
      cases hc
      rfl
    · exact (signalsKept_exec c hreset hc).drive h

theorem readerTxLegal_tick {s : State} (h : ReaderTxLegal s) : ReaderTxLegal (tick s) := by
  unfold tick
  split <;> exact h

theorem readerTxLegal_step {s t : State} (h : ReaderTxLegal s) (ht : step s = .next t) : ReaderTxLegal t := by
  obtain rfl | ⟨c, rest, hc⟩ := step_cases ht
  · exact readerTxLegal_tick h
  · by_cases hreset : c = .fullReset
    · subst hreset
      cases hc
      rfl
    · exact (signalsKept_exec c hreset hc).tx.trans h

theorem heldLegal_step {s t : State} (h : HeldLegal s) (ht : step s = .next t) : HeldLegal t := by
  obtain rfl | ⟨c, rest, hc⟩ := step_cases ht
  · exact heldLegal_tick s
  · exact heldLegal_exec c (s := { s with pending := rest }) (fun hheld => by rw [h hheld]) hc

/-- Settles O53: memory and ATTN by the updates of the Exchange Memory Unit, the signals by the commands that touch them, and the
held reset by what a command can do in it. -/
theorem everyStepKeepsTheMemoryAndTheOutputs : Obligations.EveryStepKeepsTheMemoryAndTheOutputs := by
  intro s t ht
  exact ⟨fun h => exch_step Exchange.invariant_wf h ht, fun h => exch_step Exchange.invariant_attn h ht,
    fun h => driveLegal_step h ht, fun h => readerTxLegal_step h ht, fun h => heldLegal_step h ht⟩

end Sys2Proof.Machine

namespace Sys2Proof.Machine

/-! PROOFS. The form check of a reader message: what it takes as a code is what the code spells (R69, R70). -/

/-! #### Digits and grades -/

/-- The character of a digit. -/
def digitChar (n : Nat) : Byte := BitVec.ofNat 8 (48 + n)

/-- The letter of a grade. -/
def gradeChar : Grade → Byte
  | .a => 0x41#8
  | .b => 0x42#8
  | .c => 0x43#8
  | .d => 0x44#8
  | .f => 0x46#8

theorem isDigit_iff {c : Byte} : isDigit c = true ↔ 48 ≤ c.toNat ∧ c.toNat ≤ 57 := by simp [isDigit]

theorem eq_digitChar_iff {c : Byte} {n : Nat} (h : n ≤ 9) : c = digitChar n ↔ c.toNat = 48 + n := by
  rw [← BitVec.toNat_inj, digitChar, BitVec.toNat_ofNat, Nat.mod_eq_of_lt (by omega)]

theorem gradeOfChar_eq_some {c : Byte} {g : Grade} : gradeOfChar c = some g ↔ c = gradeChar g := by
  constructor
  · intro h
    unfold gradeOfChar at h
    split_ifs at h <;> cases h <;> assumption
  · rintro rfl
    cases g <;> rfl

/-- Three digits spell a mark where they are the characters of its hundreds, tens and units. -/
theorem markOf_eq_iff {a b c : Byte} {mark : Nat} :
    ((isDigit a && isDigit b && isDigit c) = true ∧ markOf a b c = mark) ↔
      mark ≤ 999 ∧ a = digitChar (mark / 100) ∧ b = digitChar (mark / 10 % 10) ∧ c = digitChar (mark % 10) := by
  by_cases hmark : mark ≤ 999
  · rw [eq_digitChar_iff (by omega), eq_digitChar_iff (by omega), eq_digitChar_iff (by omega)]
    simp only [Bool.and_eq_true, isDigit_iff, markOf]
    omega
  · simp only [Bool.and_eq_true, isDigit_iff, markOf]
    omega

/-! #### The parts of a message -/

/-- The characters that a code puts behind its lot text and the first separator (R69). -/
def codeTail (mark : Nat) (g : Grade) : List Byte :=
  [digitChar (mark / 100), digitChar (mark / 10 % 10), digitChar (mark % 10), charSep, gradeChar g]

/-- The characters of a lot text that the form check takes (R70). -/
def LotTextLegal (text : List Byte) : Prop :=
  1 ≤ text.length ∧ text.length ≤ 12 ∧ ∀ c ∈ text, printable c = true

theorem parseGrade_eq_code {text text' : List Byte} {mark mark' : Nat} {g : Grade} {m : List Byte} :
    parseGrade text mark m = .ok (.code text' mark' g) ↔ text = text' ∧ mark = mark' ∧ m = [gradeChar g] := by
  unfold parseGrade
  split
  · simp
  · next c t =>
    split
    · next hnone => simp [← gradeOfChar_eq_some, hnone]
    · next grade hsome =>
      cases t <;> simp [← gradeOfChar_eq_some, hsome]

theorem parseMark_eq_code {text text' : List Byte} {mark : Nat} {g : Grade} {m : List Byte} :
    parseMark text m = .ok (.code text' mark g) ↔ text = text' ∧ mark ≤ 999 ∧ m = codeTail mark g := by
  constructor
  · intro h
    unfold parseMark at h
    split at h
    · next a b c t =>
      split at h
      · next hdigits =>
        split at h
        · cases h
        · next sep u =>
          split at h
          · next hsep =>
            obtain ⟨htext, hmark, rfl⟩ := parseGrade_eq_code.mp h
            obtain ⟨hrange, rfl, rfl, rfl⟩ := markOf_eq_iff.mp ⟨hdigits, hmark⟩
            exact ⟨htext, hrange, by rw [hsep, codeTail]⟩
          · cases h
      · cases h
    · cases h
  · rintro ⟨rfl, hrange, rfl⟩
    obtain ⟨hdigits, hmark⟩ := markOf_eq_iff.mpr ⟨hrange, rfl, rfl, rfl⟩
    simp only [parseMark, codeTail, hdigits, if_true, hmark]
    exact parseGrade_eq_code.mpr ⟨rfl, rfl, rfl⟩

/-! #### The message at its first separator -/

theorem parseCode_of_no_separator {m : List Byte} (h : charSep ∉ m) : parseCode m = .error 1 := by
  have hall : m.all (fun c => decide (c ≠ charSep)) = true := by simpa using List.forall_mem_ne'.mpr h
  simp only [parseCode, hall, if_true]

theorem parseCode_at_separator {text rest : List Byte} (h : charSep ∉ text) : parseCode (text ++ charSep :: rest) =
    if text.isEmpty || decide (12 < text.length) || !text.all printable then .error 2 else parseMark text rest := by
  have hsep : ¬(text ++ charSep :: rest).all (fun c => decide (c ≠ charSep)) = true := by simp
  have htext : (text ++ charSep :: rest).takeWhile (fun c => decide (c ≠ charSep)) = text := by
    rw [List.takeWhile_append_of_pos (by simpa using List.forall_mem_ne'.mpr h)]
    simp
  have hrest : (text ++ charSep :: rest).drop (text.length + 1) = rest := by simp
  rw [parseCode, if_neg hsep]
  dsimp only
  rw [htext, hrest]

theorem lotTextLegal_iff {text : List Byte} :
    (text.isEmpty || decide (12 < text.length) || !text.all printable) = false ↔ LotTextLegal text := by
  simp [LotTextLegal, Nat.one_le_iff_ne_zero, and_assoc]

/-- A message is a code where a legal lot text stands before the first separator and the code's mark and grade behind it. -/
theorem parseCode_eq_code {m text : List Byte} {mark : Nat} {g : Grade} : parseCode m = .ok (.code text mark g) ↔
    LotTextLegal text ∧ charSep ∉ text ∧ mark ≤ 999 ∧ m = text ++ charSep :: codeTail mark g := by
  constructor
  · intro h
    by_cases hsep : charSep ∈ m
    · obtain ⟨before, rest, rfl, hbefore⟩ := List.eq_append_cons_of_mem hsep
      rw [parseCode_at_separator hbefore] at h
      split at h
      · cases h
      · next hlegal =>
        obtain ⟨rfl, hmark, rfl⟩ := parseMark_eq_code.mp h
        exact ⟨lotTextLegal_iff.mp (Bool.eq_false_iff.mpr hlegal), hbefore, hmark, rfl⟩
    · rw [parseCode_of_no_separator hsep] at h
      cases h
  · rintro ⟨hlegal, hsep, hmark, rfl⟩
    rw [parseCode_at_separator hsep, lotTextLegal_iff.mpr hlegal]
    exact parseMark_eq_code.mpr ⟨rfl, hmark, rfl⟩

/-- Settles O29: the message is cut at its first separator, and each part is what the code spells. -/
theorem codeMessagesAreParsedExactly : Obligations.CodeMessagesAreParsedExactly := by
  intro m text mark g digit letter
  have hletter : letter = gradeChar g := by cases g <;> rfl
  have htail : [0x3B#8, digit (mark / 100), digit (mark / 10 % 10), digit (mark % 10), 0x3B#8, letter] =
      charSep :: codeTail mark g := by rw [hletter]; rfl
  have hchars : (∀ c ∈ text, 0x20 ≤ c.toNat ∧ c.toNat ≤ 0x7E ∧ c ≠ 0x3B#8) ↔
      (∀ c ∈ text, printable c = true) ∧ charSep ∉ text := by
    rw [← List.forall_mem_ne', ← forall₂_and]
    simp only [printable, charSep, Bool.and_eq_true, decide_eq_true_eq, and_assoc]
  rw [parseCode_eq_code, htail, hchars]
  simp only [LotTextLegal, and_assoc]

end Sys2Proof.Machine

namespace Sys2Proof.Machine

/-! PROOFS. The filler link: a character by the assembler's state, the judgement of a character and of a frame, and what ends a
frame before its time (R75 to R81, R87). -/

/-! ### The judgements -/

theorem oddOnes_iff {c : LineChar} : oddOnes c = true ↔
    (((List.range 8).filter (fun k => c.data.getLsbD k)).length + (if c.parity then 1 else 0)) % 2 = 1 := by
  rw [oddOnes, decide_eq_true_eq]
  split <;> omega

theorem judgeCharacter_of_stop_low {c : LineChar} (h : c.stopIdle = false) :
    judgeCharacter c = some (if c.held then .lineBreak else .framing) := by
  simp only [judgeCharacter, h, Bool.not_false, if_true]

theorem judgeCharacter_of_odd {c : LineChar} (h : c.stopIdle = true) (hodd : oddOnes c = true) :
    judgeCharacter c = some .parity := by
  simp only [judgeCharacter, h, Bool.not_true, Bool.false_eq_true, if_false, hodd, if_true]

theorem judgeCharacter_of_even {c : LineChar} (h : c.stopIdle = true) (heven : ¬oddOnes c = true) :
    judgeCharacter c = none := by
  simp only [judgeCharacter, h, Bool.not_true, Bool.false_eq_true, if_false, heven]

theorem judge_of_sum {f : Frame} (hsum : f.sum ≠ 0) : judge f = .bad 1 := if_pos hsum

theorem judge_of_kind {f : Frame} (hsum : f.sum = 0) (hkind : f.kind ≠ kindDischarge ∧ f.kind ≠ kindDoseAck) :
    judge f = .bad 2 := by
  rw [judge, if_neg (not_not.mpr hsum), if_pos hkind]

theorem judge_of_length {f : Frame} (hsum : f.sum = 0) (hkind : f.kind = kindDischarge ∨ f.kind = kindDoseAck)
    (hlen : f.len ≠ 3) : judge f = .bad 3 := by
  rw [judge, if_neg (not_not.mpr hsum), if_neg (fun h => hkind.elim h.1 h.2), if_pos hlen]

theorem judge_of_result {f : Frame} (hsum : f.sum = 0) (hkind : f.kind = kindDoseAck) (hlen : f.len = 3)
    (h1 : f.byteAt 2 ≠ 1) (h2 : f.byteAt 2 ≠ 2) (h3 : f.byteAt 2 ≠ 3) : judge f = .bad 5 := by
  have hack : ¬f.kind = kindDischarge := by
    rw [hkind]
    decide
  rw [judge, if_neg (not_not.mpr hsum), if_neg (fun h => h.2 hkind), if_neg (not_not.mpr hlen), if_neg hack, ackResultOf,
    if_neg h1, if_neg h2, if_neg h3]

/-! ### A good character, by the assembler's state (R78, R79, R81) -/

theorem fillerListens_of_awake {s : State} (hawake : s.part.state ≠ .clearing) (hlisten : s.filler.receiver ≠ .heldLow) :
    fillerListens s = true := by
  simp [fillerListens, awake_iff.mpr hawake, hlisten]

theorem fillerTake_deaf {s : State} (h : s.filler.receiver = .heldLow) (b : Byte) : fillerTake b s = s := by
  simp [fillerTake, fillerListens, h]

section FillerCharacters

variable {b : Byte} {s : State} (hlisten : fillerListens s = true)

include hlisten

theorem fillerTake_hunt_other (hasm : s.filler.asm = .hunt) (hb : b ≠ leadByte) : fillerTake b s = s := by
  simp only [fillerTake, hlisten, if_true, hasm, if_neg hb]

theorem fillerTake_hunt_lead (hasm : s.filler.asm = .hunt) (hb : b = leadByte) :
    fillerTake b s = { s with filler := { s.filler.dropped with asm := .kind, gap := gapLoad } } := by
  simp only [fillerTake, hlisten, if_true, hasm, if_pos hb]

theorem fillerTake_kind (hasm : s.filler.asm = .kind) :
    fillerTake b s =
      { s with filler := { s.filler with asm := .length, kind := b, sum := s.filler.sum + b, gap := gapLoad } } := by
  simp only [fillerTake, hlisten, if_true, hasm]

theorem fillerTake_length (hasm : s.filler.asm = .length) :
    fillerTake b s = { s with filler :=
      { s.filler with
        asm := if b = 0 then .check else .payload, len := b, sum := s.filler.sum + b, gap := gapLoad } } := by
  simp only [fillerTake, hlisten, if_true, hasm]

theorem fillerTake_payload (hasm : s.filler.asm = .payload) (hroom : s.filler.payload.length < 72) :
    fillerTake b s = { s with filler := s.filler.takePayload b } := by
  simp only [fillerTake, hlisten, if_true, hasm, if_pos hroom]

theorem fillerTake_overrun (hasm : s.filler.asm = .payload) (hfull : 72 ≤ s.filler.payload.length) :
    fillerTake b s = raiseLineEvent .fillerCharError 3 3 75 (dropFrame s) := by
  simp only [fillerTake, hlisten, if_true, hasm, if_neg (Nat.not_lt.mpr hfull), dropFrame]

theorem fillerTake_check (hasm : s.filler.asm = .check) :
    fillerTake b s = settleFrame (s.filler.completed b) (dropFrame s) := by
  simp only [fillerTake, hlisten, if_true, hasm, dropFrame]

end FillerCharacters

/-! ### The end of a frame before its time (R76, R80, R81) -/

/-- The frame discarded, and the receiver as the line leaves it (R75, R76). -/
@[simp] def faultedFrame (r : Receiver) (s : State) : State := { s with filler := { s.filler.dropped with receiver := r } }

section Discards

variable {s : State} (htakes : s.takesCans = true)

include htakes

theorem gapExpired_taken : gapExpired s =
    raiseEvent .fillerFrameBad 4 (wordOfNat s.filler.kindArrived.toNat) (wordOfNat s.filler.received) (dropFrame s) :=
  raiseLineEvent_taken (s := dropFrame s) htakes ..

theorem settleFrame_bad {f : Frame} {test : Nat} (h : judge f = .bad test) :
    settleFrame f s = raiseEvent .fillerFrameBad test (wordOfNat f.kind.toNat) (wordOfNat f.len.toNat) s := by
  simp only [settleFrame, h, raiseLineEvent_taken htakes]

theorem exec_fillerErroredCharacter {c : LineChar} {fault : CharFault} (hlisten : s.filler.receiver ≠ .heldLow)
    (hfault : judgeCharacter c = some fault) : exec (.fillerErroredCharacter c) s =
      .next (raiseEvent .fillerCharError (charFaultCode fault) (wordOfNat s.filler.asm.code) (wordOfNat s.filler.received)
        (faultedFrame (if fault = .lineBreak then .heldLow else .waiting) s)) := by
  have hlistens := fillerListens_of_awake (awake_iff.mp (awake_of_takesCans htakes)) hlisten
  simp only [exec, execFillerErroredCharacter, fillerReceive, hfault, fillerFault, hlistens, if_true]
  rw [raiseLineEvent_taken (by exact htakes)]
  rfl

end Discards

/-- The kind byte is shown from LENGTH on (R80). -/
theorem wordOfNat_kindArrived (p : FillerPort) : wordOfNat p.kindArrived.toNat =
    if p.asm = .hunt ∨ p.asm = .kind then 0 else BitVec.ofNat 32 p.kind.toNat := by
  cases h : p.asm <;> simp [FillerPort.kindArrived, h, wordOfNat]

/-! ### The transmitter (R87) -/

theorem exec_transmitFrameEnd {s : State} {frame : List Byte} {spent : Nat} (htx : s.filler.tx = .sending frame spent) :
    exec .transmitFrameEnd s = .next (if charSpan * frame.length ≤ spent then frameEnded s else s) := by
  simp only [exec, execTransmitFrameEnd, htx]

/-- Settles O30: a character by the assembler's state, an early end by its cause, and a damaged frame by its first failing test. -/
theorem theFillerLinkTakesAndDiscardsFrames : Obligations.TheFillerLinkTakesAndDiscardsFrames := by
  intro c b frame spent s p ones q bytes state reports
  refine ⟨fun hawake hreceiver => ?_, fun htakes hreceiver => ?_, fun htx hsent => ?_, fun htx hunsent => ?_, fun hlow => ?_,
    fun hlow b => congrArg Host.Outcome.next (fillerTake_deaf hlow b)⟩
  · intro becomes
    have hlisten := fillerListens_of_awake hawake hreceiver
    have hbecomes {q : FillerPort} (h : fillerTake b s = { s with filler := q }) : becomes q :=
      ⟨_, congrArg Host.Outcome.next h, rfl, .intro⟩
    refine ⟨fun hasm hb => congrArg Host.Outcome.next (fillerTake_hunt_other hlisten hasm hb),
      fun hasm hb => hbecomes (fillerTake_hunt_lead hlisten hasm hb), fun hasm => hbecomes (fillerTake_kind hlisten hasm),
      fun hasm hb => hbecomes ?_, fun hasm hb => hbecomes ?_, fun hasm hroom hlast => hbecomes ?_,
      fun hasm hroom hmore => hbecomes ?_⟩
    · rw [fillerTake_length hlisten hasm, if_pos hb]
      rfl
    · rw [fillerTake_length hlisten hasm, if_neg hb]
      rfl
    · rw [fillerTake_payload hlisten hasm hroom, FillerPort.takePayload, if_pos hlast]
      rfl
    · rw [fillerTake_payload hlisten hasm hroom, FillerPort.takePayload, if_neg hmore]
      rfl
  · intro errs
    have hlisten := fillerListens_of_awake (awake_iff.mp (awake_of_takesCans htakes)) hreceiver
    have hstate : p.asm.code = state := by
      simp only [state]
      cases p.asm <;> rfl
    have hbytes : p.received = bytes := by
      simp only [bytes, FillerPort.received]
      cases p.asm <;> rfl
    have herrs {fault : CharFault} (h : judgeCharacter c = some fault) :
        errs (charFaultCode fault) (if fault = .lineBreak then .heldLow else .waiting) :=
      ⟨_, exec_fillerErroredCharacter htakes hreceiver h, rfl, by rw [← hstate, ← hbytes]; rfl, .intro⟩
    have hreports {test : Nat} (hasm : p.asm = .check) (h : judge (p.completed b) = .bad test) : reports test :=
      ⟨_, congrArg Host.Outcome.next
        ((fillerTake_check hlisten hasm).trans (settleFrame_bad (s := dropFrame s) htakes h)), rfl, rfl, .intro⟩
    refine ⟨fun hstop => ?_, fun hstop hodd => herrs (judgeCharacter_of_odd hstop (oddOnes_iff.mpr hodd)),
      fun hstop heven => ?_, fun hasm hfull => ?_, fun hgap => ?_, fun hasm hsum => hreports hasm (judge_of_sum hsum),
      fun hasm hsum hdischarge hack => hreports hasm (judge_of_kind hsum ⟨hdischarge, hack⟩),
      fun hasm hsum hkind hlen => hreports hasm (judge_of_length hsum hkind hlen),
      fun hasm hsum hkind hlen h1 h2 h3 => hreports hasm (judge_of_result hsum hkind hlen h1 h2 h3)⟩
    · have hstopped := herrs (judgeCharacter_of_stop_low hstop)
      cases hheld : c.held <;> simpa [hheld, charFaultCode] using hstopped
    · have hgood : judgeCharacter c = none := judgeCharacter_of_even hstop (by
        rw [oddOnes_iff]
        exact fun hodd => absurd (heven.symm.trans hodd) (by decide))
      simp only [exec, execFillerErroredCharacter, execFillerCharacter, fillerReceive, hgood]
    · have hdropped := (fillerTake_overrun (b := b) hlisten hasm hfull).trans (raiseLineEvent_taken (s := dropFrame s) htakes ..)
      exact ⟨_, congrArg Host.Outcome.next hdropped, rfl, rfl, .intro⟩
    · have hexec : exec .gapTimerExpiry s = .next (gapExpired s) := congrArg Host.Outcome.next (if_pos hgap)
      rw [hexec, gapExpired_taken htakes, wordOfNat_kindArrived, hbytes]
      exact ⟨_, rfl, rfl, rfl, .intro⟩
  · rw [exec_transmitFrameEnd htx, if_pos (show charSpan * frame.length ≤ spent from hsent)]
    refine ⟨_, rfl, fun hnone => ?_, fun next hnext => ?_, .intro⟩
    · simp only [frameEnded, hnone]
    · simp only [frameEnded, hnext]
  · rw [exec_transmitFrameEnd htx, if_neg (show ¬charSpan * frame.length ≤ spent from Nat.not_le.mpr hunsent)]
  · have hended : exec (.breakEnd .filler) s = .next { s with filler := { s.filler with receiver := .waiting } } :=
      congrArg Host.Outcome.next (if_pos hlow)
    exact ⟨_, hended, rfl, .intro⟩

end Sys2Proof.Machine

namespace Sys2Proof.Machine

/-! PROOFS. A FILLER_INDEX pulse and the ack timer: the message that a pulse builds or resends, and the valves of an update in the
order of their examination (R122, R137 to R142). -/

/-- The first twenty valves of an order that pass a test, where the order follows a place of each valve: what is left out passes
after twenty others. -/
theorem selectValves_spec {place : Nat → Nat} {order : List Nat} (horder : order.Pairwise (fun a b => place a < place b))
    (test : Nat → Bool) (carried : Nat → Int) :
    (selectValves order test carried).length ≤ 20 ∧
    (selectValves order test carried).Pairwise (fun a b => place a.1 < place b.1) ∧
    (∀ a ∈ selectValves order test carried, a.1 ∈ order ∧ a.2 = carried a.1 ∧ test a.1 = true) ∧
    (∀ v ∈ order, test v = true → v ∈ (selectValves order test carried).map (·.1) ∨
      ((selectValves order test carried).length = 20 ∧ ∀ a ∈ selectValves order test carried, place a.1 < place v)) := by
  have hsplit := List.take_append_drop 20 (order.filter test)
  have hpass : ((order.filter test).take 20 ++ (order.filter test).drop 20).Pairwise (fun a b => place a < place b) := by
    rw [hsplit]
    exact horder.filter _
  obtain ⟨hfirst, -, hbefore⟩ := List.pairwise_append.mp hpass
  have hnumbers : (selectValves order test carried).map (·.1) = (order.filter test).take 20 := by
    simp [selectValves, Function.comp_def]
  refine ⟨by simp [selectValves], ?_, ?_, fun v hv htest => ?_⟩
  · rw [← hnumbers, List.pairwise_map] at hfirst
    exact hfirst
  · intro a ha
    obtain ⟨v, hv, rfl⟩ := List.mem_map.mp ha
    obtain ⟨hmem, htest⟩ := List.mem_filter.mp (List.mem_of_mem_take hv)
    exact ⟨hmem, rfl, htest⟩
  · have hv' : v ∈ order.filter test := List.mem_filter.mpr ⟨hv, htest⟩
    rw [← hsplit, List.mem_append] at hv'
    rw [hnumbers]
    refine hv'.imp_right fun hrest => ⟨?_, fun a ha => ?_⟩
    · have hlong : 0 < ((order.filter test).drop 20).length := List.length_pos_of_mem hrest
      rw [List.length_drop] at hlong
      rw [selectValves, List.length_map, List.length_take]
      omega
    · exact hbefore _ (hnumbers ▸ List.mem_map_of_mem ha) v hrest

theorem selectValves_ne_nil {order : List Nat} {test : Nat → Bool} {v : Nat} (hv : v ∈ order) (htest : test v = true)
    (carried : Nat → Int) : selectValves order test carried ≠ [] := by
  intro h
  have hnone : order.filter test = [] := by simpa [selectValves] using h
  exact absurd (List.mem_filter.mpr ⟨hv, htest⟩) (by simp [hnone])

/-- The place of a valve in the examination that starts at the valve after the round-robin position (R139). -/
def examinationPlace (rr V v : Nat) : Nat :=
  let start := if rr = 0 ∨ V ≤ rr then 1 else rr + 1
  if start ≤ v then v - start else V - start + v

/-- The order is 1 to V from its start on, then the valves before the start. -/
theorem examinationOrder_of_wrapped {rr V : Nat} (h : rr = 0 ∨ V ≤ rr) : examinationOrder rr V = List.range' 1 V := by
  simp [examinationOrder, h]

theorem examinationOrder_of_inside {rr V : Nat} (h : ¬(rr = 0 ∨ V ≤ rr)) :
    examinationOrder rr V = List.range' (rr + 1) (V - rr) ++ List.range' 1 rr := by
  simp [examinationOrder, h]

theorem mem_examinationOrder {rr V v : Nat} : v ∈ examinationOrder rr V ↔ 1 ≤ v ∧ v ≤ V := by
  by_cases h : rr = 0 ∨ V ≤ rr
  · rw [examinationOrder_of_wrapped h, List.mem_range'_1]
    omega
  · rw [examinationOrder_of_inside h, List.mem_append, List.mem_range'_1, List.mem_range'_1]
    omega

/-- A run of numbers follows a place that rises with them. -/
theorem range'_pairwise {place : Nat → Nat} {start n : Nat}
    (h : ∀ a b, start ≤ a → a < b → b < start + n → place a < place b) :
    (List.range' start n).Pairwise (fun a b => place a < place b) := by
  refine (List.pairwise_lt_range' (s := start) (n := n)).imp_of_mem fun ha hb hab => ?_
  rw [List.mem_range'_1] at ha hb
  exact h _ _ ha.1 hab hb.2

theorem examinationOrder_pairwise (rr V : Nat) :
    (examinationOrder rr V).Pairwise (fun a b => examinationPlace rr V a < examinationPlace rr V b) := by
  by_cases h : rr = 0 ∨ V ≤ rr
  · rw [examinationOrder_of_wrapped h]
    refine range'_pairwise fun a b ha hab hb => ?_
    simp only [examinationPlace, if_pos h]
    split <;> split <;> omega
  · have hplace (v : Nat) : examinationPlace rr V v = if rr + 1 ≤ v then v - (rr + 1) else V - (rr + 1) + v := by
      simp only [examinationPlace, if_neg h]
    rw [examinationOrder_of_inside h]
    refine List.pairwise_append.mpr ⟨range'_pairwise fun a b ha hab hb => ?_, range'_pairwise fun a b ha hab hb => ?_,
      fun a ha b hb => ?_⟩
    · rw [hplace, hplace, if_pos ha, if_pos (by omega)]
      omega
    · rw [hplace, hplace, if_neg (by omega), if_neg (by omega)]
      omega
    · rw [List.mem_range'_1] at ha hb
      rw [hplace, hplace, if_pos ha.1, if_neg (by omega)]
      omega

theorem clampAbs_eq_max (m : Nat) (x : Int) : clampAbs m x = max (-(m : Int)) (min m x) := by
  unfold clampAbs clampTo
  split
  · omega
  · split <;> omega

/-! ### The message handed over -/

/-- A valve of an update takes its generation where it stands in WAIT_EFFECT (R122). -/
theorem valveAt_firstSend {g : Gen} {list : List (Nat × Int)} {s : State} {v : Nat} (hlow : 1 ≤ v)
    (hhigh : v ≤ s.valves.table.length) : valveAt (firstSend g list s) v =
      if v ∈ list.map (·.1) ∧ (valveAt s v).state = .waitEffect then { valveAt s v with awaitedGen := some g }
      else valveAt s v := by
  have hne : v ≠ 0 := by omega
  have hlisted : list.any (fun p => p.1 == v) = true ↔ v ∈ list.map (·.1) := by simp
  have htable : (firstSend g list s).valves.table.getD (v - 1) Valve.afterReset =
      if (valveAt s v).state = .waitEffect && list.any (fun p => p.1 == v) then { valveAt s v with awaitedGen := some g }
      else valveAt s v := by
    rw [firstSend, mapValves_table, mapFrom_getD _ _ _ _ _ Valve.afterReset (by omega), Nat.add_sub_cancel' hlow, valveAt,
      numbered, if_neg hne]
  rw [valveAt, numbered, if_neg hne, htable]
  simp only [Bool.and_eq_true, decide_eq_true_eq, hlisted, and_comm]

theorem mapFrom_length {α β : Type} (f : Nat → α → β) (n : Nat) (l : List α) : (mapFrom f n l).length = l.length := by
  induction l generalizing n with
  | nil => rfl
  | cons x l ih => rw [mapFrom, List.length_cons, List.length_cons, ih]

/-- A built message handed over (R141): sent or waiting, in flight with the ack timer loaded, and handed to the listed valves
(R122). -/
def Launched (m : Message) (s t : State) : Prop :=
  t.filler = transmit (updateFrame m) s.filler ∧ t.dose = { s.dose with inflight := some m, ack := some 400 } ∧
  t.valves.loop = s.valves.loop ∧ t.valves.snapshots = s.valves.snapshots ∧
  t.valves.table.length = s.valves.table.length ∧
  (∀ v, 1 ≤ v → v ≤ s.valves.table.length →
    valveAt t v = (if v ∈ m.list.map (·.1) ∧ (valveAt s v).state = .waitEffect then
      { valveAt s v with awaitedGen := some m.generation } else valveAt s v)) ∧
  ChangesOnly [.filler, .dose, .valves] s t

theorem launch_launched (m : Message) (s : State) : Launched m s (launch m s) :=
  ⟨rfl, rfl, rfl, rfl, mapFrom_length .., fun _ hlow hhigh => valveAt_firstSend hlow hhigh, .intro⟩

theorem dueUpdate_unsynced {s : State} (h : s.dose.served = none) :
    dueUpdate s = some (unsyncedUpdate (activeRecipe s) s) := by simp only [dueUpdate, h]

theorem dueUpdate_changeover {s : State} {g : Gen} {c : PendingChangeover} (h : s.dose.served = some g)
    (hc : s.dose.changeover = some c) : dueUpdate s = some (changeoverUpdate (activeRecipe s) c g s) := by
  simp only [dueUpdate, h, hc]

theorem trimDiffers_any {s : State} {V : Nat} : (List.range' 1 V).any (trimDiffers s) = true ↔
    ∃ v, 1 ≤ v ∧ v ≤ V ∧ (trimAt s v).wanted ≠ (trimAt s v).served := by
  simp only [List.any_eq_true, List.mem_range'_1, trimDiffers, decide_eq_true_eq, and_assoc, Nat.add_comm 1,
    Nat.lt_succ_iff]

theorem dueUpdate_trims {s : State} {g : Gen} (h : s.dose.served = some g) (hc : s.dose.changeover = none)
    (hdiff : ∃ v, 1 ≤ v ∧ v ≤ (activeRecipe s).valveCount ∧ (trimAt s v).wanted ≠ (trimAt s v).served) :
    dueUpdate s = some (trimUpdate (activeRecipe s) g s) := by
  simp only [dueUpdate, h, hc, trimDiffers_any.mpr hdiff, if_true]

theorem dueUpdate_settled {s : State} (h : s.dose.served.isSome = true) (hc : s.dose.changeover = none)
    (hsame : ∀ v, 1 ≤ v → v ≤ (activeRecipe s).valveCount → (trimAt s v).wanted = (trimAt s v).served) :
    dueUpdate s = none := by
  obtain ⟨g, hg⟩ := Option.isSome_iff_exists.mp h
  have hnone : ¬(List.range' 1 (activeRecipe s).valveCount).any (trimDiffers s) = true := by
    rw [trimDiffers_any]
    exact fun ⟨v, hlow, hhigh, hne⟩ => hne (hsame v hlow hhigh)
  simp only [dueUpdate, hg, hc, if_neg hnone]

/-! ### The pulse, by the link state (R137) -/

section Pulse

variable {s : State} (htakes : s.takesCans = true) (hack : s.dose.ack = none)

include htakes hack

theorem pulse_of_up (hlink : s.dose.link = .up) : exec .fillerIndexArrival s = .next (buildAtPulse s) := by
  simp [exec, execFillerIndexArrival, htakes, hack, hlink]

theorem pulse_launches {m : Message} (hlink : s.dose.link = .up) (hidle : s.dose.inflight = none)
    (hdue : dueUpdate s = some m) : exec .fillerIndexArrival s = .next (launch m s) := by
  rw [pulse_of_up htakes hack hlink]
  simp only [buildAtPulse, hidle, hdue]

theorem pulse_of_retry {m : Message} (hlink : s.dose.link = .retry) (hflight : s.dose.inflight = some m) :
    exec .fillerIndexArrival s = .next (sendMessage m s) := by
  simp [exec, execFillerIndexArrival, htakes, hack, hlink, resend, hflight]

theorem pulse_of_down (hlink : s.dose.link = .down) : exec .fillerIndexArrival s = .next (probeAtPulse s) := by
  simp [exec, execFillerIndexArrival, htakes, hack, hlink]

end Pulse

/-! ### The ack timer at its end, by the link state (R142) -/

theorem exec_ackTimerExpiry {s : State} (hack : s.dose.ack = some 0) : exec .ackTimerExpiry s = .next (ackTimedOut s) := by
  simp only [exec, execAckTimerExpiry, hack, if_true]

theorem ackTimedOut_of_up {s : State} (hlink : s.dose.link = .up) :
    ackTimedOut s = { s with dose := { s.dose with ack := none, link := .retry } } := by simp only [ackTimedOut, hlink]

theorem ackTimedOut_of_retry {s : State} {m : Message} (hlink : s.dose.link = .retry) (hflight : s.dose.inflight = some m) :
    ackTimedOut s = raiseEvent .linkDown m.generation.toNat (wordOfNat m.list.length) (wordOfNat (flagNat m.changeover))
      { s with dose := { s.dose with ack := none, link := .down, probe := 0 } } := by
  simp only [ackTimedOut, hlink, linkDownEvent, hflight]

theorem ackTimedOut_of_down {s : State} (hlink : s.dose.link = .down) :
    ackTimedOut s = { s with dose := { s.dose with ack := none } } := by simp only [ackTimedOut, hlink]

/-- Settles O38: a pulse by the link state, and the ack timer's end by the link state it leaves. -/
theorem updatesAreSentAndTimeOut : Obligations.UpdatesAreSentAndTimeOut := by
  intro m s sends
  refine ⟨fun htakes hack => ?_, fun htakes hack hlink hidle hserved => ?_,
    fun htakes hack hlink hidle hserved hchange hsame => ?_, fun htakes hack hlink hflight => ?_,
    fun htakes hack hlink hprobe => ?_, fun htakes hack hlink hprobe hflight => ?_, fun hack hflight hlink => ?_,
    fun hack hflight hlink => ?_, fun hack hflight hlink => ?_⟩
  · obtain ⟨left, hleft⟩ := Option.ne_none_iff_exists'.mp hack
    simp only [exec, execFillerIndexArrival, hleft, Option.isNone_some, Bool.and_false, Bool.false_eq_true, if_false]
  · obtain ⟨hfiller, hdose, hloop, hsnapshots, hlength, hvalves, hframe⟩ :=
      launch_launched (unsyncedUpdate (activeRecipe s) s) s
    obtain ⟨htwenty, hsorted, hcarried, hleft⟩ := selectValves_spec (place := id)
      (range'_pairwise fun a b _ hab _ => hab) (fun v => decide ((trimAt s v).wanted ≠ 0)) (fun v => (trimAt s v).wanted)
      (order := List.range' 1 (activeRecipe s).valveCount)
    refine ⟨_, _, pulse_launches htakes hack hlink hidle (dueUpdate_unsynced hserved), hfiller, hdose, rfl, rfl, rfl, rfl,
      rfl, htwenty, hsorted, fun a ha => ?_, fun v hlow hhigh hne => ?_, hloop, hsnapshots, hlength, hvalves, hframe⟩
    · obtain ⟨hmem, htrim, htest⟩ := hcarried a ha
      rw [List.mem_range'_1] at hmem
      exact ⟨hmem.1, by omega, htrim, htrim ▸ of_decide_eq_true htest⟩
    · exact hleft v (List.mem_range'_1.mpr (by omega)) (decide_eq_true hne)
  · rw [pulse_of_up htakes hack hlink]
    simp only [buildAtPulse, hidle, dueUpdate_settled hserved hchange hsame]
  · exact ⟨_, pulse_of_retry htakes hack hlink hflight, rfl, rfl, .intro⟩
  · rw [pulse_of_down htakes hack hlink, probeAtPulse, if_pos (by omega)]
    exact ⟨_, rfl, rfl, .intro⟩
  · rw [pulse_of_down htakes hack hlink, probeAtPulse, if_neg (by omega)]
    simp only [resend, hflight]
    exact ⟨_, rfl, rfl, rfl, .intro⟩
  · rw [exec_ackTimerExpiry hack, ackTimedOut_of_up hlink]
    exact ⟨_, rfl, rfl, .intro⟩
  · rw [exec_ackTimerExpiry hack, ackTimedOut_of_retry hlink hflight, wordOfNat_flagNat]
    exact ⟨_, rfl, rfl, rfl, .intro⟩
  · rw [exec_ackTimerExpiry hack, ackTimedOut_of_down hlink]
    exact ⟨_, rfl, rfl, .intro⟩

/-- Settles O39: the two updates of a SYNCED table, each a selection from the examination order. -/
theorem anUpdateListsTheChangedValves : Obligations.AnUpdateListsTheChangedValves := by
  intro r g s htakes hack hlink hidle hserved hactive start place lists launches
  have hrecipe : activeRecipe s = r := by rw [activeRecipe, hactive, Option.getD_some]
  have hlaunches {m : Message} (hdue : dueUpdate s = some m) (hgen : m.generation = g + 1) :
      exec .fillerIndexArrival s = .next (launch m s) ∧ launches m (launch m s) := by
    obtain ⟨hfiller, hdose, hloop, hsnapshots, hlength, hvalves, hframe⟩ := launch_launched m s
    rw [hgen] at hvalves
    exact ⟨pulse_launches htakes hack hlink hidle hdue, hfiller, hdose, hloop, hsnapshots, hlength, hvalves, hframe⟩
  have hlists {order : List Nat} {last : Nat} (carried : Nat → Int)
      (horder : order.Pairwise (fun a b => place a < place b)) (hmem : ∀ v, v ∈ order ↔ 1 ≤ v ∧ v ≤ last) :
      lists (selectValves order (fun v => decide (carried v ≠ (trimAt s v).served)) carried) last carried := by
    obtain ⟨htwenty, hsorted, hcarried, hleft⟩ :=
      selectValves_spec horder (fun v => decide (carried v ≠ (trimAt s v).served)) carried
    refine ⟨htwenty, hsorted, fun a ha => ?_, fun v hlow hhigh hne => hleft v ((hmem v).mpr ⟨hlow, hhigh⟩) (decide_eq_true hne)⟩
    obtain ⟨hin, htrim, htest⟩ := hcarried a ha
    obtain ⟨hlow, hhigh⟩ := (hmem _).mp hin
    exact ⟨hlow, hhigh, htrim, htrim ▸ of_decide_eq_true htest⟩
  have hplaced : (examinationOrder s.dose.rr r.valveCount).Pairwise (fun a b => place a < place b) :=
    examinationOrder_pairwise ..
  refine ⟨fun hchange hdiff => ?_, fun c hchange => ?_⟩
  · have hdue := dueUpdate_trims hserved hchange (hrecipe ▸ hdiff)
    obtain ⟨v, hlow, hhigh, hne⟩ := hdiff
    obtain ⟨hexec, hlaunched⟩ := hlaunches hdue rfl
    rw [hrecipe] at hexec hlaunched
    exact ⟨_, _, hexec, hlaunched, rfl,
      selectValves_ne_nil (mem_examinationOrder.mpr ⟨hlow, hhigh⟩) (decide_eq_true hne) _,
      hlists _ hplaced fun _ => mem_examinationOrder⟩
  · obtain ⟨hexec, hlaunched⟩ := hlaunches (dueUpdate_changeover hserved hchange) rfl
    rw [hrecipe] at hexec hlaunched
    refine ⟨_, _, hexec, hlaunched, rfl, fun hclear => if_pos hclear, fun hclear => ?_⟩
    have hcarried : carriedTrim c s = fun v => max (-(c.limit : Int)) (min (c.limit : Int) (trimAt s v).wanted) :=
      funext fun _ => clampAbs_eq_max ..
    have hlist : (changeoverUpdate r c g s).list = selectValves
        ((examinationOrder s.dose.rr r.valveCount).filter (fun v => decide (v ≤ c.valveCount)))
        (fun v => decide (carriedTrim c s v ≠ (trimAt s v).served)) (carriedTrim c s) :=
      if_neg (by simp [hclear])
    rw [← hcarried, hlist]
    refine hlists _ (hplaced.filter _) fun v => ?_
    rw [List.mem_filter, mem_examinationOrder, decide_eq_true_eq]
    omega

end Sys2Proof.Machine

namespace Sys2Proof.Machine

/-! PROOFS. The frame of an update: how long its parts are, its sum, and what of the message its bytes keep (R77, R86). -/

@[simp] theorem natBytes_length (k n : Nat) : (natBytes k n).length = k := by
  induction k with
  | zero => rfl
  | succ k ih => simp [natBytes, ih]

/-- `k` bytes keep a number modulo 256 to the power `k`. -/
theorem natBytes_eq_iff {k n m : Nat} : natBytes k n = natBytes k m ↔ n % 256 ^ k = m % 256 ^ k := by
  induction k with
  | zero => simp [natBytes, Nat.mod_one]
  | succ k ih =>
    have hpos : 0 < 256 ^ k := Nat.pow_pos (by decide)
    have hn := Nat.mod_lt n hpos
    have hm := Nat.mod_lt m hpos
    rw [natBytes, natBytes, List.cons.injEq, ih, Nat.mod_pow_succ, Nat.mod_pow_succ, ← BitVec.toNat_inj,
      BitVec.toNat_ofNat, BitVec.toNat_ofNat]
    constructor
    · rintro ⟨hhigh, hlow⟩
      rw [hlow, hhigh]
    · intro h
      have hlow := congrArg (· % 256 ^ k) h
      have hhigh := congrArg (· / 256 ^ k) h
      simp only [Nat.add_mul_mod_self_left, Nat.mod_mod] at hlow
      simp only [Nat.add_mul_div_left _ _ hpos, Nat.div_eq_of_lt hn, Nat.div_eq_of_lt hm, Nat.zero_add] at hhigh
      exact ⟨hhigh, hlow⟩

theorem natBytes_inj {k n m : Nat} (hn : n < 256 ^ k) (hm : m < 256 ^ k) : natBytes k n = natBytes k m ↔ n = m := by
  rw [natBytes_eq_iff, Nat.mod_eq_of_lt hn, Nat.mod_eq_of_lt hm]

theorem trimBytes_inj {t u : Int} (ht : -20000 ≤ t ∧ t ≤ 20000) (hu : -20000 ≤ u ∧ u ≤ 20000) :
    trimBytes t = trimBytes u ↔ t = u := by
  rw [trimBytes, trimBytes, natBytes_inj (BitVec.isLt _) (BitVec.isLt _), BitVec.toNat_inj]
  constructor
  · intro h
    have hint := congrArg BitVec.toInt h
    rwa [BitVec.toInt_ofInt_eq_self (by decide) (by norm_num; omega) (by norm_num; omega),
      BitVec.toInt_ofInt_eq_self (by decide) (by norm_num; omega) (by norm_num; omega)] at hint
  · rintro rfl
    rfl

/-- A field that a message may leave out, the base or the limit, in `k` bytes. -/
def optionBytes (k : Nat) (x : Option Nat) : List Byte := match x with | some n => natBytes k n | none => []

theorem optionBytes_length (k : Nat) (x : Option Nat) : (optionBytes k x).length = k * flagNat x.isSome := by
  cases x <;> simp [optionBytes, flagNat]

theorem optionBytes_inj {k : Nat} {x y : Option Nat} (hsome : x.isSome = y.isSome) (hx : ∀ n, x = some n → n < 256 ^ k)
    (hy : ∀ n, y = some n → n < 256 ^ k) (h : optionBytes k x = optionBytes k y) : x = y := by
  cases x with
  | none => cases y with
    | none => rfl
    | some m => cases hsome
  | some n => cases y with
    | none => cases hsome
    | some m => exact congrArg some ((natBytes_inj (hx n rfl) (hy m rfl)).mp h)

/-- The three bytes of a listed valve. -/
def settingBytes (p : Nat × Int) : List Byte := BitVec.ofNat 8 p.1 :: trimBytes p.2

@[simp] theorem settingBytes_length (p : Nat × Int) : (settingBytes p).length = 3 := by simp [settingBytes, trimBytes]

theorem settings_length (l : List (Nat × Int)) : (l.flatMap settingBytes).length = 3 * l.length := by
  induction l with
  | nil => rfl
  | cons p l ih => rw [List.flatMap_cons, List.length_append, ih, settingBytes_length, List.length_cons]; ring

/-- A listed valve and its trim lie in the manual's ranges. -/
def SettingRanged (p : Nat × Int) : Prop := 1 ≤ p.1 ∧ p.1 ≤ 128 ∧ -20000 ≤ p.2 ∧ p.2 ≤ 20000

theorem settingBytes_inj {p q : Nat × Int} (hp : SettingRanged p) (hq : SettingRanged q) (h : settingBytes p = settingBytes q) :
    p = q := by
  obtain ⟨-, hvp, htp⟩ := hp
  obtain ⟨-, hvq, htq⟩ := hq
  rw [settingBytes, settingBytes, List.cons.injEq, trimBytes_inj htp htq] at h
  obtain ⟨hvalve, htrim⟩ := h
  have hnat := congrArg BitVec.toNat hvalve
  rw [BitVec.toNat_ofNat, BitVec.toNat_ofNat, Nat.mod_eq_of_lt (by omega), Nat.mod_eq_of_lt (by omega)] at hnat
  exact Prod.ext hnat htrim

/-- Each valve takes three bytes, so the list is read back valve by valve. -/
theorem settings_inj {l l' : List (Nat × Int)} (hl : ∀ p ∈ l, SettingRanged p) (hl' : ∀ p ∈ l', SettingRanged p)
    (h : l.flatMap settingBytes = l'.flatMap settingBytes) : l = l' := by
  induction l generalizing l' with
  | nil =>
    have hlen := congrArg List.length h
    rw [settings_length, settings_length] at hlen
    exact (List.length_eq_zero_iff.mp (by simpa using hlen.symm)).symm
  | cons p l ih =>
    cases l' with
    | nil => simp [settingBytes] at h
    | cons q l' =>
      rw [List.forall_mem_cons] at hl hl'
      obtain ⟨hhead, htail⟩ := List.append_inj h (by simp)
      rw [settingBytes_inj hl.1 hl'.1 hhead, ih hl.2 hl'.2 htail]

/-- The flag byte of a payload. -/
def flagByte (m : Message) : Byte := BitVec.ofNat 8 (flagNat m.base.isSome + 2 * flagNat m.limit.isSome + 4 * flagNat m.clear)

theorem flagByte_inj {m k : Message} (h : flagByte m = flagByte k) :
    m.base.isSome = k.base.isSome ∧ m.limit.isSome = k.limit.isSome ∧ m.clear = k.clear := by
  have hbits : ∀ a b c a' b' c' : Bool, BitVec.ofNat 8 (flagNat a + 2 * flagNat b + 4 * flagNat c) =
      BitVec.ofNat 8 (flagNat a' + 2 * flagNat b' + 4 * flagNat c') → a = a' ∧ b = b' ∧ c = c' := by decide
  exact hbits _ _ _ _ _ _ h

/-- The payload by its fields (R86). -/
theorem updatePayload_eq (m : Message) : updatePayload m = natBytes 2 m.generation.toNat ++ (flagByte m ::
    (optionBytes 3 m.base ++ (optionBytes 2 m.limit ++ (BitVec.ofNat 8 m.list.length :: m.list.flatMap settingBytes)))) := by
  simp only [updatePayload, List.append_assoc, List.singleton_append]
  rfl

theorem updatePayload_length (m : Message) : (updatePayload m).length =
    4 + 3 * flagNat m.base.isSome + 2 * flagNat m.limit.isSome + 3 * m.list.length := by
  simp only [updatePayload_eq, List.length_append, List.length_cons, natBytes_length, optionBytes_length, settings_length]
  ring

/-- The fields of a message lie in the manual's ranges. -/
def MessageRanged (m : Message) : Prop := (∀ b, m.base = some b → b ≤ 1600000) ∧ (∀ l, m.limit = some l → l ≤ 20000) ∧
  m.list.length ≤ 20 ∧ ∀ a ∈ m.list, SettingRanged a

/-- The payload is read back field by field: each has a length that the bytes before it give. -/
theorem updatePayload_inj {m k : Message} (hm : MessageRanged m) (hk : MessageRanged k)
    (h : updatePayload m = updatePayload k) :
    m.generation = k.generation ∧ m.base = k.base ∧ m.limit = k.limit ∧ m.clear = k.clear ∧ m.list = k.list := by
  obtain ⟨hbm, hlm, -, hvm⟩ := hm
  obtain ⟨hbk, hlk, -, hvk⟩ := hk
  rw [updatePayload_eq, updatePayload_eq] at h
  obtain ⟨hgen, h⟩ := List.append_inj h (by simp)
  rw [List.cons.injEq] at h
  obtain ⟨hflags, h⟩ := h
  obtain ⟨hbase, hlimit, hclear⟩ := flagByte_inj hflags
  obtain ⟨hbaseBytes, h⟩ := List.append_inj h (by rw [optionBytes_length, optionBytes_length, hbase])
  obtain ⟨hlimitBytes, h⟩ := List.append_inj h (by rw [optionBytes_length, optionBytes_length, hlimit])
  rw [List.cons.injEq] at h
  obtain ⟨-, hsettings⟩ := h
  rw [natBytes_inj (BitVec.isLt _) (BitVec.isLt _), BitVec.toNat_inj] at hgen
  refine ⟨hgen, optionBytes_inj hbase ?_ ?_ hbaseBytes, optionBytes_inj hlimit ?_ ?_ hlimitBytes, hclear,
    settings_inj hvm hvk hsettings⟩
  · exact fun n hn => by have := hbm n hn; omega
  · exact fun n hn => by have := hbk n hn; omega
  · exact fun n hn => by have := hlm n hn; omega
  · exact fun n hn => by have := hlk n hn; omega

theorem byteSum_append_neg (l : List Byte) : byteSum (l ++ [-byteSum l]) = 0 := by
  rw [byteSum, List.foldl_append]
  exact BitVec.add_right_neg _

theorem updatePayload_of_frame {m k : Message} (h : updateFrame m = updateFrame k) : updatePayload m = updatePayload k := by
  have hbody := (List.append_inj' h rfl).1
  simp only [List.cons.injEq] at hbody
  obtain ⟨-, -, -, hpayload⟩ := hbody
  exact hpayload

/-- Settles O40: the length and sum of a frame, and its message read back from its payload. -/
theorem updateFramesCarryTheirMessage : Obligations.UpdateFramesCarryTheirMessage := by
  intro m k ranged len
  have hpayload : (updatePayload m).length = len := updatePayload_length m
  refine ⟨fun hm => ?_, fun hm hk h => updatePayload_inj hm hk (updatePayload_of_frame h)⟩
  have hflag : ∀ b, flagNat b ≤ 1 := by decide
  have hbase := hflag m.base.isSome
  have hlimit := hflag m.limit.isSome
  obtain ⟨-, -, hlist, -⟩ := hm
  refine ⟨?_, rfl, rfl, ?_, by omega, by omega, byteSum_append_neg _⟩
  · simp only [updateFrame, List.length_append, List.length_cons, List.length_nil, hpayload]
  · rw [← hpayload]
    rfl

end Sys2Proof.Machine

namespace Sys2Proof.Machine

/-! PROOFS. The ranges of the values that a valve keeps: every replacement of a valve or of the whole Valve Table gives legal
valves (R110, R115, R117, R118). -/

theorem natAbs_clampAbs_le (m : Nat) (x : Int) : (clampAbs m x).natAbs ≤ m := by
  rw [clampAbs_eq_max]
  omega

theorem Valve.legal_afterReset : Valve.afterReset.legal := by
  unfold Valve.legal
  decide

theorem mem_mapFrom {α β : Type} {f : Nat → α → β} {n : Nat} {l : List α} {y : β} (h : y ∈ mapFrom f n l) :
    ∃ k, ∃ x ∈ l, y = f k x := by
  induction l generalizing n with
  | nil => simp [mapFrom] at h
  | cons x l ih =>
    obtain rfl | htail := List.mem_cons.mp h
    · exact ⟨n, x, by simp, rfl⟩
    · obtain ⟨k, z, hz, hy⟩ := ih htail
      exact ⟨k, z, List.mem_cons_of_mem _ hz, hy⟩

theorem valveAt_legal {s : State} (h : ValvesLegal s) (v : Nat) : (valveAt s v).legal := by
  unfold valveAt numbered
  split
  · exact Valve.legal_afterReset
  · rw [List.getD_eq_getElem?_getD]
    cases hx : s.valves.table[v - 1]? with
    | none => exact Valve.legal_afterReset
    | some x => exact h.2 x (List.mem_of_getElem? hx)

theorem valvesLegal_setValve {v : Nat} {x : Valve} {s : State} (h : ValvesLegal s) (hx : x.legal) :
    ValvesLegal (setValve v x s) := by
  unfold ValvesLegal
  rw [setValve_table, setNumbered]
  split
  · exact h
  · refine ⟨by simpa using h.1, fun y hy => ?_⟩
    obtain hmem | rfl := List.mem_or_eq_of_mem_set hy
    · exact h.2 y hmem
    · exact hx

theorem valvesLegal_mapValves {f : Nat → Valve → Valve} {s : State} (h : ValvesLegal s)
    (hf : ∀ v x, x.legal → (f v x).legal) : ValvesLegal (mapValves f s) := by
  unfold ValvesLegal
  rw [mapValves_table, mapFrom_length]
  refine ⟨h.1, fun y hy => ?_⟩
  obtain ⟨k, x, hx, rfl⟩ := mem_mapFrom hy
  exact hf k x (h.2 x hx)

/-- A table numbered from 1 read at a number after a write to it: the value written, or, where the number is not in the table,
what stood there. -/
theorem valveAt_setValve_self (v : Nat) (x : Valve) (s : State) :
    valveAt (setValve v x s) v = x ∨ valveAt (setValve v x s) v = valveAt s v := by
  unfold valveAt numbered
  rw [setValve_table, setNumbered]
  split
  · exact .inr rfl
  · by_cases hv : v - 1 < s.valves.table.length
    · exact .inl (by simp [List.getD_eq_getElem?_getD, hv])
    · exact .inr (by simp [List.getD_eq_getElem?_getD, hv])

/-- The valve stands in the loop: AVERAGING or WAIT_EFFECT. -/
def Valve.inLoop (x : Valve) : Prop := x.state = .averaging ∨ x.state = .waitEffect

theorem Valve.legal.run_lt {x : Valve} (h : x.legal) (hin : x.inLoop) : x.hardLowRun < 3 := by
  obtain ⟨-, -, -, -, hloop⟩ := h
  exact hloop hin

theorem ValvesLegal.of_valves {s t : State} (h : ValvesLegal s) (ht : t.valves = s.valves := by simp) : ValvesLegal t := by
  simpa only [ValvesLegal, ht] using h

/-- A valve in the loop put in WAIT_EFFECT keeps its hard-low run (R120, R121, R131). -/
theorem valvesLegal_waitAfterWrite {v : Nat} {s : State} (h : ValvesLegal s) (hin : (valveAt s v).inLoop) (wanted : Int) :
    ValvesLegal (waitAfterWrite v wanted s) := by
  have hx := valveAt_legal h v
  have hrun := hx.run_lt hin
  obtain ⟨-, havg, -, -, -⟩ := hx
  exact valvesLegal_setValve h.of_valves ⟨fun _ => rfl, havg, by simp, hrun.le, fun _ => hrun⟩

theorem valvesLegal_applyCorrection {v : Nat} {s : State} (h : ValvesLegal s) (hin : (valveAt s v).inLoop) :
    ValvesLegal (applyCorrection v s) := by
  unfold applyCorrection
  dsimp only
  split
  · exact h.of_valves
  · exact valvesLegal_waitAfterWrite h hin _

/-- A qualifying can in AVERAGING: n stays below sample_min, which the recipe table bounds by 64 (R117, R118, R153). -/
theorem valvesLegal_averageCan {v : Nat} {s : State} (h : ValvesLegal s) (hstate : (valveAt s v).state = .averaging)
    (hmin : (activeRecipe s).sampleMin ≤ 64) (net : Int) : ValvesLegal (averageCan v net s) := by
  obtain ⟨hawait, -, -, hrun, hloop⟩ := valveAt_legal h v
  have hlegal (n : Nat) (hn : n ≤ 64) : Valve.legal { valveAt s v with
      avg := averaged (activeRecipe s) (valveAt s v).avg net, n := n } :=
    ⟨hawait, natAbs_clampAbs_le _ _, hn, hrun, hloop⟩
  unfold averageCan
  dsimp only
  split
  · have hset := valvesLegal_setValve h (hlegal 0 (by omega)) (v := v)
    split
    · refine valvesLegal_applyCorrection hset (.inl ?_)
      obtain hself | hself := valveAt_setValve_self v { valveAt s v with
        avg := averaged (activeRecipe s) (valveAt s v).avg net, n := 0 } s
      · rw [hself]
        exact hstate
      · rw [hself]
        exact hstate
    · exact hset
  · exact valvesLegal_setValve h (hlegal _ (by omega))

/-- What a qualifying can does, by the valve's state (R116, R117, R124). -/
theorem valvesLegal_takeQualifying {v : Nat} {s : State} (h : ValvesLegal s) (hmin : (activeRecipe s).sampleMin ≤ 64)
    (gen : Gen) (net : Int) : ValvesLegal (takeQualifying v gen net s) := by
  unfold takeQualifying
  dsimp only
  split
  · next hstate => exact valvesLegal_averageCan h hstate hmin net
  · next hstate _ =>
    have hrun := (valveAt_legal h v).run_lt (.inr hstate)
    split
    · exact valvesLegal_setValve h ⟨nofun, natAbs_clampAbs_le _ _, by simp [seedValve], hrun.le, fun _ => hrun⟩
    · exact h
  · exact h

/-- A HARD_LOW can in the loop: the third in a row takes the valve out of it (R115). -/
theorem valvesLegal_hardLowCan {v : Nat} {s : State} (h : ValvesLegal s) (hin : (valveAt s v).inLoop) (e : Entry) (net : Int) :
    ValvesLegal (hardLowCan v e net s) := by
  have hx := valveAt_legal h v
  have hrun := hx.run_lt hin
  obtain ⟨hawait, havg, hn, -, -⟩ := hx
  unfold hardLowCan
  dsimp only
  split
  · next hlow => exact valvesLegal_setValve h ⟨hawait, havg, hn, by dsimp only; omega, fun _ => hlow⟩
  · have hout : Valve.legal { valveAt s v with
        hardLowRun := (valveAt s v).hardLowRun + 1, state := .faulty, awaitedGen := none } :=
      ⟨by simp, havg, hn, hrun, by simp⟩
    exact (valvesLegal_setValve h hout).of_valves rfl

theorem valvesLegal_countCan {s : State} (h : ValvesLegal s) (v : Nat) (e : Entry) : ValvesLegal (countCan v e s) :=
  valvesLegal_setValve h (valveAt_legal h v)

/-- A can qualifies only in RUN and at a valve of the loop (R114). -/
theorem qualifies_in_run {s : State} {e : Entry} {x : Valve} (h : otherwiseQualifies s e x = true) :
    x.inLoop ∧ s.part.state = .run := by
  simp only [otherwiseQualifies, Bool.and_eq_true, Bool.or_eq_true, decide_eq_true_eq] at h
  obtain ⟨⟨-, hloop⟩, hrun⟩ := h
  exact ⟨hloop, hrun⟩

/-- In RUN sample_min is that of a legal recipe. -/
def SampleMinBounded (s : State) : Prop := s.part.state = .run → (activeRecipe s).sampleMin ≤ 64

theorem sampleMinBounded_of_blocks {s t : State} (h : SampleMinBounded s) (hp : t.part = s.part := by simp)
    (hr : t.recipes.active = s.recipes.active := by simp) : SampleMinBounded t := by
  simpa only [SampleMinBounded, activeRecipe, hp, hr] using h

theorem valvesLegal_offerCan {s : State} (h : ValvesLegal s) (hmin : SampleMinBounded s) (e : Entry) :
    ValvesLegal (offerCan e s) := by
  unfold offerCan
  split
  · exact h
  · next v _ =>
    have hcount := valvesLegal_countCan h v e
    dsimp only
    split
    · next hq =>
      obtain ⟨hin, hrun⟩ := qualifies_in_run hq
      have hbound : (activeRecipe s).sampleMin ≤ 64 := hmin hrun
      have hreset : Valve.legal { valveAt (countCan v e s) v with hardLowRun := 0 } := by
        obtain ⟨hawait, havg, hn, -, -⟩ := valveAt_legal hcount v
        exact ⟨hawait, havg, hn, by simp, by simp⟩
      split
      · exact valvesLegal_hardLowCan hcount hin e _
      · exact valvesLegal_takeQualifying (valvesLegal_setValve hcount hreset) hbound _ _
      · exact valvesLegal_takeQualifying (valvesLegal_setValve hcount hreset) hbound _ _
      · exact hcount
    · exact hcount

/-! #### Dead time, recipes and resets -/

theorem valvesLegal_firstSend {s : State} (h : ValvesLegal s) (g : Gen) (list : List (Nat × Int)) :
    ValvesLegal (firstSend g list s) := by
  refine valvesLegal_mapValves h fun v x hx => ?_
  split
  · next hwait =>
    exact ⟨fun _ => (Bool.and_eq_true_iff.mp hwait).1 |> of_decide_eq_true, hx.2⟩
  · exact hx

theorem valvesLegal_awaitServed {s : State} (h : ValvesLegal s) (g : Gen) : ValvesLegal (awaitServed g s) := by
  refine valvesLegal_mapValves h fun v x hx => ?_
  split
  · next hwait =>
    simp only [Bool.and_eq_true, decide_eq_true_eq] at hwait
    exact ⟨fun _ => hwait.1.1, hx.2⟩
  · exact hx

theorem valvesLegal_ageValves {s : State} (h : ValvesLegal s) (g : Gen) : ValvesLegal (ageValves g s) := by
  refine valvesLegal_mapValves h fun v x hx => ⟨fun hawait => ?_, hx.2⟩
  unfold ageValve at hawait ⊢
  dsimp only at hawait ⊢
  split at hawait
  · assumption
  · exact hx.1 hawait

/-- A refused update returns its waiting valves to AVERAGING with n 0 (R126). -/
theorem valvesLegal_refusedUpdate {s : State} (h : ValvesLegal s) (list : List (Nat × Int)) :
    ValvesLegal (refusedUpdate list s) := by
  unfold refusedUpdate
  dsimp only
  have hback : ValvesLegal (mapValves (fun v x =>
      if x.state = .waitEffect && list.any (fun p => p.1 == v) then
        { x with state := .averaging, n := 0, awaitedGen := none }
      else x) s) := by
    refine valvesLegal_mapValves h fun v x hx => ?_
    split
    · next hwait =>
      have hrun := hx.run_lt (.inr (of_decide_eq_true (Bool.and_eq_true_iff.mp hwait).1))
      obtain ⟨-, havg, -⟩ := hx
      exact ⟨nofun, havg, by simp, hrun.le, fun _ => hrun⟩
    · exact hx
  split
  · exact hback
  · exact valvesLegal_awaitServed hback _

/-- A valve with zeroed statistics is legal in every state that awaits nothing. -/
theorem Valve.legal_zeroed (x : Valve) (st : ValveState) (effect : Option Gen) :
    Valve.legal { x.zeroed with state := st, effectGen := effect } := by
  simp [Valve.legal]

theorem valvesLegal_atConfigChangeover {s : State} (h : ValvesLegal s) (r : Recipe) :
    ValvesLegal (valvesAtConfigChangeover r s) := by
  refine valvesLegal_mapValves h fun v x hx => ?_
  dsimp only
  repeat' split
  · exact x.legal_zeroed .idle none
  · exact hx
  · exact x.legal_zeroed .averaging none

theorem valvesLegal_atSwap {s : State} (h : ValvesLegal s) (r : Recipe) (b : Gen) : ValvesLegal (valvesAtSwap r b s) := by
  refine valvesLegal_mapValves h fun v x hx => ?_
  dsimp only
  repeat' split
  · exact x.legal_zeroed .idle none
  · exact hx
  · exact x.legal_zeroed .averaging (some b)
  · exact x.legal_zeroed .waitEffect (some b)

theorem valvesLegal_atRestart {s : State} (h : ValvesLegal s) : ValvesLegal (valvesAtRestart s) :=
  valvesLegal_mapValves h fun _ _ _ => Valve.afterReset.legal_zeroed _ none

theorem valvesLegal_reset : ValvesLegal State.reset := by
  refine ⟨rfl, fun x hx => ?_⟩
  rw [List.eq_of_mem_replicate hx]
  exact Valve.legal_afterReset

/-! #### The valve orders (R129 to R131) -/

theorem valvesLegal_orderValveLock {s : State} (h : ValvesLegal s) (slot : Slot) : ValvesLegal (orderValveLock slot s) := by
  obtain ⟨-, havg, hn, hrun, -⟩ := valveAt_legal h (slotArg1 s slot).toNat
  have hlocked : Valve.legal { valveAt s (slotArg1 s slot).toNat with state := .locked, awaitedGen := none } :=
    ⟨by simp, havg, hn, hrun, by simp⟩
  exact (valvesLegal_setValve h hlocked).of_valves rfl

theorem valvesLegal_orderValveRelease {s : State} (h : ValvesLegal s) (slot : Slot) :
    ValvesLegal (orderValveRelease slot s) := by
  have hfresh (x : Valve) : Valve.legal { x with state := .averaging, avg := 0, n := 0, hardLowRun := 0, awaitedGen := none } := by
    simp [Valve.legal]
  unfold orderValveRelease
  dsimp only
  split
  · exact (valvesLegal_setValve h (hfresh _)).of_valves rfl
  · exact h.of_valves

theorem valvesLegal_orderValveTrim {s : State} (h : ValvesLegal s) (slot : Slot) : ValvesLegal (orderValveTrim slot s) := by
  unfold orderValveTrim
  dsimp only
  split
  · next hin => exact (valvesLegal_waitAfterWrite h hin _).of_valves rfl
  · exact h.of_valves

end Sys2Proof.Machine

namespace Sys2Proof.Machine

/-! PROOFS. The recipes block under the operations on lots: which lots and recipes it holds after each of them (R92, R94, R98, R158,
R161, R163), and the recipe that an accepted area gives (R153). -/

/-! #### The lots that close and open -/

theorem fileLot_recipes (l : Lot) (r : Recipe) (c : LotCause) (s : State) :
    (fileLot l r c s).recipes = { s.recipes with closedPos := s.recipes.closedPos + 1 } := rfl

theorem closeActiveLot_recipes (c : LotCause) (s : State) :
    ∃ pos, (closeActiveLot c s).recipes = { s.recipes with activeLot := none, closedPos := pos } := by
  unfold closeActiveLot
  split
  · next h => exact ⟨s.recipes.closedPos, by rw [← h]⟩
  · exact ⟨_, rfl⟩

theorem closeRetiringLot_recipes (c : LotCause) (s : State) :
    ∃ pos, (closeRetiringLot c s).recipes = { s.recipes with retiringLot := none, closedPos := pos } := by
  unfold closeRetiringLot
  split
  · next h => exact ⟨s.recipes.closedPos, by rw [← h]⟩
  · exact ⟨_, rfl⟩

theorem finishHeldChangeover_recipes (o : Outcome) (detail : Word) (s : State) :
    (finishHeldChangeover o detail s).recipes = { s.recipes with held := none } := by
  unfold finishHeldChangeover
  split
  · next h => rw [← h]
  · rfl

theorem endDrain_recipes (c : LotCause) (how : Nat) (s : State) : ∃ pos, (endDrain c how s).recipes =
    { s.recipes with retiring := none, retiringLot := none, held := none, closedPos := pos } := by
  obtain ⟨pos, hpos⟩ := closeRetiringLot_recipes c s
  refine ⟨pos, ?_⟩
  simp only [endDrain, raiseEvent_frame, finishHeldChangeover_recipes, hpos]

theorem reopenActiveLot_recipes (c : LotCause) (s : State) : ∃ pos start, (reopenActiveLot c s).recipes = { s.recipes with
    activeLot := some (freshLot s.recipes.nextLot (activeRecipe s) start), nextLot := nextNumber s.recipes.nextLot
    fine := 600, finePhase := 0, closedPos := pos } := by
  obtain ⟨pos, hpos⟩ := closeActiveLot_recipes c s
  refine ⟨pos, (closeActiveLot c s).exch.timeTag, ?_⟩
  simp only [reopenActiveLot, openLot, activeRecipe, hpos]

theorem offerCan_recipes (e : Entry) (s : State) : (offerCan e s).recipes = s.recipes := by simp

theorem recountLot_recipes (e : Entry) (ref : RecipeRef) (s : State) : (recountLot e ref s).recipes = { s.recipes with
    activeLot := (recountLot e ref s).recipes.activeLot, retiringLot := (recountLot e ref s).recipes.retiringLot } := by
  unfold recountLot
  repeat' split
  · rfl
  · cases ref <;> rfl
  · rfl

/-! #### Legal lots -/

theorem freshLot_legal (index : Nat) (r : Recipe) (start : Word) : (freshLot index r start).legal :=
  ⟨Nat.zero_le _, rfl⟩

theorem lotOf_legal {s : State} (h : LotsLegal s) {ref : RecipeRef} {l : Lot} (hl : lotOf s ref = some l) : l.legal := by
  cases ref with
  | active => exact h.1 l hl
  | retiring => exact h.2 l hl

theorem lotsLegal_setLot {ref : RecipeRef} {o : Option Lot} {s : State} (h : LotsLegal s) (ho : ∀ l, o = some l → l.legal) :
    LotsLegal (setLot ref o s) := by
  cases ref with
  | active => exact ⟨ho, h.2⟩
  | retiring => exact ⟨h.1, ho⟩

theorem LotsLegal.of_recipes {s t : State} (h : LotsLegal s) (ht : t.recipes = s.recipes := by simp) : LotsLegal t := by
  simpa only [LotsLegal, ht] using h

theorem lotsLegal_reopenActiveLot {s : State} (h : LotsLegal s) (c : LotCause) : LotsLegal (reopenActiveLot c s) := by
  obtain ⟨pos, start, hr⟩ := reopenActiveLot_recipes c s
  unfold LotsLegal
  rw [hr]
  refine ⟨fun l hl => ?_, h.2⟩
  rw [← Option.some.inj hl]
  exact freshLot_legal _ _ _

theorem lotsLegal_endDrain {s : State} (h : LotsLegal s) (c : LotCause) (how : Nat) : LotsLegal (endDrain c how s) := by
  obtain ⟨pos, hr⟩ := endDrain_recipes c how s
  unfold LotsLegal
  rw [hr]
  exact ⟨h.1, nofun⟩

/-- A can that takes a unit of the allowance finds one left (R92). -/
theorem countDecision_legal {d : Decision} {soft : Bool} {l : Lot} (h : l.legal)
    (hsoft : d = .accept → soft = true → l.softUsed < l.allowance) (reasons : BitVec 10) (net : Int) :
    (countDecision d reasons net soft l).legal := by
  obtain ⟨hused, hcount⟩ := h
  cases d with
  | accept =>
    refine ⟨?_, ?_⟩
    · cases soft with
      | false => exact hused
      | true => exact hsoft rfl rfl
    · change l.decided + 1 = l.accepted + 1 + l.rejected
      rw [hcount]
      ring
  | reject =>
    refine ⟨hused, ?_⟩
    change l.decided + 1 = l.accepted + (l.rejected + 1)
    rw [hcount]
    ring

theorem finalReasons_accept {lot : Option Lot} {e : Entry} {reasons : BitVec 10}
    (h : decisionOf (finalReasons lot e reasons) = .accept) (htest : allowanceTested e reasons = true) :
    allowanceLeft lot = true := by
  unfold decisionOf finalReasons at h
  by_contra hnone
  simp [htest, Bool.eq_false_of_not_eq_true hnone, Reason.bit] at h

theorem decidedLot_legal {s : State} (h : LotsLegal s) (extra : BitVec 10) (e : Entry) {l : Lot}
    (hl : decidedLot s extra e = some l) : l.legal := by
  obtain ⟨k, hk, rfl⟩ := Option.map_eq_some_iff.mp hl
  refine countDecision_legal (lotOf_legal h hk) (fun hd hsoft => ?_) _ _
  have hleft := finalReasons_accept hd hsoft
  rw [hk] at hleft
  exact of_decide_eq_true hleft

theorem lotsLegal_lotLimitCheck {s : State} (h : LotsLegal s) (ref : RecipeRef) (d : Decision) :
    LotsLegal (lotLimitCheck ref d s) := by
  unfold lotLimitCheck
  repeat' split
  · exact lotsLegal_reopenActiveLot h _
  · exact h
  · exact h

theorem lotsLegal_decideEntry {s : State} (h : LotsLegal s) (extra : BitVec 10) (e : Entry) :
    LotsLegal (decideEntry extra e s) :=
  (lotsLegal_lotLimitCheck (lotsLegal_setLot (s := setEntry (decidedEntry s extra e) s) h
    fun _ hl => decidedLot_legal h extra e hl) _ _).of_recipes (offerCan_recipes ..)

/-- A forced accept moves one can from the accepted to the rejected (R98). -/
theorem recountForced_legal {l : Lot} (h : l.legal) (before : Option Decision) (net : Int) :
    (recountForced before net l).legal := by
  obtain ⟨hused, hcount⟩ := h
  unfold recountForced
  dsimp only
  split
  · refine ⟨hused, ?_⟩
    change l.decided = l.accepted - 1 + (l.rejected + 1)
    rw [hcount]
    ring
  · exact ⟨hused, hcount⟩

theorem lotsLegal_recountLot {s : State} (h : LotsLegal s) (e : Entry) (ref : RecipeRef) : LotsLegal (recountLot e ref s) := by
  unfold recountLot
  split
  · exact h
  · next l hl =>
    split
    · refine lotsLegal_setLot h fun k hk => ?_
      rw [← Option.some.inj hk]
      exact recountForced_legal (lotOf_legal h hl) _ _
    · exact h

/-! #### The slots of the recipes -/

/-- The recipes block holds a recipe in one of its slots (R149, R152). -/
def Recipes.holds (x : Recipes) (r : Recipe) : Prop := x.active = some r ∨ x.retiring = some r ∨ x.next = some r

theorem recipesLegal_iff {s : State} : RecipesLegal s ↔ ∀ r, s.recipes.holds r → r.legal := .rfl

/-- No slot takes a recipe that no slot held. -/
theorem RecipesLegal.of_holds {s t : State} (h : RecipesLegal s) (ht : ∀ r, t.recipes.holds r → s.recipes.holds r) :
    RecipesLegal t := fun r hr => h r (ht r hr)

theorem recipesLegal_endDrain {s : State} (h : RecipesLegal s) (c : LotCause) (how : Nat) :
    RecipesLegal (endDrain c how s) := by
  obtain ⟨pos, hr⟩ := endDrain_recipes c how s
  refine h.of_holds fun r hold => ?_
  simp only [Recipes.holds, hr] at hold ⊢
  tauto

theorem recipesLegal_reopenActiveLot {s : State} (h : RecipesLegal s) (c : LotCause) : RecipesLegal (reopenActiveLot c s) := by
  obtain ⟨pos, start, hr⟩ := reopenActiveLot_recipes c s
  exact h.of_holds fun r hold => by simpa only [Recipes.holds, hr] using hold

theorem recipesLegal_decideEntry {s : State} (h : RecipesLegal s) (extra : BitVec 10) (e : Entry) :
    RecipesLegal (decideEntry extra e s) := by
  have hset : RecipesLegal (setLot e.recipe (decidedLot s extra e) (setEntry (decidedEntry s extra e) s)) := by
    cases e.recipe <;> exact h
  have hlimit : RecipesLegal (lotLimitCheck e.recipe (decisionOf (decidedEntry s extra e).reasons)
      (setLot e.recipe (decidedLot s extra e) (setEntry (decidedEntry s extra e) s))) := by
    unfold lotLimitCheck
    repeat' split
    · exact recipesLegal_reopenActiveLot hset _
    · exact hset
    · exact hset
  exact hlimit.of_holds fun r hold => by simpa only [decideEntry, offerCan_frame] using hold

/-! #### An accepted recipe area (R153) -/

theorem gradeOfCode_ne_f (n : Nat) : gradeOfCode n ≠ .f := by
  unfold gradeOfCode
  split <;> nofun

theorem length_areaText (w : Nat → Word) : (areaText w).length = 12 := rfl

/-- A lot_text field that is accepted holds 1 to 12 printable characters (The recipe). -/
theorem textChars_legal {w : Nat → Word} (h : textAccepted (areaText w) = true) :
    1 ≤ (textChars (areaText w)).length ∧ (textChars (areaText w)).length ≤ 12 ∧
    ∀ c ∈ textChars (areaText w), 0x20 ≤ c.toNat ∧ c.toNat ≤ 0x7E := by
  simp only [textAccepted, Bool.and_eq_true, decide_eq_true_eq, List.all_eq_true, printable] at h
  obtain ⟨⟨hlow, hprint⟩, -⟩ := h
  exact ⟨hlow, (List.takeWhile_prefix _).length_le.trans (length_areaText w).le, hprint⟩

theorem recipeFailure_none {w : Nat → Word} (h : recipeFailure w = none) : ∀ c ∈ recipeChecks w, c.2 = true := by
  simpa [recipeFailure] using h

theorem recipeCopy_legal {w : Nat → Word} (h : recipeFailure w = none) : (recipeCopy w).legal := by
  have hchecks := recipeFailure_none h
  simp only [recipeChecks, List.forall_mem_cons, inRange, Bool.and_eq_true, decide_eq_true_eq] at hchecks
  obtain ⟨h1, h2, h3, h4, h5, h6, h7, h8, h9, h10, h11, h12, h13, h14, h15, h16, h17, h18, h19, h20, h21, h22, h23, h24, h25,
    h26, h27, h28, h29, h30, h31, -⟩ := hchecks
  exact ⟨textChars_legal h1, h2, h3, h4.2, ⟨h5.1.1, h5.1.2, h5.2⟩, h6, h7, h9.2, h10.2, h11.2, h12, h13, h14, h15.2, h16, h17,
    h18.2, h20.2, h21.2, h22, h23, ⟨h24.1.1, h24.1.2, h24.2⟩, h25, gradeOfCode_ne_f _, h28, h29, h30, h31⟩

end Sys2Proof.Machine

namespace Sys2Proof.Machine

/-! PROOFS. Lots, recipes, the dose link and the valves under the operations: every one of them keeps the four conditions (R92, R94,
R98, R110, R115, R117, R118, R137, R153). -/

/-! #### An offer writes no more of the Dose Unit than wanted trims (R121) -/

theorem applyCorrection_dose (v : Nat) (s : State) :
    ∃ trims, (applyCorrection v s).dose = { s.dose with trims := trims } := by
  unfold applyCorrection
  dsimp only
  split
  · exact ⟨s.dose.trims, rfl⟩
  · exact ⟨_, rfl⟩

theorem averageCan_dose (v : Nat) (net : Int) (s : State) :
    ∃ trims, (averageCan v net s).dose = { s.dose with trims := trims } := by
  unfold averageCan
  dsimp only
  repeat' split
  · exact applyCorrection_dose ..
  · exact ⟨s.dose.trims, rfl⟩
  · exact ⟨s.dose.trims, rfl⟩

theorem takeQualifying_dose (v : Nat) (gen : Gen) (net : Int) (s : State) :
    ∃ trims, (takeQualifying v gen net s).dose = { s.dose with trims := trims } := by
  unfold takeQualifying
  dsimp only
  repeat' split
  · exact averageCan_dose ..
  · exact ⟨s.dose.trims, rfl⟩
  · exact ⟨s.dose.trims, rfl⟩
  · exact ⟨s.dose.trims, rfl⟩

theorem offerCan_dose (e : Entry) (s : State) : ∃ trims, (offerCan e s).dose = { s.dose with trims := trims } := by
  have hsame {t : State} (h : t.dose = s.dose) : ∃ trims, t.dose = { s.dose with trims := trims } := ⟨s.dose.trims, h⟩
  unfold offerCan
  dsimp only
  repeat' split
  · exact hsame rfl
  · exact hsame (by simp)
  · exact takeQualifying_dose ..
  · exact takeQualifying_dose ..
  · exact hsame (by simp)
  · exact hsame (by simp)

theorem DoseLegal.of_trims {s t : State} (h : DoseLegal s) (ht : ∃ trims, t.dose = { s.dose with trims := trims }) :
    DoseLegal t := by
  obtain ⟨trims, ht⟩ := ht
  simpa only [DoseLegal, ht] using h

/-! #### What is kept -/

/-- What an operation keeps of the four conditions, each by itself. Those on the valves it may keep on a premise `runs`, for the
bound on sample_min in RUN that a decision reads. An operation that leaves the blocks of a condition alone keeps it by its frame. -/
structure BlocksKept (runs : Prop) (s t : State) : Prop where
  lots : LotsLegal s → LotsLegal t := by simp [LotsLegal]
  recipes : RecipesLegal s → RecipesLegal t := by simp [RecipesLegal]
  dose : DoseLegal s → DoseLegal t := by simp [DoseLegal]
  valves : runs → ValvesLegal s → ValvesLegal t := by simp [ValvesLegal]

section BlocksKept

variable {runs : Prop} {s t u : State}

theorem BlocksKept.refl : BlocksKept runs s s := {}

theorem BlocksKept.trans (hst : BlocksKept runs s t) (htu : BlocksKept runs t u) : BlocksKept runs s u where
  lots h := htu.lots (hst.lots h)
  recipes h := htu.recipes (hst.recipes h)
  dose h := htu.dose (hst.dose h)
  valves hr h := htu.valves hr (hst.valves hr h)

/-- What comes after leaves the blocks alone. -/
theorem BlocksKept.then (hst : BlocksKept runs s t) (hr : u.recipes = t.recipes := by simp)
    (hd : u.dose = t.dose := by simp) (hv : u.valves = t.valves := by simp) : BlocksKept runs s u :=
  hst.trans { lots := by simp [LotsLegal, hr], recipes := by simp [RecipesLegal, hr]
              dose := by simp [DoseLegal, hd], valves := by simp [ValvesLegal, hv] }

/-! #### Lots, the drain and removals -/

theorem blocksKept_reopenActiveLot (c : LotCause) (s : State) : BlocksKept runs s (reopenActiveLot c s) where
  lots h := lotsLegal_reopenActiveLot h c
  recipes h := recipesLegal_reopenActiveLot h c

theorem blocksKept_endDrain (c : LotCause) (how : Nat) (s : State) : BlocksKept runs s (endDrain c how s) where
  lots h := lotsLegal_endDrain h c how
  recipes h := recipesLegal_endDrain h c how

theorem blocksKept_drainCheck (s : State) : BlocksKept runs s (drainCheck s) := by
  unfold drainCheck
  split
  · exact blocksKept_endDrain _ _ _
  · exact .refl

theorem blocksKept_removeWithDrain (e : Entry) (d : Disposition) (s : State) : BlocksKept runs s (removeWithDrain e d s) :=
  BlocksKept.trans {} (blocksKept_drainCheck (removeEntry e d s))

theorem blocksKept_makeRoom (s : State) : BlocksKept runs s (makeRoom s) := by
  unfold makeRoom
  repeat' split
  · exact .refl
  · next v _ => exact (blocksKept_removeWithDrain v .dropped s).then
  · exact .refl

theorem blocksKept_loseEntries (lost : List Entry) (s : State) : BlocksKept runs s (loseEntries lost s) := by
  induction lost generalizing s with
  | nil => exact .refl
  | cons x l ih => exact (blocksKept_removeWithDrain x .lostInTransit s).trans (ih _)

/-! #### The decision -/

theorem lotLimitCheck_active (ref : RecipeRef) (d : Decision) (s : State) :
    (lotLimitCheck ref d s).recipes.active = s.recipes.active := by
  unfold lotLimitCheck
  repeat' split
  · obtain ⟨pos, start, hr⟩ := reopenActiveLot_recipes .limit s
    rw [hr]
  · rfl
  · rfl

theorem setLot_active (ref : RecipeRef) (l : Option Lot) (s : State) : (setLot ref l s).recipes.active = s.recipes.active := by
  cases ref <;> rfl

/-- The state in which a decided entry is offered to Valve Control: the entry set, the can counted, and the lot closed where the
can fills it (R94, R163, log 17). -/
def counted (extra : BitVec 10) (e : Entry) (s : State) : State :=
  lotLimitCheck e.recipe (decisionOf (decidedEntry s extra e).reasons)
    (setLot e.recipe (decidedLot s extra e) (setEntry (decidedEntry s extra e) s))

theorem decideEntry_eq (extra : BitVec 10) (e : Entry) (s : State) :
    decideEntry extra e s = offerCan (decidedEntry s extra e) (counted extra e s) := rfl

theorem counted_frame (extra : BitVec 10) (e : Entry) (s : State) : (counted extra e s).part = s.part ∧
    (counted extra e s).valves = s.valves ∧ (counted extra e s).dose = s.dose ∧
    (counted extra e s).recipes.active = s.recipes.active := by
  simp [counted, lotLimitCheck_active, setLot_active]

theorem blocksKept_decideEntry (h : runs → SampleMinBounded s) (extra : BitVec 10) (e : Entry) :
    BlocksKept runs s (decideEntry extra e s) where
  lots hl := lotsLegal_decideEntry hl extra e
  recipes hr := recipesLegal_decideEntry hr extra e
  dose hd := by
    obtain ⟨-, -, hdose, -⟩ := counted_frame extra e s
    exact hd.of_trims (hdose ▸ offerCan_dose (decidedEntry s extra e) (counted extra e s))
  valves hruns hv := by
    obtain ⟨hpart, hvalves, -, hactive⟩ := counted_frame extra e s
    exact valvesLegal_offerCan (hv.of_valves hvalves) (sampleMinBounded_of_blocks (h hruns) hpart hactive) _

theorem blocksKept_decideIfDue (h : runs → SampleMinBounded s) (e : Entry) : BlocksKept runs s (decideIfDue e s) := by
  unfold decideIfDue
  split
  · exact blocksKept_decideEntry h 0 e
  · exact .refl

theorem blocksKept_settleAtEye (h : runs → SampleMinBounded s) (e : Entry) : BlocksKept runs s (settleAtEye e s) := by
  have hrecount (ref : RecipeRef) (u : State) : BlocksKept runs u (recountLot e ref u) := {
    lots := fun hl => lotsLegal_recountLot hl e ref
    recipes := fun hr => hr.of_holds fun r hold => by
      rw [recountLot_recipes] at hold
      exact hold }
  unfold settleAtEye
  split
  · exact blocksKept_decideEntry h _ e
  split
  · exact ((hrecount .active s).trans (hrecount .retiring (recountLot e .active s))).then (by simp [forceEntry])
  · exact .refl

theorem blocksKept_takeAtEye (h : runs → SampleMinBounded s) (e : Entry) : BlocksKept runs s (takeAtEye e s) := by
  unfold takeAtEye
  dsimp only
  split
  · exact blocksKept_settleAtEye h e
  · exact (blocksKept_settleAtEye h e).trans {}

/-! #### The reads -/

theorem blocksKept_bindByPosition (s : State) : BlocksKept runs s (bindByPosition s).1 := by
  unfold bindByPosition
  split
  · exact {}
  · exact (blocksKept_makeRoom s).trans {}

theorem blocksKept_bindByMark (text : List Byte) (mark : Nat) (grade : Grade) (s : State) :
    BlocksKept runs s (bindByMark text mark grade s).1 := by
  unfold bindByMark
  dsimp only
  split
  · exact (blocksKept_loseEntries ((searchWindow s).takeWhile fun x => decide (passMark x ≠ mark)) s).then
  · exact (blocksKept_makeRoom s).then

theorem blocksKept_resolveRead (h : runs → SampleMinBounded s) (p : PendingRead) (m : ReadMessage) :
    BlocksKept runs s (resolveRead p m s).1 := by
  cases hbound : p.bound with
  | some serial =>
    rw [resolveRead_bound hbound]
    unfold resolveLate
    split
    · exact .refl
    · next e _ =>
      exact BlocksKept.trans (t := setEntry (lateEntry s m e) s) {}
        (blocksKept_decideIfDue (fun hr => sampleMinBounded_of_blocks (h hr)) _)
  | none =>
    cases m with
    | noRead =>
      rw [resolveRead_unbound hbound]
      exact blocksKept_bindByPosition s
    | code text mark grade =>
      rw [resolveRead_code hbound]
      exact blocksKept_bindByMark text mark grade s

theorem blocksKept_takeReadResult (h : runs → SampleMinBounded s) (m : ReadMessage) :
    BlocksKept runs s (takeReadResult m s) := by
  unfold takeReadResult
  repeat' split
  · exact {}
  · next rest _ =>
    exact BlocksKept.trans {} (blocksKept_resolveRead (s := setReads rest s) (fun hr => sampleMinBounded_of_blocks (h hr)) _ m)
  · exact .refl

/-- A message resolves a pending read at most, behind the assembler and its events (R64 to R71). -/
theorem blocksKept_readerTake (h : runs → SampleMinBounded s) (c : Byte) : BlocksKept runs s (readerTake c s) := by
  have htake (m : ReadMessage) {u : State} (hp : u.part = s.part) (hr : u.recipes = s.recipes) (hd : u.dose = s.dose)
      (hv : u.valves = s.valves) : BlocksKept runs s (takeReadResult m u) :=
    (BlocksKept.refl.then hr hd hv).trans
      (blocksKept_takeReadResult (fun hruns => sampleMinBounded_of_blocks (h hruns) hp (by rw [hr])) m)
  unfold readerTake readerEnd takeMessage
  repeat' split
  · exact .refl
  · exact htake _ rfl rfl rfl rfl
  · exact htake _ rfl rfl rfl rfl
  · exact htake _ rfl rfl rfl rfl
  · exact htake _ rfl rfl rfl rfl
  · exact htake _ rfl rfl rfl rfl
  · exact .refl
  · exact {}
  · exact .refl

theorem blocksKept_makeReadRoom (h : runs → SampleMinBounded s) : BlocksKept runs s (makeReadRoom s) := by
  unfold makeReadRoom
  dsimp only
  repeat' split
  · exact .refl
  · next p rest _ _ =>
    exact (BlocksKept.trans (t := setReads rest s) {}
      (blocksKept_resolveRead (fun hr => sampleMinBounded_of_blocks (h hr)) p .noRead)).then
  · exact .refl

theorem blocksKept_trackPlatformIn (s : State) : BlocksKept runs s (trackPlatformIn s) := by
  unfold trackPlatformIn bindEarly createAtPlatform
  dsimp only
  repeat' split
  · exact {}
  · exact {}
  · exact (blocksKept_makeRoom s).then
  · exact (blocksKept_makeRoom s).then

theorem blocksKept_trackPlatformOut (h : runs → SampleMinBounded s) (w : WeighResult) :
    BlocksKept runs s (trackPlatformOut w s) := by
  unfold trackPlatformOut
  dsimp only
  split
  · exact .refl
  · next e _ =>
    exact BlocksKept.trans (t := setEntry (weighedEntry s w e) s) {}
      (blocksKept_decideIfDue (fun hr => sampleMinBounded_of_blocks (h hr)) _)

theorem blocksKept_takeDischarge (valve : Byte) (g : Gen) (s : State) : BlocksKept runs s (takeDischarge valve g s) := by
  unfold takeDischarge
  repeat' split
  · next v _ => exact (blocksKept_removeWithDrain v .dropped s).then
  · exact {}
  · exact {}

/-! #### The dose link (R137 to R147) -/

theorem blocksKept_launch (m : Message) (s : State) : BlocksKept runs s (launch m s) where
  dose _ := ⟨nofun, fun _ => rfl, fun _ => rfl⟩
  valves _ h := valvesLegal_firstSend (ValvesLegal.of_valves h rfl) _ _

theorem blocksKept_resend (s : State) : BlocksKept runs s (resend s) := by
  unfold resend
  split
  · exact .refl
  · next m hm =>
    exact { dose := fun _ => by simp [DoseLegal, hm] }

theorem blocksKept_pulse (s : State) : BlocksKept runs s (match s.dose.link with
    | .up => buildAtPulse s
    | .retry => resend s
    | .down => probeAtPulse s) := by
  unfold buildAtPulse probeAtPulse
  repeat' split
  · exact blocksKept_launch _ s
  · exact .refl
  · exact blocksKept_resend s
  · exact {}
  · exact BlocksKept.trans (t := { s with dose := { s.dose with probe := 0 } }) {} (blocksKept_resend _)

theorem blocksKept_ackTimedOut (hack : s.dose.ack = some 0) : BlocksKept runs s (ackTimedOut s) := by
  have hflight (h : DoseLegal s) : s.dose.inflight.isSome = true := by
    obtain ⟨-, -, hwait⟩ := h
    exact hwait (by simp [hack])
  unfold ackTimedOut linkDownEvent
  repeat' split
  · exact { dose := fun h => by simpa [DoseLegal] using hflight h }
  · exact { dose := fun h => by simpa [DoseLegal] using hflight h }
  · exact { dose := fun h => by simpa [DoseLegal] using hflight h }
  · next hlink => exact { dose := fun h => by simpa [DoseLegal, hlink] using hflight h }

/-- The swap moves the recipes of the slots on, and gives the valves and the new lot a fresh start (R157). -/
theorem blocksKept_swap (b : Gen) (s : State) : BlocksKept runs s (swap b s) := by
  have hslots : BlocksKept runs s (markRetiring (swapSlots b s)) := {
    recipes := fun h => h.of_holds fun r hold => by
      simp [Recipes.holds] at hold ⊢
      tauto
    dose := id }
  have hvalves (r : Recipe) (u : State) : BlocksKept runs u (valvesAtSwap r b (rewantTrims r u)) := {
    dose := by simp [DoseLegal, rewantTrims]
    valves := fun _ h => valvesLegal_atSwap h.of_valves r b }
  have hlots (u : State) : BlocksKept runs u (openLot (retireLot u)) := {
    lots := fun h => ⟨fun l hl => by rw [← Option.some.inj hl]; exact freshLot_legal _ _ _, h.1⟩
    recipes := id }
  have hvalves := hslots.trans (hvalves (activeRecipe (markRetiring (swapSlots b s))) _)
  exact ((hvalves.trans (hlots _)).then).trans (blocksKept_drainCheck _)

theorem blocksKept_serve (m : Message) (res : AckResult) (s : State) : BlocksKept runs s (serve m res s) := by
  have hserved : BlocksKept runs s (linkUpEvent s.dose.link m.generation res.code (serveValues m s)) := {
    dose := fun _ => by simp [DoseLegal, serveValues] }
  have hage (u : State) : BlocksKept runs u (ageValves m.generation u) := { valves := fun _ h => valvesLegal_ageValves h _ }
  unfold serve
  dsimp only
  refine BlocksKept.trans ?_ (hage _)
  split
  · exact (hserved.trans {}).trans (blocksKept_swap _ _)
  · exact hserved.trans { valves := fun _ h => valvesLegal_awaitServed h _ }

theorem blocksKept_refuse (m : Message) (s : State) : BlocksKept runs s (refuse m s) := by
  have hrefused : BlocksKept runs s (refusedUpdate m.list
      (revertTrims m.list { s with dose := { s.dose with inflight := none, ack := none, probe := 0, link := .up } })) := {
    dose := fun _ => by simp [DoseLegal, revertTrims]
    valves := fun _ h => by
      refine valvesLegal_refusedUpdate ?_ _
      exact h.of_valves }
  have hdropped (u : State) : BlocksKept runs u (refuseChangeover m.generation u) := {
    lots := by simp [LotsLegal, refuseChangeover, finishHeldChangeover_recipes]
    recipes := fun h => h.of_holds fun r hold => by
      simp only [Recipes.holds, refuseChangeover, finishHeldChangeover_recipes] at hold ⊢
      tauto
    dose := by simp [DoseLegal, refuseChangeover]
    valves := by simp [ValvesLegal, refuseChangeover] }
  unfold refuse
  dsimp only
  split
  · exact (hrefused.then).trans (hdropped _)
  · exact hrefused.then

theorem blocksKept_takeAck (g : Gen) (res : AckResult) (s : State) : BlocksKept runs s (takeAck g res s) := by
  unfold takeAck
  repeat' split
  · exact {}
  · exact blocksKept_refuse _ s
  · exact blocksKept_serve _ _ s
  · exact {}

theorem blocksKept_fillerTake (b : Byte) (s : State) : BlocksKept runs s (fillerTake b s) := by
  have hsettle (f : Frame) (u : State) : BlocksKept runs u (settleFrame f u) := by
    unfold settleFrame
    repeat' split
    · exact {}
    · exact blocksKept_takeDischarge _ _ u
    · exact .refl
    · exact blocksKept_takeAck _ _ u
    · exact .refl
  unfold fillerTake
  dsimp only
  repeat' split
  · exact {}
  · exact .refl
  · exact {}
  · exact {}
  · exact {}
  · exact {}
  · exact {}
  · exact BlocksKept.trans (t := { s with filler := s.filler.dropped }) {} (hsettle _ _)
  · exact .refl

end BlocksKept

end Sys2Proof.Machine

namespace Sys2Proof.Machine

/-! PROOFS. Lots, recipes, the dose link and the valves under the orders, RESTART and every command (R92, R94, R98, R110, R115, R117,
R118, R137, R153). -/

section BlocksKept

variable {runs : Prop} {s t : State}

/-! #### The orders -/

/-- A valid CHANGEOVER in CONFIG: the recipe in force, the valves and the lot that start with it (R155). -/
theorem blocksKept_changeoverInConfig {r : Recipe} (hr : r.legal) (slot : Slot) (s : State) :
    BlocksKept runs s (changeoverInConfig r slot s) := by
  obtain ⟨pos, hclosed⟩ := closeActiveLot_recipes .order s
  have hlots : BlocksKept runs s (closeActiveLot .order s) := {
    lots := fun h => by
      unfold LotsLegal
      rw [hclosed]
      exact ⟨nofun, h.2⟩
    recipes := by simp [RecipesLegal, hclosed] }
  have htaken (u : State) : BlocksKept runs u (unsync { u with recipes := { u.recipes with active := some r } }) := {
    recipes := fun h q hq => by
      simp [unsync] at hq
      obtain rfl | hq := hq
      · exact hr
      · exact h q (.inr hq)
    lots := by simp [LotsLegal, unsync]
    dose := by simp [DoseLegal, unsync]
    valves := by simp [ValvesLegal, unsync] }
  have hvalves (u : State) : BlocksKept runs u (valvesAtConfigChangeover r (rewantTrims r u)) := {
    dose := by simp [DoseLegal, rewantTrims]
    valves := fun _ h => valvesLegal_atConfigChangeover h.of_valves r }
  have hopen (u : State) : BlocksKept runs u (openLot u) := {
    lots := fun h => ⟨fun l hl => by rw [← Option.some.inj hl]; exact freshLot_legal _ _ _, h.2⟩
    recipes := id }
  have hdone := ((hlots.trans (htaken _)).trans (hvalves _)).trans (hopen _)
  exact hdone.then (by simp [changeoverInConfig]) (by simp [changeoverInConfig]) (by simp [changeoverInConfig])

theorem blocksKept_orderChangeover (slot : Slot) (s : State) : BlocksKept runs s (orderChangeover slot s) := by
  unfold orderChangeover
  split
  · exact {}
  split
  · exact {}
  · next hgood =>
    have hlegal := recipeCopy_legal hgood
    split
    · exact blocksKept_changeoverInConfig hlegal slot s
    · exact {
        recipes := fun h q hq => by
          simp [changeoverOnLine] at hq
          obtain hq | hq | rfl := hq
          · exact h q (.inl hq)
          · exact h q (.inr (.inl hq))
          · exact hlegal
        lots := by simp [LotsLegal, changeoverOnLine]
        dose := by simp [DoseLegal, changeoverOnLine] }

theorem blocksKept_orderTrackFlush (slot : Slot) (s : State) : BlocksKept runs s (orderTrackFlush slot s) := by
  unfold orderTrackFlush
  dsimp only
  split
  · exact (BlocksKept.trans (t := emptyPlatform (setReads [] (flushEntries s))) {} (blocksKept_endDrain .flush 2 _)).then
  · exact {}

theorem blocksKept_handOver (k : OrderKind) (slot : Slot) (s : State) : BlocksKept runs s (handOver k slot s) := by
  cases k with
  | changeover => exact blocksKept_orderChangeover slot s
  | lotClose =>
    exact (blocksKept_reopenActiveLot .order s).then (by simp [handOver, orderLotClose]) (by simp [handOver, orderLotClose])
      (by simp [handOver, orderLotClose])
  | valveLock =>
    exact { valves := fun _ h => valvesLegal_orderValveLock h slot
            lots := by simp [LotsLegal, handOver], recipes := by simp [RecipesLegal, handOver]
            dose := by simp [DoseLegal, handOver] }
  | valveRelease =>
    exact { valves := fun _ h => valvesLegal_orderValveRelease h slot
            lots := by simp [LotsLegal, handOver], recipes := by simp [RecipesLegal, handOver]
            dose := by simp [DoseLegal, handOver] }
  | valveTrim =>
    exact { valves := fun _ h => valvesLegal_orderValveTrim h slot
            lots := by simp [LotsLegal, handOver], recipes := by simp [RecipesLegal, handOver]
            dose := fun h => h.of_trims ⟨(orderValveTrim slot s).dose.trims, by
              simp only [handOver, orderValveTrim, finishOrder_frame]
              split <;> rfl⟩ }
  | trackFlush => exact blocksKept_orderTrackFlush slot s
  | loopSet | snapshot =>
    exact { valves := fun _ h => h
            lots := by simp [LotsLegal, handOver], recipes := by simp [RecipesLegal, handOver]
            dose := by simp [DoseLegal, handOver] }
  | zeroSet | calZero | calSpan | faultClear =>
    exact BlocksKept.refl.then (by simp [handOver]) (by simp [handOver]) (by simp [handOver])

theorem blocksKept_scanSlots (s : State) : BlocksKept runs s (scanSlots s) := by
  have hexamine (slot : Slot) (u : State) : BlocksKept runs u (examineSlot slot u) := by
    unfold examineSlot takeOrder
    repeat' split
    · exact {}
    · exact {}
    · exact blocksKept_handOver _ slot u
    · exact .refl
  unfold scanSlots
  induction scanOrder generalizing s with
  | nil => exact .refl
  | cons slot l ih => exact (hexamine slot s).trans (ih _)

/-! #### The host -/

theorem lotsLegal_recipesAtRestart (h : LotsLegal s) : LotsLegal (recipesAtRestart s) := by
  have hdropped : LotsLegal (dropChangeover s) := by
    obtain ⟨-, hr, -⟩ := dropChangeover_fields s
    simpa only [LotsLegal, hr] using h
  have hretired : LotsLegal (retireAtRestart (dropChangeover s)) := by
    obtain ⟨pos, hr⟩ := closeRetiringLot_recipes .reset (dropChangeover s)
    unfold retireAtRestart
    split
    · simp only [LotsLegal, hr]
      exact ⟨hdropped.1, nofun⟩
    · exact hdropped
  rw [recipesAtRestart_eq, reopenAtRestart]
  split
  · exact lotsLegal_reopenActiveLot hretired .reset
  · exact hretired

theorem blocksKept_restartPart (s : State) : BlocksKept runs s (restartPart s) := by
  have hr : (restartPart s).recipes = (recipesAtRestart (trackAtRestart s)).recipes := by simp [restartPart, restartBlocks_eq]
  have hd : (restartPart s).dose = State.reset.dose := by simp [restartPart, restartBlocks_eq, doseAtRestart]
  have hv : (restartPart s).valves =
      (valvesAtRestart (doseAtRestart (recipesAtRestart (trackAtRestart s)))).valves := by
    simp [restartPart, restartBlocks_eq]
  obtain ⟨-, -, -, -, htrack, -⟩ := trackAtRestart_fields s
  obtain ⟨-, hactive, hretiring, hnext, -⟩ := recipesAtRestart_fields (trackAtRestart s)
  exact {
    lots := fun h => (lotsLegal_recipesAtRestart (h.of_recipes htrack)).of_recipes hr
    recipes := fun h => h.of_holds fun r hold => by
      simp only [Recipes.holds, hr, hactive, hretiring, hnext, htrack] at hold ⊢
      tauto
    dose := fun _ => by simp [DoseLegal, hd, State.reset]
    valves := fun _ h => (valvesLegal_atRestart (h.of_valves (by simp [trackAtRestart]))).of_valves hv }

theorem blocksKept_hostWrite (addr value : Word) (s : State) : BlocksKept runs s (hostWrite addr value s) := by
  unfold hostWrite writeControl
  repeat' split
  · exact .refl
  · exact {}
  · exact blocksKept_restartPart s
  · exact .refl
  · exact {}
  · exact {}
  · exact .refl

/-! #### The commands -/

theorem blocksKept_fullReset (pins : Pins) (queue : List Instr) (s : State) :
    BlocksKept runs s { State.reset with pins := pins, pending := queue } where
  lots _ := ⟨nofun, nofun⟩
  recipes _ := by simp [RecipesLegal, State.reset]
  dose _ := by simp [DoseLegal, State.reset]
  valves _ _ := valvesLegal_reset

theorem blocksKept_passUnit (s : State) : BlocksKept runs s (passUnit s) := by
  have hr : (passUnit s).recipes = { s.recipes with fine := (tickRecipes s).fine, finePhase := (tickRecipes s).finePhase } := by
    simp only [passUnit, tickRecipes]
    repeat' split
    all_goals rfl
  exact {
    lots := by simp [LotsLegal, hr]
    recipes := by simp [RecipesLegal, hr]
    dose := by simp [DoseLegal, passUnit, countDown]
    valves := fun _ h => h }

theorem blocksKept_tick (s : State) : BlocksKept runs s (tick s) := by
  unfold tick
  split
  · exact {}
  · exact (blocksKept_passUnit s).then rfl rfl rfl

/-- Every command keeps the four conditions, the one on the valves where sample_min is bounded in RUN. -/
theorem blocksKept_exec (c : Instr) (ht : exec c s = .next t) : BlocksKept (SampleMinBounded s) s t := by
  cases c with
  | fullReset => cases ht; exact blocksKept_fullReset _ _ s
  | restart value => cases ht; exact blocksKept_hostWrite _ _ s
  | noticeClear value => cases ht; exact blocksKept_hostWrite _ _ s
  | noticeMaskWrite value => cases ht; exact blocksKept_hostWrite _ _ s
  | registerWriteIgnored addr value => cases ht; exact blocksKept_hostWrite _ _ s
  | hostMemoryWrite addr value => cases ht; exact blocksKept_hostWrite _ _ s
  | readerMessage => cases ht; exact blocksKept_readerTake id _
  | readerOverlong c => cases ht; exact blocksKept_readerTake id _
  | readerCharacter c => cases ht; exact blocksKept_readerTake id _
  | dischargeFrame b => cases ht; exact blocksKept_fillerTake _ s
  | doseAckFrame b => cases ht; exact blocksKept_fillerTake _ s
  | fillerBufferOverrun b => cases ht; exact blocksKept_fillerTake _ s
  | fillerCharacter b => cases ht; exact blocksKept_fillerTake _ s
  | badFrameCompleted b => cases ht; exact blocksKept_fillerTake _ s
  | fillerErroredCharacter c =>
    cases ht
    unfold fillerReceive
    split
    · exact {}
    · exact blocksKept_fillerTake _ s
  | platformInArrival =>
    cases ht
    repeat' split
    · exact {}
    · exact BlocksKept.trans (t := endCalAveraging .disturbed 0 (endZeroSet .disturbed 0 (openPlatform s))) {}
        (blocksKept_trackPlatformIn _)
    · exact {}
    · exact .refl
  | platformOutArrival =>
    cases ht
    repeat' split
    · exact {}
    · next w rest _ =>
      exact BlocksKept.trans (t := closeOldest rest s) {} (blocksKept_trackPlatformOut (fun h => sampleMinBounded_of_blocks h) _)
    · exact .refl
  | readerEyeArrival =>
    cases ht
    split
    · exact (blocksKept_makeReadRoom id).then
    · exact .refl
  | readDeadlineExpiry =>
    cases ht
    repeat' split
    · exact .refl
    · next p _ =>
      exact BlocksKept.trans (t := setReads (s.track.reads.eraseP PendingRead.expired) s) {}
        (blocksKept_resolveRead (fun h => sampleMinBounded_of_blocks h) p .noRead)
    · exact .refl
  | fillerIndexArrival =>
    cases ht
    split
    · exact blocksKept_pulse s
    · exact .refl
  | ackTimerExpiry =>
    cases ht
    split
    · next hack => exact blocksKept_ackTimedOut hack
    · exact .refl
  | rejectEyeArrival =>
    cases ht
    repeat' split
    · exact {}
    · exact blocksKept_takeAtEye id _
    · exact .refl
  | confirmEyeArrival =>
    cases ht
    repeat' split
    · exact {}
    · next e _ _ => exact (blocksKept_removeWithDrain e .rejectFailed s).then (by simp [rejectFailed])
    · exact blocksKept_removeWithDrain _ _ s
    · exact .refl
  | pastRejectDeadlineExpiry =>
    cases ht
    unfold settleDeadline
    repeat' split
    · exact .refl
    · exact blocksKept_removeWithDrain _ _ s
    · next e _ _ =>
      exact BlocksKept.trans (t := raiseEvent .canMissing (e.valve.getD 0) (wordOfNat e.serial) (e.outTag.getD 0) s) {}
        (blocksKept_removeWithDrain _ _ _)
    · exact .refl
  | lotMinuteStep =>
    cases ht
    unfold minuteStep
    repeat' split
    · exact BlocksKept.trans (t := { s with recipes := { s.recipes with fine := 600 } }) {} (blocksKept_reopenActiveLot _ _)
    · exact {}
    · exact .refl
  | orderScan switchOn =>
    cases ht
    split
    · exact BlocksKept.trans (t := { noteSwitch switchOn s with orders := { s.orders with scan := some 50 } }) {}
        (blocksKept_scanSlots _)
    · exact {}
  | clearingComplete | storeReadEnd bytes | refusalHoldoffExpiry | timeWrap | sampleArrival count
  | storeWriteCompared readBack | storeTimerExpiry | converterWatchExpiry | lineRunRise | lineRunFall | jamTimerExpiry
  | calSwitchOff | readerFramingError brk | gapTimerExpiry | transmitFrameEnd | pulseTimerExpiry | breakEnd link =>
    cases ht
    repeat' split
    all_goals exact {}

end BlocksKept

theorem blocksKept_step {s t : State} (ht : step s = .next t) : BlocksKept (SampleMinBounded s) s t := by
  obtain rfl | ⟨c, rest, hc⟩ := step_cases ht
  · exact blocksKept_tick s
  · obtain ⟨hlots, hrecipes, hdose, hvalves⟩ := blocksKept_exec c hc
    exact ⟨hlots, hrecipes, hdose, hvalves⟩

/-- A part in RUN has an ACTIVE recipe, and the recipe table bounds its sample_min (R153, R171). -/
theorem sampleMinBounded_of_legal {s : State} (hr : RecipesLegal s) (hc : Configured s) : SampleMinBounded s := by
  intro hrun
  obtain ⟨-, hactive⟩ := hc (by simp [State.takesCans, hrun])
  obtain ⟨r, hr'⟩ := Option.isSome_iff_exists.mp hactive
  obtain ⟨-, -, -, -, -, -, -, -, -, -, -, -, hmin, -⟩ := hr r (.inl hr')
  simpa only [activeRecipe, hr', Option.getD_some] using hmin.2

/-- Settles O58: each condition by what the operations of its block keep; the valves read of the recipe only sample_min. -/
theorem everyStepKeepsLotsValvesAndDoses : Obligations.EveryStepKeepsLotsValvesAndDoses := by
  intro s t ht
  have hkept := blocksKept_step ht
  exact ⟨hkept.lots, hkept.recipes, hkept.dose,
    fun hvalves hrecipes hconf => hkept.valves (sampleMinBounded_of_legal hrecipes hconf) hvalves⟩

end Sys2Proof.Machine

namespace Sys2Proof.Machine

/-! PROOFS. The decision of an entry: its reasons bit by bit, the lot that counts it, the lot that it fills, and what the offer to
Valve Control leaves (R90 to R95, R163, log 17). -/

/-! #### The reasons -/

/-- A reason of R91 applies other than SOFT_LIMIT, UNDECIDED and FAULT_STOP. -/
def PlainReason (r : Recipe) (e : Entry) : Prop :=
  e.zone = some .hardLow ∨ (e.zone = some .over ∧ r.rejectOver = true) ∨
  (∃ k, e.weighing = some (.fault k)) ∨ (e.read = some .noRead ∧ r.codeRequired = true) ∨
  (∃ m g, e.read = some (.code false m g)) ∨
  ((∃ b m g, e.read = some (.code b m g) ∧ r.minGrade.code < g.code) ∧ r.codeRequired = true) ∨ e.origin = .untracked

theorem isWeighFault_iff {w : Option WeighResult} : isWeighFault w = true ↔ ∃ k, w = some (.fault k) := by
  unfold isWeighFault
  split <;> simp_all

theorem isWrongLot_iff {x : Option ReadResult} : isWrongLot x = true ↔ ∃ m g, x = some (.code false m g) := by
  unfold isWrongLot
  split <;> simp_all

theorem isPoorGrade_iff {h : Grade} {x : Option ReadResult} :
    isPoorGrade h x = true ↔ ∃ b m g, x = some (.code b m g) ∧ h.code < g.code := by
  unfold isPoorGrade Grade.worse
  split <;> simp_all

theorem getLsbD_reasonIf (b : Bool) (r : Reason) (k : Nat) : (reasonIf b r).getLsbD k = (b && r.bit.getLsbD k) := by
  cases b <;> simp [reasonIf]

theorem plainReasons_bits (r : Recipe) (e : Entry) : let p := plainReasons r e
    (p.getLsbD 0 = true ↔ e.zone = some .hardLow) ∧ (p.getLsbD 1 = true ↔ e.zone = some .over ∧ r.rejectOver = true) ∧
    p.getLsbD 2 = false ∧ (p.getLsbD 3 = true ↔ ∃ k, e.weighing = some (.fault k)) ∧
    (p.getLsbD 4 = true ↔ e.read = some .noRead ∧ r.codeRequired = true) ∧
    (p.getLsbD 5 = true ↔ ∃ m g, e.read = some (.code false m g)) ∧
    (p.getLsbD 6 = true ↔ (∃ b m g, e.read = some (.code b m g) ∧ r.minGrade.code < g.code) ∧ r.codeRequired = true) ∧
    (p.getLsbD 7 = true ↔ e.origin = .untracked) ∧ p.getLsbD 8 = false ∧ p.getLsbD 9 = false := by
  rw [← isWeighFault_iff, ← isWrongLot_iff, ← isPoorGrade_iff]
  simp only [plainReasons, BitVec.getLsbD_or, getLsbD_reasonIf]
  simp [Reason.bit]

theorem reasons_eq_zero_iff {x : BitVec 10} : x = 0 ↔ ∀ k, k < 10 → x.getLsbD k = false := by
  refine ⟨fun h k _ => by simp [h], fun h => BitVec.eq_of_getLsbD_eq fun k hk => ?_⟩
  rw [h k hk]
  exact BitVec.getLsbD_zero.symm

/-- The plain reasons are none exactly where none applies. -/
theorem plainReasons_eq_zero_iff {r : Recipe} {e : Entry} : plainReasons r e = 0 ↔ ¬PlainReason r e := by
  obtain ⟨h0, h1, h2, h3, h4, h5, h6, h7, h8, h9⟩ := plainReasons_bits r e
  rw [reasons_eq_zero_iff, PlainReason, ← h0, ← h1, ← h3, ← h4, ← h5, ← h6, ← h7]
  refine ⟨fun h => ?_, fun h k hk => ?_⟩
  · simp only [h 0 (by decide), h 1 (by decide), h 3 (by decide), h 4 (by decide), h 5 (by decide), h 6 (by decide),
      h 7 (by decide), Bool.false_eq_true, or_self, not_false_eq_true]
  · simp only [not_or, Bool.not_eq_true] at h
    obtain ⟨n0, n1, n3, n4, n5, n6, n7⟩ := h
    interval_cases k <;> assumption

section Reasons

variable {lot : Option Lot} {e : Entry} {r : Recipe} {extra : BitVec 10}

/-- The allowance test is made for a SOFT_LOW can with no other reason (R92). -/
theorem allowanceTested_iff : allowanceTested e (plainReasons r e ||| extra) = true ↔
    e.zone = some .softLow ∧ ¬PlainReason r e ∧ extra = 0 := by
  simp only [allowanceTested, Bool.and_eq_true, decide_eq_true_eq, ← plainReasons_eq_zero_iff]
  exact and_congr_right fun _ => BitVec.or_eq_zero_iff

theorem finalReasons_getLsbD (base : BitVec 10) {k : Nat} (hk : k < 10) (h2 : k ≠ 2) :
    (finalReasons lot e base).getLsbD k = base.getLsbD k := by
  unfold finalReasons
  split
  · next h =>
    have hnone : base = 0 := by
      simp only [allowanceTested, Bool.and_eq_true, decide_eq_true_eq] at h
      obtain ⟨⟨-, hbase⟩, -⟩ := h
      exact hbase
    have hbit : ∀ k, k < 10 → k ≠ 2 → Reason.softLimit.bit.getLsbD k = false := by decide
    rw [hnone, hbit k hk h2]
    exact BitVec.getLsbD_zero.symm
  · rfl

theorem finalReasons_softLimit {base : BitVec 10} (h : base.getLsbD 2 = false) :
    (finalReasons lot e base).getLsbD 2 = true ↔ allowanceTested e base = true ∧ allowanceLeft lot = false := by
  unfold finalReasons
  split
  · next htest => simpa [Reason.bit] using htest
  · next htest =>
    rw [h]
    simpa using htest

theorem decisionOf_accept {x : BitVec 10} : decisionOf x = .accept ↔ x = 0 := by
  unfold decisionOf
  split <;> simp_all

theorem decisionOf_reject {x : BitVec 10} : decisionOf x = .reject ↔ x ≠ 0 := by
  unfold decisionOf
  split <;> simp_all

end Reasons

/-! #### The lot that counts a decision -/

theorem addNet_toInt {sum : BitVec 64} {net : Int} (hlow : -9223372036854775808 ≤ sum.toInt + net)
    (hhigh : sum.toInt + net ≤ 9223372036854775807) : (addNet sum net).toInt = sum.toInt + net := by
  simp only [addNet]
  rw [if_pos ⟨hlow, hhigh⟩, BitVec.toInt_ofInt_eq_self (by decide) (by omega) (by omega)]

theorem countReasons_getD (set : BitVec 10) {counts : List Word} {k : Nat} (hk : k < counts.length) :
    (countReasons set counts).getD k 0 = counts.getD k 0 + (if set.getLsbD k then 1 else 0) := by
  rw [countReasons, mapFrom_getD _ _ _ _ _ 0 hk, Nat.zero_add]
  split <;> simp

theorem lotLimitCheck_eq (ref : RecipeRef) (d : Decision) (s : State) : lotLimitCheck ref d s =
    if ref = .active ∧ d = .accept ∧ (activeRecipe s).lotCanLimit ≠ 0 ∧
      ∃ l, s.recipes.activeLot = some l ∧ l.accepted.toNat = (activeRecipe s).lotCanLimit
    then reopenActiveLot .limit s else s := by
  unfold lotLimitCheck
  split
  · next l hl => simp [hl]
  · next hnot =>
    rw [if_neg]
    rintro ⟨rfl, rfl, -, l, hl, -⟩
    exact hnot l rfl rfl hl

/-! #### The offer writes no words but events (R196) -/

/-- What events leave of the Exchange Memory Unit: the time tag, every word but the queue's and the overflow flag, and every notice
class but EVENT (R196). -/
structure EventsOnly (e f : Exchange) : Prop where
  timeTag : f.timeTag = e.timeTag
  words : ∀ a, a ≠ 0x00C2 → ¬(0x0480 ≤ a ∧ a < 0x0580) → f.read a = e.read a
  notices : ∀ k, k ≠ 1 → f.notice.getLsbD k = e.notice.getLsbD k

theorem EventsOnly.refl (e : Exchange) : EventsOnly e e := ⟨rfl, fun _ _ _ => rfl, fun _ _ => rfl⟩

theorem EventsOnly.trans {e f g : Exchange} (hef : EventsOnly e f) (hfg : EventsOnly f g) : EventsOnly e g where
  timeTag := hfg.timeTag.trans hef.timeTag
  words a hflag hqueue := (hfg.words a hflag hqueue).trans (hef.words a hflag hqueue)
  notices k hk := (hfg.notices k hk).trans (hef.notices k hk)

theorem Exchange.event_eventsOnly (e : Exchange) (k : EventKind) (arg0 : Nat) (arg1 arg2 : Word) :
    EventsOnly e (e.event k arg0 arg1 arg2) where
  timeTag := e.event_timeTag k arg0 arg1 arg2
  words a hflag hqueue := by
    have hslot := e.evWrite.isLt
    unfold Exchange.event
    split
    · exact (e.read_write ..).trans (if_neg (by simp [overflowAddr]; omega))
    · exact (e.read_write ..).trans (if_neg (by simp; omega))
  notices n hn := by
    unfold Exchange.event
    split
    · rfl
    · have hbit : (2#5).getLsbD n = false := by
        obtain _ | _ | n := n
        · rfl
        · exact absurd rfl hn
        · simp [BitVec.getLsbD, Nat.testBit_succ]
      simp [Notice.bit, hbit]

theorem lotCloseEvents_eventsOnly (l : Lot) (nominal : Nat) (c : LotCause) (e : Exchange) :
    EventsOnly e (lotCloseEvents l nominal c e) := by
  unfold lotCloseEvents
  dsimp only
  repeat' split
  · exact e.event_eventsOnly ..
  · exact (e.event_eventsOnly ..).trans (Exchange.event_eventsOnly ..)
  · exact e.event_eventsOnly ..

theorem applyCorrection_eventsOnly (v : Nat) (s : State) : EventsOnly s.exch (applyCorrection v s).exch := by
  unfold applyCorrection
  dsimp only
  split
  · exact s.exch.event_eventsOnly ..
  · simpa using EventsOnly.refl s.exch

theorem takeQualifying_eventsOnly (v : Nat) (gen : Gen) (net : Int) (s : State) :
    EventsOnly s.exch (takeQualifying v gen net s).exch := by
  unfold takeQualifying averageCan
  dsimp only
  repeat' split
  · exact applyCorrection_eventsOnly v (setValve v _ s)
  all_goals exact .refl _

theorem hardLowCan_eventsOnly (v : Nat) (e : Entry) (net : Int) (s : State) :
    EventsOnly s.exch (hardLowCan v e net s).exch := by
  unfold hardLowCan
  dsimp only
  split
  · exact .refl _
  · exact s.exch.event_eventsOnly ..

theorem offerCan_eventsOnly (e : Entry) (s : State) : EventsOnly s.exch (offerCan e s).exch := by
  unfold offerCan
  dsimp only
  repeat' split
  · exact .refl _
  · exact hardLowCan_eventsOnly _ e _ (countCan _ e s)
  · exact takeQualifying_eventsOnly _ _ _ (setValve _ _ (countCan _ e s))
  · exact takeQualifying_eventsOnly _ _ _ (setValve _ _ (countCan _ e s))
  · exact .refl _
  · exact .refl _

end Sys2Proof.Machine

namespace Sys2Proof.Machine

/-! PROOFS. The decision with its count, and the close of the lot that it fills (R91 to R94, R97, R98, R163, log 17). -/

/-! #### The close of a lot and its successor in the exchange memory -/

/-- The active lot closes and its successor opens: the recipes block and the Exchange Memory Unit (R161 to R163). -/
theorem reopenActiveLot_of_lot {l : Lot} (c : LotCause) {s : State} (hl : s.recipes.activeLot = some l) :
    (reopenActiveLot c s).recipes = { s.recipes with
      activeLot := some (freshLot s.recipes.nextLot (activeRecipe s) s.exch.timeTag), nextLot := nextNumber s.recipes.nextLot
      fine := 600, finePhase := 0, closedPos := s.recipes.closedPos + 1 } ∧
    (reopenActiveLot c s).exch = ((lotCloseEvents l (activeRecipe s).nominal c (s.exch.write (0x0300 + 32 * s.recipes.closedPos.val)
      (closedLotWords l s.exch.timeTag c (activeRecipe s).nominal))).raiseNotice .lot).write lotMinutesAddr
        [wordOfNat (activeRecipe s).lotMinutes] := by
  simp [reopenActiveLot, closeActiveLot, openLot, fileLot, setLot, recipeOf, activeRecipe, hl]

/-- A lot filed at a position of the closed lot list, with its events, its notice and the minutes of its successor, as the host
then reads it (R162, R165). -/
theorem filedLot_reads (e : Exchange) (l : Lot) (nominal : Nat) (c : LotCause) (pos : Fin 8) (tag minutes : Word) :
    let f := ((lotCloseEvents l nominal c (e.write (0x0300 + 32 * pos.val) (closedLotWords l tag c nominal))).raiseNotice
      .lot).write lotMinutesAddr [minutes]
    (∀ i, i < 32 → f.read (0x0300 + 32 * pos.val + i) = (closedLotWords l tag c nominal).getD i 0) ∧
    f.read 0x00C1 = minutes ∧ f.notice.getLsbD 3 = true := by
  intro f
  have hevents := lotCloseEvents_eventsOnly l nominal c
    (e.write (0x0300 + 32 * pos.val) (closedLotWords l tag c nominal))
  have hpos := pos.isLt
  refine ⟨fun i hi => ?_, ?_, ?_⟩
  · have hbelow : f.read (0x0300 + 32 * pos.val + i) = _ := (Exchange.read_write ..).trans (if_neg (by simp [lotMinutesAddr]; omega))
    refine hbelow.trans ((hevents.words _ (by omega) (by omega)).trans ?_)
    rw [Exchange.read_write, closedLotWords_length, if_pos (by omega), Nat.add_sub_cancel_left]
  · exact (Exchange.read_write ..).trans (if_pos (by simp [lotMinutesAddr]))
  · simp [f, Notice.bit]

/-! #### The decision counted -/

/-- An ACCEPT in the active lot that brings its accepted to lot_can_limit (R163). -/
def FillsLot (reasons : BitVec 10) (e : Entry) (l : Lot) (s : State) : Prop :=
  e.recipe = .active ∧ reasons = 0 ∧ (activeRecipe s).lotCanLimit ≠ 0 ∧ (l.accepted + 1).toNat = (activeRecipe s).lotCanLimit

/-- The lot with a decision counted, by the reasons that the entry is given (R94). -/
def countedLotOf (extra : BitVec 10) (e : Entry) (l : Lot) (s : State) : Lot :=
  countDecision (decisionOf (decidedEntry s extra e).reasons) (decidedEntry s extra e).reasons (e.net.getD 0)
    (allowanceTested e (plainReasons (recipeOf s e.recipe) e ||| extra)) l

section Counted

variable {extra : BitVec 10} {e : Entry} {l : Lot} {s : State}

theorem decidedLot_of_open (hl : lotOf s e.recipe = some l) : decidedLot s extra e = some (countedLotOf extra e l s) := by
  simp only [decidedLot, hl, Option.map_some, countedLotOf, decidedEntry]

theorem countDecision_accept (reasons : BitVec 10) (net : Int) (soft : Bool) (l : Lot) :
    countDecision .accept reasons net soft l = { l with
      decided := l.decided + 1, accepted := l.accepted + 1, netSum := addNet l.netSum net
      softUsed := if soft then l.softUsed + 1 else l.softUsed } := rfl

theorem countDecision_reject (reasons : BitVec 10) (net : Int) (soft : Bool) (l : Lot) :
    countDecision .reject reasons net soft l = { l with
      decided := l.decided + 1, rejected := l.rejected + 1, reasons := countReasons reasons l.reasons } := rfl

theorem countedLotOf_of_accept (h : (decidedEntry s extra e).reasons = 0) : countedLotOf extra e l s = { l with
    decided := l.decided + 1, accepted := l.accepted + 1, netSum := addNet l.netSum (e.net.getD 0)
    softUsed := if allowanceTested e (plainReasons (recipeOf s e.recipe) e ||| extra) then l.softUsed + 1 else l.softUsed } := by
  rw [countedLotOf, decisionOf_accept.mpr h, countDecision_accept]

theorem countedLotOf_of_reject (h : (decidedEntry s extra e).reasons ≠ 0) : countedLotOf extra e l s = { l with
    decided := l.decided + 1, rejected := l.rejected + 1
    reasons := countReasons (decidedEntry s extra e).reasons l.reasons } := by
  rw [countedLotOf, decisionOf_reject.mpr h, countDecision_reject]

theorem lotOf_setLot (ref : RecipeRef) (l : Option Lot) (s : State) : lotOf (setLot ref l s) ref = l := by
  cases ref <;> rfl

theorem lotOf_of_recipes {s t : State} (h : t.recipes = s.recipes) (ref : RecipeRef) : lotOf t ref = lotOf s ref := by
  cases ref <;> simp only [lotOf, h]

theorem counted_of_not_full (hl : lotOf s e.recipe = some l) (hfull : ¬FillsLot (decidedEntry s extra e).reasons e l s) :
    counted extra e s = setLot e.recipe (some (countedLotOf extra e l s)) (setEntry (decidedEntry s extra e) s) := by
  rw [counted, decidedLot_of_open hl, lotLimitCheck_eq, if_neg]
  rintro ⟨href, hd, hlim, k, hk, hacc⟩
  have hreasons := decisionOf_accept.mp hd
  rw [href] at hk hlim hacc
  rw [setLot_active_activeLot, countedLotOf_of_accept hreasons] at hk
  exact hfull ⟨href, hreasons, hlim, by rw [← Option.some.inj hk] at hacc; exact hacc⟩

theorem counted_of_full (hl : lotOf s e.recipe = some l) (hfull : FillsLot (decidedEntry s extra e).reasons e l s) :
    counted extra e s = reopenActiveLot .limit
      (setLot .active (some (countedLotOf extra e l s)) (setEntry (decidedEntry s extra e) s)) := by
  obtain ⟨href, hreasons, hlim, hacc⟩ := hfull
  rw [counted, decidedLot_of_open hl, lotLimitCheck_eq, href]
  refine if_pos ⟨rfl, decisionOf_accept.mpr hreasons, hlim, _, rfl, ?_⟩
  rw [countedLotOf_of_accept hreasons]
  exact hacc

/-- The decision of a can that does not fill its lot: the lot with the can counted (R92, R94). -/
theorem decideEntry_counts (hl : lotOf s e.recipe = some l) (hfull : ¬FillsLot (decidedEntry s extra e).reasons e l s) :
    lotOf (decideEntry extra e s) e.recipe = some (countedLotOf extra e l s) := by
  rw [decideEntry_eq, lotOf_of_recipes (s := counted extra e s) (by simp), counted_of_not_full hl hfull, lotOf_setLot]

/-- The decision of a can that fills its lot: the lot filed with the can counted, and the next opened (R163, log 17). -/
theorem decideEntry_fills (hl : lotOf s e.recipe = some l) (hfull : FillsLot (decidedEntry s extra e).reasons e l s) :
    let t := decideEntry extra e s
    let k := countedLotOf extra e l s
    let r := activeRecipe s
    t.recipes = { s.recipes with
      activeLot := some (freshLot s.recipes.nextLot r s.exch.timeTag), nextLot := nextNumber s.recipes.nextLot
      fine := 600, finePhase := 0, closedPos := s.recipes.closedPos + 1 } ∧
    (∀ i, i < 32 → t.exch.read (0x0300 + 32 * s.recipes.closedPos.val + i) =
      (closedLotWords k s.exch.timeTag .limit r.nominal).getD i 0) ∧
    t.exch.read 0x00C1 = wordOfNat r.lotMinutes ∧ t.exch.notice.getLsbD 3 = true := by
  intro t k r
  have ht : t = offerCan (decidedEntry s extra e) (counted extra e s) := decideEntry_eq ..
  obtain ⟨hrecipes, hexch⟩ := reopenActiveLot_of_lot (l := k) .limit
    (s := setLot .active (some k) (setEntry (decidedEntry s extra e) s)) rfl
  rw [← counted_of_full hl hfull] at hrecipes hexch
  have hoffer := offerCan_eventsOnly (decidedEntry s extra e) (counted extra e s)
  rw [← ht] at hoffer
  obtain ⟨hwords, hminutes, hnotice⟩ := filedLot_reads s.exch k r.nominal .limit s.recipes.closedPos s.exch.timeTag
    (wordOfNat r.lotMinutes)
  have hfiled : (counted extra e s).exch = _ := hexch
  refine ⟨?_, fun i hi => ?_, ?_, ?_⟩
  · rw [ht, offerCan_recipes, hrecipes]
    rfl
  · have hpos := s.recipes.closedPos.isLt
    rw [hoffer.words _ (by omega) (by omega), hfiled]
    exact hwords i hi
  · rw [hoffer.words _ (by decide) (by decide), hfiled]
    exact hminutes
  · rw [hoffer.notices _ (by decide), hfiled]
    exact hnotice

end Counted

/-! #### The decided entry -/

theorem decidedEntry_mem {extra : BitVec 10} {e : Entry} {s : State} (he : e ∈ s.track.entries) :
    decidedEntry s extra e ∈ (decideEntry extra e s).track.entries := by
  rw [decideEntry_entries]
  exact List.mem_map.mpr ⟨e, he, if_pos rfl⟩

theorem decidedEntry_reasons (extra : BitVec 10) (e : Entry) (s : State) : (decidedEntry s extra e).reasons =
    finalReasons (lotOf s e.recipe) e (plainReasons (recipeOf s e.recipe) e ||| extra) := rfl

/-- A bit of a decided entry's reasons other than SOFT_LIMIT's (R91). -/
theorem decidedEntry_reason {extra : BitVec 10} {e : Entry} {s : State} {k : Nat} (hk : k < 10) (h2 : k ≠ 2) :
    (decidedEntry s extra e).reasons.getLsbD k =
      ((plainReasons (recipeOf s e.recipe) e).getLsbD k || extra.getLsbD k) := by
  rw [decidedEntry_reasons, finalReasons_getLsbD _ hk h2, BitVec.getLsbD_or]

/-- The reasons that a place adds are UNDECIDED and FAULT_STOP alone (R97, R98). -/
def PlaceReasons (extra : BitVec 10) : Prop := extra = 0 ∨ extra = 0x100#10 ∨ extra = 0x300#10

theorem PlaceReasons.low {extra : BitVec 10} (h : PlaceReasons extra) {k : Nat} (hk : k < 8) : extra.getLsbD k = false := by
  have hbits : ∀ x ∈ [0#10, 0x100#10, 0x300#10], ∀ k, k < 8 → x.getLsbD k = false := by decide
  exact hbits extra (by simpa [PlaceReasons] using h) k hk

theorem decidedEntry_plainReason {extra : BitVec 10} {e : Entry} {s : State} (hextra : PlaceReasons extra) {k : Nat}
    (hk : k < 8) (h2 : k ≠ 2) :
    (decidedEntry s extra e).reasons.getLsbD k = true ↔ (plainReasons (recipeOf s e.recipe) e).getLsbD k = true := by
  rw [decidedEntry_reason (by omega) h2, hextra.low hk, Bool.or_false]

theorem decidedEntry_softLimit {extra : BitVec 10} {e : Entry} {l : Lot} {s : State} (hextra : PlaceReasons extra)
    (hl : lotOf s e.recipe = some l) : (decidedEntry s extra e).reasons.getLsbD 2 = true ↔
      (e.zone = some .softLow ∧ ¬PlainReason (recipeOf s e.recipe) e ∧ extra = 0) ∧ ¬l.softUsed < l.allowance := by
  obtain ⟨-, -, hsoft, -⟩ := plainReasons_bits (recipeOf s e.recipe) e
  rw [decidedEntry_reasons, finalReasons_softLimit (by rw [BitVec.getLsbD_or, hsoft, hextra.low (by decide)]; rfl),
    allowanceTested_iff, hl]
  simp [allowanceLeft]

theorem decidedEntry_decision (extra : BitVec 10) (e : Entry) (s : State) : let x := decidedEntry s extra e
    (x.decision = some .reject ↔ x.reasons ≠ 0) ∧ (x.decision = some .accept ↔ x.reasons = 0) := by
  intro x
  exact ⟨Option.some_inj.trans decisionOf_reject, Option.some_inj.trans decisionOf_accept⟩

theorem counted_changesOnly (extra : BitVec 10) (e : Entry) (s : State) :
    ChangesOnly [.track, .recipes, .exch] s (counted extra e s) := by
  unfold counted
  exact .intro

theorem decideEntry_changesOnly (extra : BitVec 10) (e : Entry) (s : State) :
    ChangesOnly [.track, .valves, .dose, .recipes, .exch] s (decideEntry extra e s) := .intro

/-- Settles O32: the reasons bit by bit, the count of a lot that stays open, and the close of a lot that the can fills. -/
theorem aDecisionFollowsItsReasons : Obligations.ADecisionFollowsItsReasons := by
  intro e l extra s he hl hextra r plain tested t
  obtain ⟨h0, h1, -, h3, h4, h5, h6, h7, h8, h9⟩ := plainReasons_bits r e
  have hbit {k : Nat} (hk : k < 8) (h2 : k ≠ 2) := decidedEntry_plainReason (e := e) (s := s) hextra hk h2
  have htested : allowanceTested e (plainReasons r e ||| extra) = true ↔ tested := allowanceTested_iff
  obtain ⟨hreject, haccept⟩ := decidedEntry_decision extra e s
  refine ⟨decideEntry_changesOnly extra e s, decidedEntry s extra e, decidedEntry_mem he, by simp [decidedEntry, hl],
    (hbit (by decide) (by decide)).trans h0, (hbit (by decide) (by decide)).trans h1, decidedEntry_softLimit hextra hl,
    (hbit (by decide) (by decide)).trans h3, (hbit (by decide) (by decide)).trans h4, (hbit (by decide) (by decide)).trans h5,
    (hbit (by decide) (by decide)).trans h6, (hbit (by decide) (by decide)).trans h7, ?_, ?_, hreject, haccept,
    ⟨counted extra e s, counted_changesOnly extra e s, by simp [t, decideEntry_eq], by simp [t, decideEntry_eq], rfl⟩,
    fun hfull => ⟨_, decideEntry_counts hl hfull, ?_⟩, fun hfull => ?_⟩
  · rw [decidedEntry_reason (by decide) (by decide), h8, Bool.false_or]
  · rw [decidedEntry_reason (by decide) (by decide), h9, Bool.false_or]
  · by_cases hx : (decidedEntry s extra e).reasons = 0
    · rw [countedLotOf_of_accept hx]
      refine ⟨rfl, rfl, fun _ => ⟨rfl, rfl, rfl, fun ht => if_pos (htested.mpr ht), fun ht => if_neg (mt htested.mp ht),
        fun n hn hlow hhigh => ?_⟩, fun hne => absurd hx hne⟩
      rw [hn]
      exact addNet_toInt hlow hhigh
    · rw [countedLotOf_of_reject hx]
      exact ⟨rfl, rfl, fun hzero => absurd hzero hx, fun _ => ⟨rfl, rfl, rfl, rfl, fun k hk => countReasons_getD _ hk⟩⟩
  · obtain ⟨hrecipes, hwords, hminutes, hnotice⟩ := decideEntry_fills hl hfull
    obtain ⟨-, hzero, -⟩ := hfull
    rw [countedLotOf_of_accept hzero] at hwords
    exact ⟨by rw [hrecipes], by rw [hrecipes], by rw [hrecipes], by rw [hrecipes], by rw [hrecipes], hwords 0 (by decide),
      hwords 5 (by decide), hwords 6 (by decide), hwords 7 (by decide), hwords 8 (by decide), hminutes, hnotice⟩

end Sys2Proof.Machine

namespace Sys2Proof.Machine

/-! PROOFS. The reject eye: a can decided, forced out or passed, with its fire and its window (R97 to R101). -/

/-! #### The entry that the eye settles -/

/-- After its replacement an entry is found under its serial. -/
theorem entryOf_setEntry {e x : Entry} {s : State} (he : entryOf e.serial s = some e) (hx : x.serial = e.serial) :
    entryOf e.serial (setEntry x s) = some x := by
  unfold entryOf at he ⊢
  rw [setEntry_entries, List.find?_map]
  have hsame : (fun y : Entry => decide (y.serial = e.serial)) ∘ (fun y => if y.serial = x.serial then x else y) =
      fun y => decide (y.serial = e.serial) := by
    funext y
    by_cases hy : y.serial = e.serial
    · simp [hx, hy]
    · simp [hx, hy]
  rw [hsame, he, Option.map_some, if_pos hx.symm]

theorem entryOf_of_track {s t : State} (h : t.track = s.track) (serial : Nat) : entryOf serial t = entryOf serial s := by
  simp only [entryOf, h]

theorem mem_of_entryOf {serial : Nat} {e : Entry} {s : State} (h : entryOf serial s = some e) : e ∈ s.track.entries :=
  List.mem_of_find?_eq_some h

theorem decideEntry_track (extra : BitVec 10) (e : Entry) (s : State) :
    (decideEntry extra e s).track = (setEntry (decidedEntry s extra e) s).track := by
  simp [decideEntry]

theorem recipeOf_of_slots {s t : State} (ha : t.recipes.active = s.recipes.active)
    (hr : t.recipes.retiring = s.recipes.retiring) (ref : RecipeRef) : recipeOf t ref = recipeOf s ref := by
  cases ref <;> simp only [recipeOf, activeRecipe, ha, hr]

theorem counted_retiring (extra : BitVec 10) (e : Entry) (s : State) :
    (counted extra e s).recipes.retiring = s.recipes.retiring := by
  have hset (ref : RecipeRef) (l : Option Lot) (u : State) : (setLot ref l u).recipes.retiring = u.recipes.retiring := by
    cases ref <;> rfl
  rw [counted, lotLimitCheck_eq]
  split
  · obtain ⟨pos, start, hr⟩ := reopenActiveLot_recipes .limit
      (setLot e.recipe (decidedLot s extra e) (setEntry (decidedEntry s extra e) s))
    rw [hr]
    exact hset ..
  · exact hset ..

/-- A decision leaves the recipes in force. -/
theorem decideEntry_recipeOf (extra : BitVec 10) (e : Entry) (s : State) (ref : RecipeRef) :
    recipeOf (decideEntry extra e s) ref = recipeOf s ref := by
  refine recipeOf_of_slots ?_ ?_ ref
  · rw [decideEntry_eq, offerCan_recipes]
    obtain ⟨-, -, -, hactive⟩ := counted_frame extra e s
    exact hactive
  · rw [decideEntry_eq, offerCan_recipes]
    exact counted_retiring extra e s

/-! #### The reasons that the eye adds (R97, R98) -/

theorem eyeReasons_eq (s : State) : eyeReasons s = if s.part.state = .faultStop then 0x300#10 else 0x100#10 := by
  unfold eyeReasons reasonIf
  by_cases h : s.part.state = .faultStop
  · simp [h, Reason.bit]
  · simp [h, Reason.bit]

/-- An entry decided at the eye is UNDECIDED, and FAULT_STOP in FAULT_STOP; so it is a REJECT. -/
theorem decidedEntry_at_eye (e : Entry) (s : State) : let x := decidedEntry s (eyeReasons s) e
    x.decision = some .reject ∧ x.reasons.getLsbD 8 = true ∧ (s.part.state = .faultStop → x.reasons.getLsbD 9 = true) := by
  intro x
  have hundecided : x.reasons.getLsbD 8 = true := by
    rw [decidedEntry_reason (by decide) (by decide), eyeReasons_eq]
    split <;> simp
  obtain ⟨hreject, -⟩ := decidedEntry_decision (eyeReasons s) e s
  refine ⟨hreject.mpr fun hzero => ?_, hundecided, fun hstop => ?_⟩
  · exact absurd (hzero ▸ hundecided) (by decide)
  · rw [decidedEntry_reason (by decide) (by decide), eyeReasons_eq, if_pos hstop]
    simp

/-! #### The fire and the pass (R99, R101) -/

/-- A REJECT at the eye: the driver fires and the entry waits for its confirmation. -/
def kickedOut (x : Entry) (r : Recipe) (s : State) : State :=
  setEntry { x with stage := .pastReject, deadline := some (r.confirmWindow * 10) } (fire r.rejectPulse s)

theorem passEye_reject {x : Entry} (h : x.decision = some .reject) (s : State) :
    passEye x s = kickedOut x (recipeOf s x.recipe) s := if_pos h

theorem passEye_accept {x : Entry} (h : x.decision ≠ some .reject) (s : State) : passEye x s =
    setEntry { x with stage := .pastReject, deadline := some ((recipeOf s x.recipe).missingWindow * 10) } s := if_neg h

theorem kickedOut_mem {e x : Entry} {r : Recipe} {s : State} (he : e ∈ s.track.entries) (hx : x.serial = e.serial) :
    { x with stage := .pastReject, deadline := some (r.confirmWindow * 10) } ∈ (kickedOut x r s).track.entries :=
  mem_setEntry (s := fire r.rejectPulse s) he hx.symm

/-- The eye with a WEIGHED entry: the entry as it is settled, found again and passed. -/
theorem takeAtEye_of_settled {e x : Entry} {s : State} (h : entryOf e.serial (settleAtEye e s) = some x) :
    takeAtEye e s = passEye x (settleAtEye e s) := by
  simp only [takeAtEye, h]

theorem exec_rejectEyeArrival {e : Entry} {s : State} (htakes : s.takesCans = true) (he : oldestOf .weighed s = some e) :
    exec .rejectEyeArrival s = .next (takeAtEye e s) := by
  simp only [exec, execRejectEyeArrival, htakes, if_true, he]

theorem settleAtEye_undecided {e : Entry} (h : e.decision = none) (s : State) :
    settleAtEye e s = decideEntry (eyeReasons s) e s := by simp [settleAtEye, h]

theorem settleAtEye_forced {e : Entry} {s : State} (h : e.decision ≠ none) (hstop : s.part.state = .faultStop) :
    settleAtEye e s = forceEntry e s := by simp [settleAtEye, h, hstop]

theorem settleAtEye_decided {e : Entry} {s : State} (h : e.decision ≠ none) (hstop : s.part.state ≠ .faultStop) :
    settleAtEye e s = s := by simp [settleAtEye, h, hstop]

/-- An undecided can is decided at the eye, and kicked out (R97). -/
theorem takeAtEye_undecided {e : Entry} {s : State} (he : entryOf e.serial s = some e) (hd : e.decision = none) :
    takeAtEye e s = kickedOut (decidedEntry s (eyeReasons s) e) (recipeOf s e.recipe) (decideEntry (eyeReasons s) e s) ∧
    entryOf e.serial (decideEntry (eyeReasons s) e s) = some (decidedEntry s (eyeReasons s) e) := by
  have hfound : entryOf e.serial (decideEntry (eyeReasons s) e s) = some (decidedEntry s (eyeReasons s) e) :=
    (entryOf_of_track (decideEntry_track ..) _).trans (entryOf_setEntry he rfl)
  rw [← settleAtEye_undecided hd] at hfound
  obtain ⟨hreject, -⟩ := decidedEntry_at_eye e s
  refine ⟨?_, settleAtEye_undecided hd s ▸ hfound⟩
  rw [takeAtEye_of_settled hfound, passEye_reject hreject, settleAtEye_undecided hd, decideEntry_recipeOf]
  rfl

/-- The forced entry: a REJECT with FAULT_STOP among its reasons (R98). -/
def forcedEntry (e : Entry) : Entry := { e with decision := some .reject, reasons := e.reasons ||| Reason.faultStop.bit }

/-- The lots with a forced can recounted (R98). -/
def recounted (e : Entry) (s : State) : State := recountLot e .retiring (recountLot e .active s)

theorem forceEntry_eq (e : Entry) (s : State) : forceEntry e s = setEntry (forcedEntry e) (recounted e s) := rfl

theorem recounted_recipes (e : Entry) (s : State) : (recounted e s).recipes = { s.recipes with
    activeLot := (recounted e s).recipes.activeLot, retiringLot := (recounted e s).recipes.retiringLot } := by
  unfold recounted
  rw [recountLot_recipes, recountLot_recipes e .active]

/-- A decided can in FAULT_STOP is forced out and recounted (R98). -/
theorem takeAtEye_forced {e : Entry} {s : State} (he : entryOf e.serial s = some e) (hd : e.decision ≠ none)
    (hstop : s.part.state = .faultStop) :
    takeAtEye e s = kickedOut (forcedEntry e) (recipeOf s e.recipe) (setEntry (forcedEntry e) (recounted e s)) := by
  have hfound : entryOf e.serial (setEntry (forcedEntry e) (recounted e s)) = some (forcedEntry e) :=
    entryOf_setEntry ((entryOf_of_track (by simp [recounted]) _).trans he) rfl
  have hslots : (setEntry (forcedEntry e) (recounted e s)).recipes = { s.recipes with
      activeLot := (recounted e s).recipes.activeLot, retiringLot := (recounted e s).recipes.retiringLot } :=
    recounted_recipes e s
  have hrecipe : recipeOf (setEntry (forcedEntry e) (recounted e s)) e.recipe = recipeOf s e.recipe :=
    recipeOf_of_slots (by rw [hslots]) (by rw [hslots]) _
  rw [← forceEntry_eq, ← settleAtEye_forced hd hstop] at hfound hrecipe ⊢
  rw [takeAtEye_of_settled hfound, passEye_reject rfl]
  exact congrArg (fun r => kickedOut (forcedEntry e) r (settleAtEye e s)) hrecipe

/-- A can decided REJECT is kicked out as it stands (R99). -/
theorem takeAtEye_rejected {e : Entry} {s : State} (he : entryOf e.serial s = some e) (hd : e.decision = some .reject)
    (hstop : s.part.state ≠ .faultStop) : takeAtEye e s = kickedOut e (recipeOf s e.recipe) s := by
  have hsettled : settleAtEye e s = s := settleAtEye_decided (by simp [hd]) hstop
  rw [takeAtEye_of_settled (hsettled.symm ▸ he), hsettled, passEye_reject hd]

end Sys2Proof.Machine

namespace Sys2Proof.Machine

/-! PROOFS. The recount of a forced can, and the reject eye as a whole (R97 to R101, log 3). -/

/-! #### The recount (R98) -/

theorem faultStop_bit (k : Nat) : Reason.faultStop.bit.getLsbD k = decide (k = 9) := by
  by_cases hk : k < 10
  · have hbits : ∀ k, k < 10 → Reason.faultStop.bit.getLsbD k = decide (k = 9) := by decide
    exact hbits k hk
  · rw [BitVec.getLsbD_of_ge _ _ (by omega), decide_eq_false (by omega)]

/-- A lot after a forced can has been recounted: the can's own, and no other (R98). -/
def recountedLot (e : Entry) (l : Lot) : Lot :=
  if e.countedLot = some l.index then recountForced e.decision (e.net.getD 0) l else l

theorem lotOf_recountLot (e : Entry) (ref : RecipeRef) (s : State) :
    lotOf (recountLot e ref s) ref = (lotOf s ref).map (recountedLot e) := by
  unfold recountLot
  split
  · next h => rw [h, Option.map_none]
  · next l hl =>
    rw [hl, Option.map_some, recountedLot]
    split
    · exact lotOf_setLot ..
    · exact hl

theorem lotOf_recountLot_other {ref other : RecipeRef} (h : other ≠ ref) (e : Entry) (s : State) :
    lotOf (recountLot e ref s) other = lotOf s other := by
  have hset (l : Option Lot) : lotOf (setLot ref l s) other = lotOf s other := by
    cases ref with
    | active => cases other with
      | active => exact absurd rfl h
      | retiring => rfl
    | retiring => cases other with
      | active => rfl
      | retiring => exact absurd rfl h
  unfold recountLot
  repeat' split
  · rfl
  · exact hset _
  · rfl

theorem lotOf_recounted (e : Entry) (s : State) (ref : RecipeRef) :
    lotOf (recounted e s) ref = (lotOf s ref).map (recountedLot e) := by
  cases ref with
  | active => rw [recounted, lotOf_recountLot_other (by decide), lotOf_recountLot]
  | retiring => rw [recounted, lotOf_recountLot, lotOf_recountLot_other (by decide)]

theorem recountForced_reject (net : Int) (l : Lot) : recountForced (some .reject) net l =
    { l with reasons := countReasons Reason.faultStop.bit l.reasons } := rfl

theorem recountForced_accept (net : Int) (l : Lot) : recountForced (some .accept) net l =
    { l with
      reasons := countReasons Reason.faultStop.bit l.reasons, accepted := l.accepted - 1, rejected := l.rejected + 1
      netSum := addNet l.netSum (-net) } := rfl

/-- What the recount leaves of a lot, whatever the decision was. -/
theorem recountForced_keeps (before : Option Decision) (net : Int) (l : Lot) : let k := recountForced before net l
    k.index = l.index ∧ k.decided = l.decided ∧ k.softUsed = l.softUsed ∧
    k.reasons = countReasons Reason.faultStop.bit l.reasons := by
  intro k
  cases before with
  | none => exact ⟨rfl, rfl, rfl, rfl⟩
  | some d => cases d <;> exact ⟨rfl, rfl, rfl, rfl⟩

/-- The can's own lot: one more FAULT_STOP, and an accepted can moved to the rejected with its net taken out (R98). -/
theorem recountedLot_own {e : Entry} {l : Lot} (h : e.countedLot = some l.index) : let k := recountedLot e l
    k.index = l.index ∧ k.decided = l.decided ∧ k.softUsed = l.softUsed ∧
    (∀ i, i < l.reasons.length → k.reasons.getD i 0 = l.reasons.getD i 0 + (if i = 9 then 1 else 0)) ∧
    (e.decision = some .reject → k.accepted = l.accepted ∧ k.rejected = l.rejected ∧ k.netSum = l.netSum) ∧
    (e.decision = some .accept → k.accepted = l.accepted - 1 ∧ k.rejected = l.rejected + 1 ∧
      ∀ n, e.net = some n → -9223372036854775808 ≤ l.netSum.toInt - n → l.netSum.toInt - n ≤ 9223372036854775807 →
        k.netSum.toInt = l.netSum.toInt - n) := by
  intro k
  have hk : k = recountForced e.decision (e.net.getD 0) l := if_pos h
  obtain ⟨hindex, hdecided, hsoft, hreasons⟩ := recountForced_keeps e.decision (e.net.getD 0) l
  rw [hk]
  refine ⟨hindex, hdecided, hsoft, fun i hi => ?_, fun hd => ?_, fun hd => ?_⟩
  · simp only [hreasons, countReasons_getD _ hi, faultStop_bit, decide_eq_true_eq]
  · rw [hd, recountForced_reject]
    exact ⟨rfl, rfl, rfl⟩
  · rw [hd, recountForced_accept]
    refine ⟨rfl, rfl, fun n hn hlow hhigh => ?_⟩
    rw [hn, Int.sub_eq_add_neg] at *
    exact addNet_toInt hlow hhigh

/-! #### The reject eye with a WEIGHED entry -/

section RejectEye

variable {e : Entry} {s : State}

/-- A can that is undecided, forced or rejected leaves the eye as a REJECT, its driver firing (R97 to R99). -/
theorem takeAtEye_kicks (he : entryOf e.serial s = some e)
    (hcase : e.decision = none ∨ s.part.state = .faultStop ∨ e.decision = some .reject) :
    ∃ x u, takeAtEye e s = kickedOut x (recipeOf s e.recipe) u ∧ (∃ y ∈ u.track.entries, y.serial = e.serial) ∧
      x = { e with decision := some .reject, reasons := x.reasons, countedLot := x.countedLot } ∧
      (s.part.state = .faultStop → x.reasons.getLsbD 9 = true) ∧ (e.decision = none → x.reasons.getLsbD 8 = true) := by
  have hmem := mem_of_entryOf he
  by_cases hnone : e.decision = none
  · obtain ⟨hreject, hundecided, hstop⟩ := decidedEntry_at_eye e s
    obtain ⟨hkick, -⟩ := takeAtEye_undecided he hnone
    refine ⟨_, _, hkick, ⟨_, decidedEntry_mem hmem, rfl⟩, ?_, hstop, fun _ => hundecided⟩
    rw [← hreject]
    rfl
  by_cases hstop : s.part.state = .faultStop
  · refine ⟨_, _, takeAtEye_forced he hnone hstop, ⟨_, mem_setEntry (x := e) ?_ rfl, rfl⟩, rfl, fun _ => ?_,
      fun h => absurd h hnone⟩
    · simpa [recounted] using hmem
    · rw [forcedEntry, BitVec.getLsbD_or, faultStop_bit]
      simp
  · have hreject := (hcase.resolve_left hnone).resolve_left hstop
    refine ⟨_, _, takeAtEye_rejected he hreject hstop, ⟨e, hmem, rfl⟩, ?_, fun h => absurd h hstop, fun h => absurd h hnone⟩
    rw [← hreject]

theorem takeAtEye_changesOnly (e : Entry) (s : State) :
    ChangesOnly [.track, .reject, .valves, .dose, .recipes, .exch] s (takeAtEye e s) := .intro

theorem takeAtEye_rejected_changesOnly (he : entryOf e.serial s = some e) (hd : e.decision = some .reject)
    (hstop : s.part.state ≠ .faultStop) : ChangesOnly [.track, .reject] s (takeAtEye e s) := by
  rw [takeAtEye_rejected he hd hstop, kickedOut]
  exact .intro

/-- A forced can changes the lots of the recipes block alone, and of these its own alone (R98). -/
theorem takeAtEye_forced_fields (he : entryOf e.serial s = some e) (hd : e.decision ≠ none) (hstop : s.part.state = .faultStop) :
    let t := takeAtEye e s
    ChangesOnly [.track, .reject, .recipes] s t ∧
    t.recipes = { s.recipes with activeLot := t.recipes.activeLot, retiringLot := t.recipes.retiringLot } ∧
    ∀ ref, lotOf t ref = (lotOf s ref).map (recountedLot e) := by
  intro t
  have ht : t = kickedOut (forcedEntry e) (recipeOf s e.recipe) (setEntry (forcedEntry e) (recounted e s)) :=
    takeAtEye_forced he hd hstop
  have hrecipes : t.recipes = (recounted e s).recipes := by rw [ht]; rfl
  refine ⟨?_, by rw [hrecipes]; exact recounted_recipes e s, fun ref => ?_⟩
  · rw [ht, kickedOut, recounted]
    exact .intro
  · rw [lotOf_of_recipes hrecipes, lotOf_recounted]

end RejectEye

/-- Settles O33: what becomes of an undecided, a forced and a rejected can at the eye, then the accepted one, the eye without an
entry, and the end of the pulse. -/
theorem theRejectEyeSettlesACan : Obligations.TheRejectEyeSettlesACan := by
  intro e s
  refine ⟨fun htakes hold he hcase => ?_, fun htakes hstop hold he hd => ?_, fun htakes hnone => ?_, fun hpulse => ?_,
    fun left hpulse => ?_⟩
  · obtain ⟨x, u, hkick, ⟨y, hy, hserial⟩, hx, hfault, hundecided⟩ := takeAtEye_kicks he hcase
    have hxserial : x.serial = y.serial := by rw [hserial, hx]
    have hmem := kickedOut_mem (r := recipeOf s e.recipe) hy hxserial
    rw [← hkick] at hmem
    refine ⟨takeAtEye e s, exec_rejectEyeArrival htakes hold, by rw [hkick]; rfl,
      ⟨_, hmem, hxserial.trans hserial, rfl, ?_, rfl, ?_, ?_, hfault, hundecided⟩,
      fun hd => ?_, fun hd hstop => takeAtEye_rejected_changesOnly he hd hstop, fun hd hstop => ?_, takeAtEye_changesOnly e s⟩
    · rw [hx]
    · rw [hx]
    · rw [hx]
    · obtain ⟨heq, hfound⟩ := takeAtEye_undecided he hd
      rw [← eyeReasons_eq]
      exact ⟨_, hfound, heq⟩
    · obtain ⟨hframe, hrecipes, hlots⟩ := takeAtEye_forced_fields he hd hstop
      refine ⟨hframe, hrecipes, fun ref => ⟨fun h => by rw [hlots, h, Option.map_none], fun l hl => ?_⟩⟩
      rw [hlots, hl, Option.map_some]
      exact ⟨fun hother => congrArg some (if_neg hother), fun hown => ⟨_, rfl, recountedLot_own hown⟩⟩
  · have hsettled : settleAtEye e s = s := settleAtEye_decided (by simp [hd]) hstop
    refine ⟨_, exec_rejectEyeArrival htakes hold, ?_⟩
    rw [takeAtEye_of_settled (hsettled.symm ▸ he), hsettled, passEye_accept (by simp [hd])]
    exact ⟨rfl, .intro⟩
  · refine ⟨kickUnknown s, ?_, rfl, rfl, .intro⟩
    simp only [exec, execRejectEyeArrival, htakes, if_true, hnone]
  · refine ⟨{ s with reject := { actuator := .idle, drive := false } }, ?_, rfl, .intro⟩
    simp only [exec, execPulseTimerExpiry, hpulse, if_true]
  · simp [exec, execPulseTimerExpiry, hpulse]

end Sys2Proof.Machine

namespace Sys2Proof.Machine

/-! PROOFS. How an entry leaves past the reject, by the confirm eye or at the end of its window (R103 to R105, logs 16, 29). -/

section ConfirmEye

variable {e : Entry} {s : State}

theorem confirmEyeArrival_none (htakes : s.takesCans = true) (hnone : oldestOf .pastReject s = none) :
    exec .confirmEyeArrival s = .next (raiseEvent .eyeSequence 3 s.exch.timeTag 0 s) := by
  simp only [exec, execConfirmEyeArrival, htakes, if_true, hnone]

theorem confirmEyeArrival_accept (htakes : s.takesCans = true) (hold : oldestOf .pastReject s = some e)
    (hd : e.decision = some .accept) (hret : s.recipes.retiring = none) :
    exec .confirmEyeArrival s = .next (removeEntry e .passed s) := by
  simp [exec, execConfirmEyeArrival, htakes, hold, hd, removeWithDrain_of_no_retiring hret]

theorem confirmEyeArrival_reject (htakes : s.takesCans = true) (hold : oldestOf .pastReject s = some e)
    (hd : e.decision = some .reject) : exec .confirmEyeArrival s = .next (rejectFailed e s) := by
  simp only [exec, execConfirmEyeArrival, htakes, if_true, hold, hd]

theorem producing_of_takesCans (htakes : s.takesCans = true) (hstop : s.part.state ≠ .faultStop) :
    s.part.state = .stopped ∨ s.part.state = .run := by
  simpa [State.takesCans, hstop] using htakes

/-- A rejected can at the confirm eye while no recipe retires: its record, then its event (R103, log 16). -/
def rejectSeen (e : Entry) (s : State) : State :=
  raiseEvent .rejectFailed (e.valve.getD 0) (wordOfNat e.serial) (e.outTag.getD 0) (removeEntry e .rejectFailed s)

theorem rejectFailed_eq (hret : s.recipes.retiring = none) :
    rejectFailed e s = handCause .rejectFailed (rejectSeen e s) := by
  rw [rejectFailed, removeWithDrain_of_no_retiring hret, rejectSeen]

theorem rejectFailed_of_faultStop (hret : s.recipes.retiring = none) (hstop : s.part.state = .faultStop) :
    rejectFailed e s = rejectSeen e s := by
  have hpart : (rejectSeen e s).part.state = .faultStop := hstop
  rw [rejectFailed_eq hret]
  exact handCause_of_not_producing _ (by simp [hpart]) (by simp [hpart])

/-- From STOPPED or RUN it stops the line (R173). -/
theorem rejectFailed_of_producing (hret : s.recipes.retiring = none) (hpart : s.part.state = .stopped ∨ s.part.state = .run)
    (hcal : CalSettled s) : rejectFailed e s = raiseNotice .fault (changePart .faultStop (Cause.reason .rejectFailed)
      { rejectSeen e s with part := { s.part with cause := some .rejectFailed, stopReq := true } }) := by
  have hseen : (rejectSeen e s).part.state = .stopped ∨ (rejectSeen e s).part.state = .run := hpart
  have hsettled : CalSettled (rejectSeen e s) := hcal
  rw [rejectFailed_eq hret, handCause_of_producing _ hseen, enterFaultStop_of_settled _ hsettled]
  rfl

theorem rejectFailed_stops (hret : s.recipes.retiring = none) (hpart : s.part.state = .stopped ∨ s.part.state = .run)
    (hcal : CalSettled s) : let t := rejectFailed e s
    t.track = (rejectSeen e s).track ∧ t.part = { state := .faultStop, cause := some .rejectFailed, stopReq := true } ∧
    t.exch = ((rejectSeen e s).exch.event .stateChange 5 (BitVec.ofNat 32 s.part.state.code) 6).raiseNotice .fault ∧
    t.weigh.jam = .stopped ∧ ChangesOnly [.part, .weigh, .track, .exch] s t := by
  intro t
  have ht := rejectFailed_of_producing (e := e) hret hpart hcal
  simp only [t, ht]
  refine ⟨rfl, rfl, rfl, rfl, ?_⟩
  rw [rejectSeen]
  exact .intro

end ConfirmEye

/-! #### The end of the window (R57, R105) -/

section Window

variable {before after : List Entry} {e : Entry} {s : State}

theorem exec_pastRejectDeadlineExpiry_held (h : s.pins.lineRun = false) : exec .pastRejectDeadlineExpiry s = .next s := by
  simp [exec, execPastRejectDeadlineExpiry, h]

/-- The entry whose window ends: the oldest of those that stand at 0 (R105, log 29). -/
theorem exec_pastRejectDeadlineExpiry_due (hrun : s.pins.lineRun = true) (hentries : s.track.entries = before ++ e :: after)
    (hbefore : ∀ x ∈ before, ¬(x.stage = .pastReject ∧ x.deadline = some 0)) (hstage : e.stage = .pastReject)
    (hdeadline : e.deadline = some 0) : exec .pastRejectDeadlineExpiry s = .next (settleDeadline e s) := by
  have hexpired : e.expired = true := by simp [Entry.expired, hstage, hdeadline]
  have hothers : ∀ x ∈ before, (!x.expired) = true := by simpa [Entry.expired, ← imp_iff_not_or] using hbefore
  have hfind : s.track.entries.find? Entry.expired = some e :=
    List.find?_eq_some_iff_append.mpr ⟨hexpired, before, after, hentries, hothers⟩
  simp only [exec, execPastRejectDeadlineExpiry, hrun, if_true, hfind]

theorem removeEntry_track (hentries : s.track.entries = before ++ e :: after) (hserial : ∀ x ∈ before, x.serial ≠ e.serial)
    (d : Disposition) : (removeEntry e d s).track = { s.track with entries := before ++ after } := by
  have hothers : ∀ x ∈ before, ¬decide (x.serial = e.serial) = true := by simpa using hserial
  have herase : s.track.entries.eraseP (fun x => decide (x.serial = e.serial)) = before ++ after := by
    rw [hentries, List.eraseP_append_right _ hothers, List.eraseP_cons_of_pos (by simp)]
  rw [removeEntry, herase]

theorem settleDeadline_reject (hret : s.recipes.retiring = none) (hd : e.decision = some .reject) :
    settleDeadline e s = removeEntry e .rejected s := by
  rw [settleDeadline, if_pos hd, removeWithDrain_of_no_retiring hret]

theorem settleDeadline_accept (hret : s.recipes.retiring = none) (hd : e.decision = some .accept) : settleDeadline e s =
    removeEntry e .missing (raiseEvent .canMissing (e.valve.getD 0) (wordOfNat e.serial) (e.outTag.getD 0) s) := by
  rw [settleDeadline, if_neg (by simp [hd])]
  exact removeWithDrain_of_no_retiring (by simpa using hret) ..

end Window

/-- Settles O34: the four cases of the confirm eye, then the window that is held, of a rejected and of an accepted entry. -/
theorem anEntryLeavesPastTheReject : Obligations.AnEntryLeavesPastTheReject := by
  intro before after e s hret gone told
  refine ⟨fun htakes => ⟨fun hnone => ?_, fun hold hd => ?_, fun hold hd hstop => ?_, fun hold hd hstop hzero havg hstore => ?_⟩,
    fun hentries hbefore hstage hdeadline hserial => ⟨exec_pastRejectDeadlineExpiry_held, fun hrun hd => ?_, fun hrun hd => ?_⟩⟩
  · exact ⟨_, confirmEyeArrival_none htakes hnone, rfl, .intro⟩
  · exact ⟨_, confirmEyeArrival_accept htakes hold hd hret, rfl, rfl, .intro⟩
  · refine ⟨_, confirmEyeArrival_reject htakes hold hd, ?_⟩
    rw [rejectFailed_of_faultStop hret hstop, rejectSeen]
    exact ⟨rfl, rfl, .intro⟩
  · have hsettled : CalSettled s := ⟨hzero, havg, fun hbusy => absurd hstore hbusy⟩
    exact ⟨_, confirmEyeArrival_reject htakes hold hd, rejectFailed_stops hret (producing_of_takesCans htakes hstop) hsettled⟩
  · refine ⟨_, exec_pastRejectDeadlineExpiry_due hrun hentries hbefore hstage hdeadline, ?_⟩
    rw [settleDeadline_reject hret hd]
    exact ⟨removeEntry_track hentries hserial _, rfl, .intro⟩
  · refine ⟨_, exec_pastRejectDeadlineExpiry_due hrun hentries hbefore hstage hdeadline, ?_⟩
    rw [settleDeadline_accept hret hd]
    exact ⟨removeEntry_track hentries hserial .missing, rfl, .intro⟩

end Sys2Proof.Machine

namespace Sys2Proof.Machine

/-! PROOFS. The tables numbered from 1, read by number after a write of one entry or of all of them: the valves and their trims
(R110, R134). -/

section Numbered

variable {α : Type} {l : List α} {d x : α} {k n : Nat}

theorem numbered_setNumbered_self (hlow : 1 ≤ n) (hhigh : n ≤ l.length) : numbered (setNumbered l n x) d n = x := by
  have hne : n ≠ 0 := by omega
  have hin : n - 1 < l.length := by omega
  simp [numbered, setNumbered, hne, hin]

theorem numbered_setNumbered_of_ne (h : k ≠ n) : numbered (setNumbered l n x) d k = numbered l d k := by
  by_cases hk : k = 0
  · simp [numbered, hk]
  by_cases hn : n = 0
  · simp [setNumbered, hn]
  have hne : n - 1 ≠ k - 1 := by omega
  simp [numbered, setNumbered, hk, hn, List.getD_eq_getElem?_getD, hne]

theorem numbered_mapFrom (f : Nat → α → α) (hlow : 1 ≤ n) (hhigh : n ≤ l.length) :
    numbered (mapFrom f 1 l) d n = f n (numbered l d n) := by
  have hne : n ≠ 0 := by omega
  rw [numbered, if_neg hne, mapFrom_getD _ _ _ _ _ d (by omega), Nat.add_sub_cancel' hlow, numbered, if_neg hne]

theorem numbered_past (h : l.length < n) : numbered l d n = d := by
  simp [numbered, List.getD_eq_getElem?_getD, List.getElem?_eq_none (show l.length ≤ n - 1 by omega)]

theorem setNumbered_setNumbered (l : List α) (n : Nat) (x y : α) :
    setNumbered (setNumbered l n x) n y = setNumbered l n y := by
  unfold setNumbered
  split
  · rfl
  · exact List.set_set ..

@[simp] theorem setNumbered_length (l : List α) (n : Nat) (x : α) : (setNumbered l n x).length = l.length := by
  unfold setNumbered
  split
  · rfl
  · exact List.length_set

end Numbered

section TablesByNumber

variable {v : Nat} {s t : State}

theorem valveAt_of_valves (h : t.valves = s.valves := by simp) (v : Nat) : valveAt t v = valveAt s v := by
  rw [valveAt, h, valveAt]

theorem trimAt_of_dose (h : t.dose = s.dose := by simp) (v : Nat) : trimAt t v = trimAt s v := by rw [trimAt, h, trimAt]

theorem valveAt_setValve (x : Valve) (hlow : 1 ≤ v) (hhigh : v ≤ s.valves.table.length) : valveAt (setValve v x s) v = x :=
  numbered_setNumbered_self hlow hhigh

theorem valveAt_setValve_of_ne {u : Nat} (h : u ≠ v) (x : Valve) : valveAt (setValve v x s) u = valveAt s u :=
  numbered_setNumbered_of_ne h

theorem setValve_setValve (v : Nat) (x y : Valve) (s : State) : setValve v y (setValve v x s) = setValve v y s := by
  simp [setValve, setNumbered_setNumbered]

theorem setValve_length (v : Nat) (x : Valve) (s : State) :
    (setValve v x s).valves.table.length = s.valves.table.length := setNumbered_length ..

theorem valveAt_mapValves (f : Nat → Valve → Valve) (hlow : 1 ≤ v) (hhigh : v ≤ s.valves.table.length) :
    valveAt (mapValves f s) v = f v (valveAt s v) := numbered_mapFrom f hlow hhigh

theorem mapValves_length (f : Nat → Valve → Valve) (s : State) :
    (mapValves f s).valves.table.length = s.valves.table.length := mapFrom_length ..

theorem trimAt_setWanted (w : Int) (hlow : 1 ≤ v) (hhigh : v ≤ s.dose.trims.length) :
    trimAt (setWanted v w s) v = { trimAt s v with wanted := w } := numbered_setNumbered_self hlow hhigh

theorem trimAt_setWanted_of_ne {u : Nat} (h : u ≠ v) (w : Int) : trimAt (setWanted v w s) u = trimAt s u :=
  numbered_setNumbered_of_ne h

theorem trimAt_mapTrims (f : Nat → Trim → Trim) (hlow : 1 ≤ v) (hhigh : v ≤ s.dose.trims.length) :
    trimAt (mapTrims f s) v = f v (trimAt s v) := numbered_mapFrom f hlow hhigh

theorem mapTrims_length (f : Nat → Trim → Trim) (s : State) :
    (mapTrims f s).dose.trims.length = s.dose.trims.length := mapFrom_length ..

theorem trimAt_past (h : s.dose.trims.length < v) : trimAt s v = { wanted := 0, served := 0 } := numbered_past h

end TablesByNumber

end Sys2Proof.Machine

namespace Sys2Proof.Machine

/-! PROOFS. The correction of a block end (R118 to R121). -/

/-- The quotient of the magnitudes with the numerator's sign: at a tie it lies before the numerator. -/
theorem roundToward_nearest (num : Int) {den : Nat} (hden : 0 < den) : NearestToward num den (roundToward num den) := by
  have hlow := Nat.div_mul_le_self (2 * num.natAbs + den - 1) (2 * den)
  have hhigh := Nat.lt_div_mul_add (a := 2 * num.natAbs + den - 1) (b := 2 * den) (by omega)
  unfold NearestToward roundToward
  dsimp only
  generalize (2 * num.natAbs + den - 1) / (2 * den) = q at hlow hhigh
  have hmul : q * (2 * den) = 2 * (q * den) := by ring
  rw [hmul] at hlow hhigh
  have hcast : ((q * den : Nat) : Int) = (q : Int) * den := by push_cast; ring
  have hneg : -(q : Int) * den = -((q * den : Nat) : Int) := by push_cast; ring
  split
  · rw [hneg]; generalize q * den = p at *; omega
  · rw [← hcast]; generalize q * den = p at *; omega

/-- Settles O36: the quotient is `roundToward`, and the clamp that of the recipe's step_limit. -/
theorem theCorrectionIsRoundedAndClamped : Obligations.TheCorrectionIsRoundedAndClamped := by
  intro s avg r
  exact ⟨roundToward (-avg * r.gain) 1600, roundToward_nearest _ (by norm_num), clampAbs_eq_max ..⟩

section BlockEnd

variable {v : Nat} {net : Int} {s : State}

theorem correctionDue_iff {avg : Int} : correctionDue s avg = true ↔
    s.valves.loop = true ∧ s.dose.link ≠ .down ∧ 16 * (activeRecipe s).deadband < avg.natAbs := by
  simp [correctionDue, and_assoc]

/-- The state of a can that ends its block, before the tests of R118: the average taken in and n at 0. -/
abbrev blockEnded (v : Nat) (net : Int) (s : State) : State :=
  setValve v { valveAt s v with avg := averaged (activeRecipe s) (valveAt s v).avg net, n := 0 } s

/-- A can short of the block end moves the average and is counted (R117). -/
theorem averageCan_gathers (h : (valveAt s v).n + 1 < (activeRecipe s).sampleMin) : averageCan v net s =
    setValve v { valveAt s v with
      avg := averaged (activeRecipe s) (valveAt s v).avg net, n := (valveAt s v).n + 1 } s := if_neg h.not_ge

theorem averageCan_ends (h : (activeRecipe s).sampleMin ≤ (valveAt s v).n + 1) : averageCan v net s =
    if correctionDue s (averaged (activeRecipe s) (valveAt s v).avg net) then applyCorrection v (blockEnded v net s)
    else blockEnded v net s := if_pos h

/-- The correction at a block end, where the valve holds the average just taken in (R120). -/
theorem applyCorrection_blockEnded (hlow : 1 ≤ v) (hhigh : v ≤ s.valves.table.length) :
    let c := correction (activeRecipe s) (averaged (activeRecipe s) (valveAt s v).avg net)
    let w := (trimAt s v).wanted
    let w' := clampAbs (activeRecipe s).trimLimit (w + c)
    applyCorrection v (blockEnded v net s) =
      if w' = w then raiseEvent .trimAtLimit v (wordOfInt c) (wordOfInt w) (blockEnded v net s)
      else waitAfterWrite v w' (blockEnded v net s) := by
  have havg : (valveAt (blockEnded v net s) v).avg = averaged (activeRecipe s) (valveAt s v).avg net := by
    rw [blockEnded, valveAt_setValve _ hlow hhigh]
  intro c w w'
  simp only [applyCorrection, havg]
  rfl

/-- A write of a wanted trim that puts its valve in WAIT_EFFECT: the two tables by number (R120, R121, R131). -/
theorem waitAfterWrite_tables (w : Int) (hlow : 1 ≤ v) (hvalve : v ≤ s.valves.table.length)
    (htrim : v ≤ s.dose.trims.length) :
    let t := waitAfterWrite v w s
    trimAt t v = { trimAt s v with wanted := w } ∧
    valveAt t v = { valveAt s v with
      state := .waitEffect, n := 0
      awaitedGen := if w = (trimAt s v).served ∧ s.dose.inflight = none then s.dose.served else none } ∧
    (∀ u, u ≠ v → trimAt t u = trimAt s u) ∧ (∀ u, u ≠ v → valveAt t u = valveAt s u) := by
  refine ⟨trimAt_setWanted w hlow htrim, ?_, fun u hu => trimAt_setWanted_of_ne hu w, fun u hu => valveAt_setValve_of_ne hu _⟩
  refine (valveAt_setValve (s := setWanted v w s) _ hlow hvalve).trans ?_
  simp [immediateAwaited]

end BlockEnd

/-- Settles O37: the tests of R118 fail, or the correction leaves the wanted trim where it is, or it is written. -/
theorem aBlockEndCorrectsTheTrim : Obligations.ABlockEndCorrectsTheTrim := by
  intro v net s hlow hhigh htrims hends r x avg w w' due t
  have hvalve : valveAt (blockEnded v net s) v = { x with avg := avg, n := 0 } := valveAt_setValve _ hlow hhigh
  have hothers (u : Nat) (hu : u ≠ v) : valveAt (blockEnded v net s) u = valveAt s u := valveAt_setValve_of_ne hu _
  have hdue : correctionDue s avg = true ↔ due := correctionDue_iff
  have hheld (h : ¬due) : t = blockEnded v net s := (averageCan_ends hends).trans (if_neg (mt hdue.mp h))
  have hcorrects (h : due) : t = if w' = w then
      raiseEvent .trimAtLimit v (wordOfInt (correction r avg)) (wordOfInt w) (blockEnded v net s)
      else waitAfterWrite v w' (blockEnded v net s) :=
    (averageCan_ends hends).trans ((if_pos (hdue.mpr h)).trans (applyCorrection_blockEnded hlow hhigh))
  have hlimit (h : due) (heq : w' = w) := (hcorrects h).trans (if_pos heq)
  have hwrites (h : due) (hne : w' ≠ w) := (hcorrects h).trans (if_neg hne)
  have htables := waitAfterWrite_tables (s := blockEnded v net s) w' hlow (hhigh.trans_eq (setValve_length ..).symm) htrims
  rw [hvalve] at htables
  obtain ⟨htrim, hwaits, htrimOthers, hvalveOthers⟩ := htables
  refine ⟨fun h => ?_, fun h heq => ?_, fun h hne => ?_, fun u hu => ?_⟩
  · rw [hheld h]
    exact ⟨hvalve, .intro⟩
  · rw [hlimit h heq]
    exact ⟨hvalve, rfl, .intro⟩
  · rw [hwrites h hne]
    exact ⟨htrim, hwaits, htrimOthers, rfl, .intro⟩
  · by_cases h : due
    · by_cases heq : w' = w
      · rw [hlimit h heq]; exact hothers u hu
      · rw [hwrites h heq]; exact (hvalveOthers u hu).trans (hothers u hu)
    · rw [hheld h]; exact hothers u hu

end Sys2Proof.Machine

namespace Sys2Proof.Machine

/-! PROOFS. A decided can that is offered: the counts, the tests of R114, and the effect on its valve (R113 to R117, R124). -/

/-- The counts of a counted can (R113). -/
def Valve.counted (e : Entry) (x : Valve) : Valve :=
  { x with lastNet := e.net.getD x.lastNet, cansSeen := x.cansSeen + 1 }

theorem countedValve_eq_some {e : Entry} {v : Nat} (horigin : e.origin = .filler) (hattr : e.attribution = some .exact)
    (hvalve : e.valve = some v) : countedValve e = some v := by simp [countedValve, horigin, hattr, hvalve]

theorem countedValve_eq_none {e : Entry} (h : e.origin ≠ .filler ∨ e.attribution ≠ some .exact ∨ e.valve = none) :
    countedValve e = none := by
  simp only [countedValve, Bool.and_eq_true, decide_eq_true_eq, ite_eq_right_iff]
  rintro ⟨horigin, hattr⟩
  obtain h | h | h := h
  · exact absurd horigin h
  · exact absurd hattr h
  · exact h

theorem isGross_iff {w : Option WeighResult} : isGross w = true ↔ ∃ gross, w = some (.gross gross) := by
  unfold isGross
  split <;> simp_all

theorem otherwiseQualifies_iff {e : Entry} {g : Gen} (hgen : e.generation = some g) (s : State) (x : Valve) :
    otherwiseQualifies s e x = true ↔ s.part.state = .run ∧ e.genKnown = some true ∧ e.recipe = .active ∧
      (∃ gross, e.weighing = some (.gross gross)) ∧ (∀ f, x.effectGen = some f → (g - f).toNat < 32768) ∧ x.inLoop := by
  simp only [otherwiseQualifies, hgen, Bool.and_eq_true, Bool.or_eq_true, decide_eq_true_eq, isGross_iff, Valve.inLoop]
  cases x.effectGen with
  | none => simp only [reduceCtorEq, false_implies, implies_true]; tauto
  | some f => simp only [notOlder, decide_eq_true_eq, Option.some.injEq, forall_eq']; tauto

section Offer

variable {e : Entry} {v : Nat} {g : Gen} {net : Int} {s : State}

theorem offerCan_uncounted (h : countedValve e = none) (s : State) : offerCan e s = s := by simp only [offerCan, h]

section Counted

variable (hv : countedValve e = some v) (hlow : 1 ≤ v) (hhigh : v ≤ s.valves.table.length)

include hlow hhigh

theorem valveAt_countCan : valveAt (countCan v e s) v = (valveAt s v).counted e := valveAt_setValve _ hlow hhigh

theorem otherwiseQualifies_countCan : otherwiseQualifies (countCan v e s) e (valveAt (countCan v e s) v) =
    otherwiseQualifies s e (valveAt s v) := by rw [valveAt_countCan hlow hhigh]; rfl

include hv

/-- A can that does not qualify is counted and no more (R113, R114). -/
theorem offerCan_unqualified (h : otherwiseQualifies s e (valveAt s v) = false ∨ e.zone = some .over ∨ e.zone = none) :
    offerCan e s = countCan v e s := by
  simp only [offerCan, hv, otherwiseQualifies_countCan hlow hhigh]
  obtain h | h | h := h
  · rw [h]; rfl
  · rw [h]; exact ite_self _
  · rw [h]; exact ite_self _

theorem offerCan_hardLow (hq : otherwiseQualifies s e (valveAt s v) = true) (hzone : e.zone = some .hardLow)
    (hnet : e.net = some net) : offerCan e s = hardLowCan v e net (countCan v e s) := by
  simp only [offerCan, hv, otherwiseQualifies_countCan hlow hhigh, hq, if_true, hzone, hnet]

/-- A qualifying can ends the hard-low run, then has its effect by the valve's state (R115, R116). -/
theorem offerCan_qualifying (hq : otherwiseQualifies s e (valveAt s v) = true)
    (hzone : e.zone = some .good ∨ e.zone = some .softLow) (hnet : e.net = some net) (hgen : e.generation = some g) :
    offerCan e s = takeQualifying v g net (setValve v { (valveAt s v).counted e with hardLowRun := 0 } s) := by
  have hcount : setValve v { valveAt (countCan v e s) v with hardLowRun := 0 } (countCan v e s) =
      setValve v { (valveAt s v).counted e with hardLowRun := 0 } s := by
    rw [valveAt_countCan hlow hhigh, countCan, setValve_setValve]
  simp only [offerCan, hv, otherwiseQualifies_countCan hlow hhigh, hq, if_true, hnet, hgen]
  rcases hzone with h | h <;> simp only [h, hcount]

end Counted

theorem takeQualifying_averaging (h : (valveAt s v).state = .averaging) (g : Gen) (net : Int) :
    takeQualifying v g net s = averageCan v net s := by simp only [takeQualifying, h]

/-- A can in WAIT_EFFECT not older than awaited_gen seeds its valve, and an older one is excluded (R116, R124). -/
theorem takeQualifying_awaited {h : Gen} (hwait : (valveAt s v).state = .waitEffect)
    (hawait : (valveAt s v).awaitedGen = some h) (g : Gen) (net : Int) : takeQualifying v g net s =
      if (g - h).toNat < 32768 then setValve v (seedValve (activeRecipe s) h net (valveAt s v)) s else s := by
  simp only [takeQualifying, hwait, hawait, notOlder, decide_eq_true_eq]

theorem takeQualifying_unawaited (hwait : (valveAt s v).state = .waitEffect) (hawait : (valveAt s v).awaitedGen = none)
    (g : Gen) (net : Int) : takeQualifying v g net s = s := by simp only [takeQualifying, hwait, hawait]

/-- The third HARD_LOW can in a row takes the valve out of the loop (R115). -/
theorem hardLowCan_third (h : (valveAt s v).hardLowRun = 2) (e : Entry) (net : Int) : hardLowCan v e net s =
    raiseEvent .valveFaulty v (wordOfNat e.serial) (wordOfInt net)
      (setValve v { valveAt s v with hardLowRun := 3, state := .faulty, awaitedGen := none } s) := by simp [hardLowCan, h]

theorem hardLowCan_before (h : (valveAt s v).hardLowRun < 2) (e : Entry) (net : Int) : hardLowCan v e net s =
    setValve v { valveAt s v with hardLowRun := (valveAt s v).hardLowRun + 1 } s := if_pos (by omega)

/-- A write of one valve: the Valve Table by number, and the frame. -/
theorem setValve_spec (x : Valve) (hlow : 1 ≤ v) (hhigh : v ≤ s.valves.table.length) :
    let t := setValve v x s
    valveAt t v = x ∧ (∀ u, u ≠ v → valveAt t u = valveAt s u) ∧ t.valves.loop = s.valves.loop ∧ ChangesOnly [.valves] s t :=
  ⟨valveAt_setValve x hlow hhigh, fun _ hu => valveAt_setValve_of_ne hu x, rfl, .intro⟩

end Offer

theorem clampAbs_avgLimit (x : Int) : clampAbs avgLimit x = max (-16000000) (min 16000000 x) := clampAbs_eq_max avgLimit x

/-- Settles O35: an offer of a can that is not counted, of one that does not qualify, and of one that does, by the state of its
valve and by its zone. -/
theorem aQualifyingCanActsOnItsValve : Obligations.AQualifyingCanActsOnItsValve := by
  intro e v g h net s x counted err t suits
  refine ⟨fun hnot => offerCan_uncounted (countedValve_eq_none hnot) s, fun horigin hattr hvalve hlow hhigh hgen => ?_⟩
  have hv := countedValve_eq_some horigin hattr hvalve
  have hq : otherwiseQualifies s e x = true ↔ suits := otherwiseQualifies_iff hgen s x
  refine ⟨fun hnot => ?_, fun hsuits hnet => ?_⟩
  · have ht : t = countCan v e s := offerCan_unqualified hv hlow hhigh (hnot.imp_left fun hn => by simpa using mt hq.mp hn)
    rw [ht]
    exact setValve_spec _ hlow hhigh
  have hqualifies := hq.mpr hsuits
  let b := setValve v { counted with hardLowRun := 0 } s
  obtain ⟨hb, hbothers, hbloop, hbframe⟩ := setValve_spec { counted with hardLowRun := 0 } hlow hhigh
  have hblength : v ≤ b.valves.table.length := hhigh.trans_eq (setValve_length ..).symm
  have htake (hzone : e.zone = some .good ∨ e.zone = some .softLow) : t = takeQualifying v g net b :=
    offerCan_qualifying hv hlow hhigh hqualifies hzone hnet hgen
  have hcount : valveAt (countCan v e s) v = counted := valveAt_countCan hlow hhigh
  have hlowCan (hzone : e.zone = some .hardLow) : t = hardLowCan v e net (countCan v e s) :=
    offerCan_hardLow hv hlow hhigh hqualifies hzone hnet
  have haverages (hstate : x.state = .averaging) (hzone : e.zone = some .good ∨ e.zone = some .softLow) :
      t = averageCan v net b := (htake hzone).trans (takeQualifying_averaging (by rw [hb]; exact hstate) g net)
  have hwaits (hstate : x.state = .waitEffect) (hawait : x.awaitedGen = some h)
      (hzone : e.zone = some .good ∨ e.zone = some .softLow) : t =
        if (g - h).toNat < 32768 then setValve v (seedValve (activeRecipe s) h net { counted with hardLowRun := 0 }) b else b := by
    rw [htake hzone, takeQualifying_awaited (by rw [hb]; exact hstate) (by rw [hb]; exact hawait), hb]
    rfl
  refine ⟨fun hstate hzone hn => ?_, fun hstate hzone hn => ?_, fun hstate hawait hzone hnew => ?_,
    fun hstate hawait hzone hold => ?_, fun hstate hawait hzone => ?_, fun hstate hzone hrun => ?_, fun hstate hzone hrun => ?_⟩
  · have ht : t = setValve v { counted with
        avg := averaged (activeRecipe s) x.avg net, n := x.n + 1, hardLowRun := 0 } s := by
      rw [haverages hstate hzone, averageCan_gathers (by rw [hb]; exact hn), hb, setValve_setValve]
      rfl
    rw [ht, averaged, clampAbs_avgLimit]
    exact setValve_spec _ hlow hhigh
  · exact ⟨b, hb, hbothers, setValve_length .., hbloop, rfl, hbframe, haverages hstate hzone⟩
  · rw [hwaits hstate hawait hzone, if_pos hnew, setValve_setValve, seedValve, clampAbs_avgLimit]
    obtain ⟨hself, hothers, -, hframe⟩ := setValve_spec (v := v) (s := s) _ hlow hhigh
    exact ⟨hself, hothers, hframe⟩
  · rw [hwaits hstate hawait hzone, if_neg hold]
    exact ⟨hb, hbothers, hbframe⟩
  · rw [htake hzone, takeQualifying_unawaited (by rw [hb]; exact hstate) (by rw [hb]; exact hawait)]
    exact ⟨hb, hbothers, hbframe⟩
  · have ht : t = raiseEvent .valveFaulty v (wordOfNat e.serial) (wordOfInt net)
        (setValve v { counted with hardLowRun := 3, state := .faulty, awaitedGen := none } s) := by
      rw [hlowCan hzone, hardLowCan_third (by rw [hcount]; exact hrun), hcount, countCan, setValve_setValve]
    rw [ht]
    obtain ⟨hself, hothers, -, -⟩ := setValve_spec (v := v) (s := s) _ hlow hhigh
    exact ⟨hself, rfl, hothers, .intro⟩
  · have ht : t = setValve v { counted with hardLowRun := x.hardLowRun + 1 } s := by
      rw [hlowCan hzone, hardLowCan_before (by rw [hcount]; exact hrun), hcount, countCan, setValve_setValve]
    rw [ht]
    obtain ⟨hself, hothers, -, hframe⟩ := setValve_spec (v := v) (s := s) _ hlow hhigh
    exact ⟨hself, hothers, hframe⟩

end Sys2Proof.Machine

namespace Sys2Proof.Machine

/-! PROOFS. The valves at a serve, a refusal and a changeover swap (R123, R125 to R127). -/

/-- The Valve Table keeps its length, and Valve Control its loop setting and its snapshot count. -/
def ValvesShape (s t : State) : Prop := t.valves.table.length = s.valves.table.length ∧ t.valves.loop = s.valves.loop ∧
  t.valves.snapshots = s.valves.snapshots

theorem ValvesShape.of_valves {s t : State} (h : t.valves = s.valves := by simp) : ValvesShape s t := by
  simp [ValvesShape, h]

theorem ValvesShape.trans {s t u : State} (hst : ValvesShape s t) (htu : ValvesShape t u) : ValvesShape s u :=
  ⟨htu.1.trans hst.1, htu.2.1.trans hst.2.1, htu.2.2.trans hst.2.2⟩

theorem valvesShape_mapValves (f : Nat → Valve → Valve) (s : State) : ValvesShape s (mapValves f s) :=
  ⟨mapValves_length f s, rfl, rfl⟩

theorem valvesShape_refusedUpdate (list : List (Nat × Int)) (s : State) : ValvesShape s (refusedUpdate list s) := by
  unfold refusedUpdate
  dsimp only
  split
  · exact valvesShape_mapValves ..
  · exact (valvesShape_mapValves ..).trans (valvesShape_mapValves ..)

theorem trimAt_of_trims {s t : State} (h : t.dose.trims = s.dose.trims) (v : Nat) : trimAt t v = trimAt s v := by
  rw [trimAt, h, trimAt]

/-! #### The operations on the Valve Table, by number -/

theorem awaitServed_length (g : Gen) (s : State) :
    (awaitServed g s).valves.table.length = s.valves.table.length := mapValves_length ..

section ByNumber

variable {v : Nat} {s : State} (hlow : 1 ≤ v) (hhigh : v ≤ s.valves.table.length)

include hlow hhigh

theorem valveAt_awaitServed (g : Gen) : valveAt (awaitServed g s) v =
    if (valveAt s v).state = .waitEffect ∧ (valveAt s v).awaitedGen = none ∧ (trimAt s v).wanted = (trimAt s v).served then
      { valveAt s v with awaitedGen := some g } else valveAt s v := by
  rw [awaitServed, valveAt_mapValves _ hlow hhigh]
  simp [and_assoc]

theorem valveAt_ageValves (g : Gen) : valveAt (ageValves g s) v = ageValve g (valveAt s v) :=
  valveAt_mapValves _ hlow hhigh

/-- The listed valves that wait return to AVERAGING; in SYNCED the others then take the served generation (R126). -/
theorem valveAt_refusedUpdate (list : List (Nat × Int)) :
    let x := valveAt s v
    let back := if x.state = .waitEffect ∧ v ∈ list.map (·.1) then
      { x with state := .averaging, n := 0, awaitedGen := none } else x
    let t := refusedUpdate list s
    (s.dose.served = none → valveAt t v = back) ∧
    (∀ h, s.dose.served = some h → valveAt t v =
      if back.state = .waitEffect ∧ back.awaitedGen = none ∧ (trimAt s v).wanted = (trimAt s v).served then
        { back with awaitedGen := some h } else back) := by
  intro x back t
  let f := fun (v : Nat) (x : Valve) =>
    if x.state = .waitEffect && list.any (fun p => p.1 == v) then
      { x with state := .averaging, n := 0, awaitedGen := none } else x
  have hback : valveAt (mapValves f s) v = back := by
    have hlisted : list.any (fun p => p.1 == v) = true ↔ v ∈ list.map (·.1) := by simp
    rw [valveAt_mapValves f hlow hhigh]
    simp only [f, Bool.and_eq_true, decide_eq_true_eq, hlisted]
    rfl
  refine ⟨fun hnone => ?_, fun h hsome => ?_⟩
  · simp only [t, refusedUpdate, hnone]
    exact hback
  · simp only [t, refusedUpdate, hsome]
    rw [valveAt_awaitServed hlow (hhigh.trans_eq (mapValves_length ..).symm), hback]
    rfl

/-- The valves at the swap: above the new V, held out of the loop, or started afresh as their trims agree (R127). -/
theorem valveAt_valvesAtSwap (r : Recipe) (b : Gen) : valveAt (valvesAtSwap r b s) v =
    if r.valveCount < v then { (valveAt s v).zeroed with state := .idle }
    else if (valveAt s v).state = .locked ∨ (valveAt s v).state = .faulty then valveAt s v
    else { (valveAt s v).zeroed with
      state := if (trimAt s v).wanted = (trimAt s v).served then .averaging else .waitEffect, effectGen := some b } := by
  rw [valvesAtSwap, valveAt_mapValves _ hlow hhigh]
  simp only [Valve.heldOut, Bool.or_eq_true, decide_eq_true_eq]
  repeat' split
  all_goals rfl

end ByNumber

theorem rewantTrims_wanted_above {r : Recipe} {v : Nat} (h : r.valveCount < v) (s : State) :
    (trimAt (rewantTrims r s) v).wanted = 0 := by
  have hlow : 1 ≤ v := by omega
  by_cases hhigh : v ≤ s.dose.trims.length
  · rw [rewantTrims, trimAt_mapTrims _ hlow hhigh]
    simp [h]
  · rw [rewantTrims, trimAt_past (by rw [mapTrims_length]; omega)]

theorem ageValve_eq (g : Gen) (x : Valve) : ageValve g x = { x with
    effectGen := x.effectGen.bind (fun h => if 16384 ≤ (g - h).toNat then none else some h)
    awaitedGen := x.awaitedGen.map (fun h => if x.state = .waitEffect ∧ 16384 ≤ (g - h).toNat then g else h) } := by
  have hawaited : (if x.state = .waitEffect then x.awaitedGen.map (fun h => if 16384 ≤ genLag g h then g else h)
      else x.awaitedGen) = x.awaitedGen.map (fun h => if x.state = .waitEffect ∧ 16384 ≤ (g - h).toNat then g else h) := by
    by_cases hwait : x.state = .waitEffect
    · rw [if_pos hwait]
      exact congrArg (x.awaitedGen.map ·) (funext fun h => if_congr (by simp only [genLag, hwait, true_and]) rfl rfl)
    · simp only [hwait, if_false, false_and, Option.map_id']
  rw [ageValve, hawaited]
  rfl

/-- A generation no distance behind the served one is kept, and one far behind given up or moved up (R125). -/
theorem ageValve_of_served {g : Gen} {x : Valve} (heffect : x.effectGen = some g ∨ x.effectGen = none)
    (hawait : x.awaitedGen = none) : ageValve g x = x := by
  obtain ⟨st, avg, n, effect, awaited, run, net, seen⟩ := x
  subst hawait
  have hlag : genLag g g = 0 := by simp [genLag]
  rcases heffect with rfl | rfl <;> simp [ageValve, hlag]

/-! #### The ack -/

/-- A check byte that completes a good DOSE_ACK hands it to the Dose Unit (R81, R85, R144). -/
theorem exec_doseAckFrame {hi lo res check : Byte} {result : AckResult} {s : State} (htakes : s.takesCans = true)
    (hlisten : s.filler.receiver ≠ .heldLow) (hasm : s.filler.asm = .check) (hkind : s.filler.kind = 0x12#8)
    (hlen : s.filler.len = 3) (hpayload : s.filler.payload = [hi, lo, res]) (hsum : s.filler.sum + check = 0)
    (hres : ackResultOf res = some result) :
    exec (.doseAckFrame check) s = .next (takeAck (hi ++ lo) result (dropFrame s)) := by
  have hlistens : fillerListens s = true := by simp [fillerListens, awake_of_takesCans htakes, hlisten]
  have hjudged : judge (s.filler.completed check) = .ack (hi ++ lo) result := by
    rw [← genOf_eq_append]
    simp [judge, FillerPort.completed, hkind, hlen, hpayload, hsum, kindDischarge, kindDoseAck, Frame.byteAt, hres]
  have htakes' : (dropFrame s).takesCans = true := htakes
  simp only [exec, execDoseAckFrame, fillerTake_check hlistens hasm, settleFrame, hjudged, htakes', if_true]

section Ack

variable {m : Message} {s : State}

theorem takeAck_refused (hflight : s.dose.inflight = some m) : takeAck m.generation .refused s = refuse m s := by
  simp only [takeAck, hflight, if_true]

theorem takeAck_served (hflight : s.dose.inflight = some m) {result : AckResult} (h : result = .applied ∨ result = .duplicate) :
    takeAck m.generation result s = serve m result s := by
  rcases h with rfl | rfl <;> simp only [takeAck, hflight, if_true]

/-- The served values and LINK_UP: what a serve does before it comes to the valves (R145). -/
def servedState (m : Message) (result : AckResult) (s : State) : State :=
  linkUpEvent s.dose.link m.generation result.code (serveValues m s)

@[simp] theorem servedState_valves (m : Message) (result : AckResult) (s : State) :
    (servedState m result s).valves = s.valves := by simp [servedState]

@[simp] theorem servedState_recipes (m : Message) (result : AckResult) (s : State) :
    (servedState m result s).recipes = s.recipes := by simp [servedState]

theorem serve_of_trims (h : m.changeover = false) (result : AckResult) : serve m result s =
    ageValves m.generation (awaitServed m.generation (servedState m result s)) := by
  simp [serve, servedState, h]

theorem serve_of_changeover (h : m.changeover = true) (result : AckResult) : ∃ u, u.valves = s.valves ∧
    u.recipes = s.recipes ∧ serve m result s = ageValves m.generation (swap m.generation u) := by
  refine ⟨{ servedState m result s with dose := { (servedState m result s).dose with changeover := none } }, by simp, by simp, ?_⟩
  simp [serve, servedState, h]

/-- The swap in the tables of Valve Control and the Dose Unit: the trims wanted anew, then the valves (R157). -/
theorem swap_tables {r : Recipe} (h : s.recipes.next = some r) (b : Gen) : ∃ u, u.valves = s.valves ∧
    (swap b s).valves = (valvesAtSwap r b (rewantTrims r u)).valves ∧ (swap b s).dose = (rewantTrims r u).dose := by
  refine ⟨markRetiring (swapSlots b s), by simp, ?_⟩
  have hactive : activeRecipe (markRetiring (swapSlots b s)) = r := by simp [activeRecipe, h]
  simp [swap, hactive]

/-- A refusal in the same tables: the listed trims reverted, then the valves (R126, R147). -/
theorem refuse_tables (m : Message) (s : State) : ∃ u, u.valves = s.valves ∧ u.dose.served = s.dose.served ∧
    (refuse m s).valves = (refusedUpdate m.list u).valves ∧ (refuse m s).dose.trims = u.dose.trims := by
  refine ⟨revertTrims m.list { s with dose := { s.dose with inflight := none, ack := none, probe := 0, link := .up } },
    by simp, rfl, ?_⟩
  unfold refuse
  dsimp only
  split
  · simp [refuseChangeover]
  · simp

end Ack

/-- Settles O42: the frame hands the ack over, and each of its three ends is a replacement of the whole Valve Table, read by
number. -/
theorem theValvesFollowAnAck : Obligations.TheValvesFollowAnAck := by
  intro hi lo res check m v s htakes hlisten hasm hkind hlen hpayload hsum hflight hgen hlow hhigh g x far aged takes
  have hexec {result : AckResult} (hres : ackResultOf res = some result) :
      exec (.doseAckFrame check) s = .next (takeAck m.generation result (dropFrame s)) := by
    rw [hgen]
    exact exec_doseAckFrame htakes hlisten hasm hkind hlen hpayload hsum hres
  have hserves (hres : res = 1 ∨ res = 2) : ∃ result, exec (.doseAckFrame check) s = .next (serve m result (dropFrame s)) := by
    obtain rfl | rfl := hres
    · exact ⟨.applied, by rw [hexec rfl, takeAck_served (s := dropFrame s) hflight (.inl rfl)]⟩
    · exact ⟨.duplicate, by rw [hexec rfl, takeAck_served (s := dropFrame s) hflight (.inr rfl)]⟩
  have hage (y : Valve) : ageValve g y = aged y := by
    rw [ageValve_eq]
    simp only [aged, Valve.mk.injEq, true_and, and_true]
    constructor
    · cases y.effectGen <;> rfl
    · cases y.awaitedGen with
      | none => rfl
      | some h => exact apply_ite some _ _ _
  have hx : valveAt (dropFrame s) v = x := valveAt_of_valves (by simp) v
  refine ⟨fun hres htrims => ?_, fun hres => ?_, fun r hres hchange hnext => ?_⟩
  · obtain ⟨result, hnext⟩ := hserves hres
    rw [serve_of_trims htrims] at hnext
    have hin : v ≤ (servedState m result (dropFrame s)).valves.table.length := by simpa using hhigh
    have hserved : valveAt (servedState m result (dropFrame s)) v = x := valveAt_of_valves (by simp) v
    refine ⟨_, hnext, ?_, (ValvesShape.of_valves (s := s) (by simp)).trans
      ((valvesShape_mapValves ..).trans (valvesShape_mapValves ..))⟩
    rw [valveAt_ageValves hlow (hin.trans_eq (awaitServed_length ..).symm), valveAt_awaitServed hlow hin, hserved]
    exact hage _
  · intro back
    subst hres
    obtain ⟨u, huvalves, huserved, hvalves, htrims⟩ := refuse_tables m (dropFrame s)
    have hu : valveAt u v = x := (valveAt_of_valves huvalves v).trans hx
    have hin : v ≤ u.valves.table.length := by simpa [huvalves] using hhigh
    obtain ⟨hunserved, hserved⟩ := valveAt_refusedUpdate hlow hin m.list
    rw [hu] at hunserved hserved
    rw [← valveAt_of_valves hvalves v] at hunserved
    simp only [← valveAt_of_valves hvalves v, ← trimAt_of_trims htrims v] at hserved
    refine ⟨refuse m (dropFrame s), by rw [hexec rfl, takeAck_refused (s := dropFrame s) hflight],
      fun h => hunserved (huserved.trans h), fun h hs => hserved h (huserved.trans hs),
      (ValvesShape.of_valves (s := s) (by simp [huvalves])).trans
      ((valvesShape_refusedUpdate m.list u).trans (.of_valves hvalves))⟩
  · intro zeroed
    obtain ⟨result, hexec⟩ := hserves hres
    obtain ⟨u, huvalves, hurecipes, hserve⟩ := serve_of_changeover hchange result (s := dropFrame s)
    obtain ⟨w, hwvalves, hvalves, hdose⟩ := swap_tables (s := u) (r := r) (by simpa [hurecipes] using hnext) g
    have hw : valveAt (rewantTrims r w) v = x := (valveAt_of_valves (by simp [hwvalves, huvalves]) v).trans hx
    have hwin : v ≤ (rewantTrims r w).valves.table.length := by simpa [hwvalves, huvalves] using hhigh
    have hshape : ValvesShape s (swap g u) := .trans (.of_valves (t := rewantTrims r w) (by simp [hwvalves, huvalves]))
      (.trans (valvesShape_mapValves ..) (.of_valves hvalves))
    have htrim : trimAt (ageValves g (swap g u)) v = trimAt (rewantTrims r w) v := trimAt_of_dose (by simp [hdose]) v
    have hvalve : valveAt (ageValves g (swap g u)) v = ageValve g (valveAt (valvesAtSwap r g (rewantTrims r w)) v) := by
      rw [valveAt_ageValves hlow (hhigh.trans_eq hshape.1.symm), valveAt_of_valves hvalves]
    rw [valveAt_valvesAtSwap hlow hwin, hw, ← htrim] at hvalve
    refine ⟨_, hexec.trans (congrArg _ hserve), fun habove => ⟨?_, ?_⟩, fun hwithin hout => ?_, fun hwithin hlocked hfaulty => ?_,
      hshape.trans (valvesShape_mapValves ..)⟩
    · refine hvalve.trans ((congrArg _ (if_pos habove)).trans ?_)
      exact ageValve_of_served (.inr rfl) rfl
    · rw [htrim]
      exact rewantTrims_wanted_above habove w
    · exact hvalve.trans ((congrArg _ ((if_neg hwithin.not_gt).trans (if_pos hout))).trans (hage x))
    · refine hvalve.trans ((congrArg _ ((if_neg hwithin.not_gt).trans (if_neg (by tauto)))).trans ?_)
      exact ageValve_of_served (.inl rfl) rfl

end Sys2Proof.Machine

namespace Sys2Proof.Machine

/-! PROOFS. The valve orders: what lets them through to their block, and what each of them writes (R121, R129 to R133, R183). -/

theorem takesCans_iff {s : State} :
    s.takesCans = true ↔ s.part.state = .stopped ∨ s.part.state = .run ∨ s.part.state = .faultStop := by
  simp [State.takesCans, or_assoc]

/-- A valve order is allowed from CONFIG on, and of the checks of R183 only that of its argument is left. -/
theorem orderFailure_of_online {k : OrderKind} {s : State} {slot : Slot} (honline : s.part.state = .config ∨ s.takesCans = true)
    (hk : k = .valveLock ∨ k = .valveRelease ∨ k = .valveTrim ∨ k = .loopSet ∨ k = .snapshot)
    (hargs : k.argsIn s slot = true) : orderFailure k s slot = none := by
  have hallowed : k.allowedIn s.part.state = true := by
    rw [takesCans_iff] at honline
    rcases hk with rfl | rfl | rfl | rfl | rfl <;> rcases honline with h | h | h | h <;> rw [h] <;> rfl
  have hother : k.needsSwitch = false ∧ k.admittedBy s.cal.state = true ∧ k.calClass = false := by
    rcases hk with rfl | rfl | rfl | rfl | rfl <;> exact ⟨rfl, rfl, rfl⟩
  obtain ⟨hswitch, hcal, hclass⟩ := hother
  simp [orderFailure, hallowed, hswitch, hcal, hclass, hargs]

theorem withinV_iff {s : State} {r : Recipe} (hr : s.recipes.active = some r) {v : Nat} :
    withinV s v = true ↔ 1 ≤ v ∧ v ≤ r.valveCount := by simp [withinV, hr]

theorem toNat_ofNat_valve {v : Nat} (h : v ≤ 128) : (BitVec.ofNat 32 v).toNat = v := by
  rw [BitVec.toNat_ofNat]
  omega

/-! #### The slot of a finished order, read word by word (R185) -/

section FinishedSlot

variable (e : Exchange) (slot : Slot) (o : Outcome) (detail : Word)

theorem Exchange.finishSlot_read (a : Nat) : (e.finishSlot slot o detail).read a =
    if a = slotBase slot then wordOfNat o.slotState
    else if slotBase slot + 8 ≤ a ∧ a < slotBase slot + 11 then
      [wordOfNat o.code, detail, e.timeTag].getD (a - (slotBase slot + 8)) 0
    else e.read a := by
  have hstate : slotBase slot ≤ a ∧ a < slotBase slot + [wordOfNat o.slotState].length ↔ a = slotBase slot := by
    simp only [List.length_singleton]
    omega
  refine (Exchange.read_write ..).trans ?_
  simp only [hstate]
  split
  · next h => simp [h]
  · exact Exchange.read_write ..

theorem Exchange.finishSlot_read_outside {a : Nat} (h : ¬(slotBase slot ≤ a ∧ a < slotBase slot + 16)) :
    (e.finishSlot slot o detail).read a = e.read a := by
  rw [e.finishSlot_read, if_neg (by omega), if_neg (by omega)]

theorem Exchange.finishSlot_read_state : (e.finishSlot slot o detail).read (slotBase slot) = wordOfNat o.slotState := by
  rw [e.finishSlot_read, if_pos rfl]

theorem Exchange.finishSlot_read_detail : (e.finishSlot slot o detail).read (slotBase slot + 9) = detail := by
  rw [e.finishSlot_read, if_neg (by omega), if_pos (by omega), Nat.add_sub_add_left]
  rfl

end FinishedSlot

/-! #### The snapshot (R133) -/

/-- Entries of one length set down one after another, read by the entry and the word within it. -/
theorem flatMap_range'_getD {α : Type} {f : Nat → List α} {size : Nat} (hf : ∀ v, (f v).length = size) (d : α) {n : Nat}
    (hn : n < size) : ∀ {first count i : Nat}, i < count →
    ((List.range' first count).flatMap f).getD (size * i + n) d = (f (first + i)).getD n d
  | _, 0, _, h => absurd h (Nat.not_lt_zero _)
  | first, count + 1, 0, _ => by
    rw [List.range'_succ, List.flatMap_cons, List.getD_append _ _ _ _ (by rw [hf]; omega)]
    simp
  | first, count + 1, i + 1, h => by
    have hpast : (f first).length ≤ size * (i + 1) + n := by rw [hf, Nat.mul_succ]; omega
    rw [List.range'_succ, List.flatMap_cons, List.getD_append_right _ _ _ _ hpast, hf,
      show size * (i + 1) + n - size = size * i + n by rw [Nat.mul_succ]; omega,
      flatMap_range'_getD hf d hn (Nat.lt_of_succ_lt_succ h), show first + 1 + i = first + (i + 1) by omega]

/-- The fields of word 0 of a snapshot entry (Valve snapshot). -/
theorem snapshotHead_fields {code n run : Nat} (e a f : Bool) (hcode : code < 8) (hn : n ≤ 255) (hrun : run ≤ 3) :
    let w := wordOfNat (code + 256 * n + 65536 * run + 1048576 * flagNat e + 2097152 * flagNat a + 4194304 * flagNat f)
    w.toNat % 8 = code ∧ w.toNat / 256 % 256 = n ∧ w.toNat / 65536 % 4 = run ∧ w.getLsbD 20 = e ∧ w.getLsbD 21 = a ∧
    w.getLsbD 22 = f := by
  intro w
  have hflag (b : Bool) : flagNat b ≤ 1 := by cases b <;> decide
  have he := hflag e
  have ha := hflag a
  have hf := hflag f
  have hw : w.toNat = code + 256 * n + 65536 * run + 1048576 * flagNat e + 2097152 * flagNat a + 4194304 * flagNat f :=
    (BitVec.toNat_ofNat ..).trans (Nat.mod_eq_of_lt (by omega))
  have hbit (k : Nat) (b : Bool) : w.getLsbD k = b ↔ w.toNat / 2 ^ k % 2 = flagNat b := by
    rw [show w.getLsbD k = decide (w.toNat / 2 ^ k % 2 = 1) from Nat.testBit_eq_decide_div_mod_eq]
    cases b <;> simp [flagNat]
  simp only [hbit, hw]
  omega

/-- The two generations of a snapshot entry in one word. -/
theorem snapshotGens_fields (g h : Gen) : (wordOfNat (g.toNat + 65536 * h.toNat)).toNat % 65536 = g.toNat ∧
    (wordOfNat (g.toNat + 65536 * h.toNat)).toNat / 65536 = h.toNat := by
  have := g.isLt
  have := h.isLt
  rw [wordOfNat, BitVec.toNat_ofNat]
  omega

theorem ValveState.code_lt (x : ValveState) : x.code < 8 := by cases x <;> decide

section Snapshot

variable (slot : Slot) (s : State)

theorem orderSnapshot_exch_eq : (orderSnapshot slot s).exch =
    ((s.exch.write 0x0600 (snapshotHeader { s with valves := { s.valves with snapshots := s.valves.snapshots + 1 } })).write
      0x0610 ((List.range' 1 128).flatMap (snapshotEntry s))).finishSlot slot .done (s.valves.snapshots + 1) := rfl

theorem orderSnapshot_read_header {n : Nat} (hn : n < 8) : (orderSnapshot slot s).exch.read (0x0600 + n) =
    (snapshotHeader { s with valves := { s.valves with snapshots := s.valves.snapshots + 1 } }).getD n 0 := by
  have := slotBase_bound slot
  have hlength (u : State) : (snapshotHeader u).length = 8 := rfl
  rw [orderSnapshot_exch_eq, Exchange.finishSlot_read_outside _ _ _ _ (by omega), Exchange.read_write, snapshotWords_length,
    if_neg (by omega), Exchange.read_write, hlength, if_pos (by omega), Nat.add_sub_cancel_left]

theorem orderSnapshot_read_entry {v n : Nat} (hlow : 1 ≤ v) (hhigh : v ≤ 128) (hn : n < 8) :
    (orderSnapshot slot s).exch.read (0x0610 + 8 * (v - 1) + n) = (snapshotEntry s v).getD n 0 := by
  have := slotBase_bound slot
  have hlength (u : Nat) : (snapshotEntry s u).length = 8 := rfl
  rw [orderSnapshot_exch_eq, Exchange.finishSlot_read_outside _ _ _ _ (by omega), Exchange.read_write, snapshotWords_length,
    if_pos (by omega), Nat.add_assoc, Nat.add_sub_cancel_left, flatMap_range'_getD hlength 0 hn (by omega),
    Nat.add_sub_cancel' hlow]

theorem orderSnapshot_read_outside {a : Nat} (hheader : ¬(0x0600 ≤ a ∧ a < 0x0608)) (hentries : ¬(0x0610 ≤ a ∧ a < 0x0A10))
    (hslot : ¬(slotBase slot ≤ a ∧ a < slotBase slot + 16)) : (orderSnapshot slot s).exch.read a = s.exch.read a := by
  have hlength (u : State) : (snapshotHeader u).length = 8 := rfl
  rw [orderSnapshot_exch_eq, Exchange.finishSlot_read_outside _ _ _ _ hslot, Exchange.read_write, snapshotWords_length,
    if_neg hentries, Exchange.read_write, hlength, if_neg hheader]

theorem inFlightTrim_of_none {s : State} (h : s.dose.inflight = none) (v : Nat) : inFlightTrim s v = none := by
  simp [inFlightTrim, h]

theorem inFlightTrim_of_single {s : State} {m : Message} {v : Nat} {a : Int} (h : s.dose.inflight = some m)
    (hlist : m.list = [(v, a)]) : inFlightTrim s v = some a := by simp [inFlightTrim, h, hlist]

end Snapshot

/-! #### The orders on one valve (R129, R131) -/

section OnOneValve

variable {slot : Slot} {v : Nat} {s : State} (harg : slotArg1 s slot = BitVec.ofNat 32 v) (hlow : 1 ≤ v) (hsmall : v ≤ 128)

include harg hsmall

theorem orderValveLock_eq : orderValveLock slot s = finishOrder slot .done (wordOfNat (valveAt s v).state.code)
    (setValve v { valveAt s v with state := .locked, awaitedGen := none } s) := by
  simp only [orderValveLock, harg, toNat_ofNat_valve hsmall]

theorem orderValveTrim_eq : let w := clampAbs (activeRecipe s).trimLimit (slotArg2 s slot).toInt
    orderValveTrim slot s = finishOrder slot .done (wordOfInt w)
      (if (valveAt s v).state = .averaging ∨ (valveAt s v).state = .waitEffect then waitAfterWrite v w s
       else setWanted v w s) := by
  simp only [orderValveTrim, harg, toNat_ofNat_valve hsmall]

end OnOneValve

/-- Settles O47: the checks of R183 let each order through, and its block writes the tables and the memory as the rules say. -/
theorem theValveOrdersAreCarriedOut : Obligations.TheValveOrdersAreCarriedOut := by
  intro slot v r s honline hr hV hlow hhigh htable htrims line word x t done
  have hsmall : v ≤ 128 := hhigh.trans hV
  have htake {k : OrderKind} {w : Word} (hw : word 1 = w) (hcode : orderKindOf w = some k)
      (hk : k = .valveLock ∨ k = .valveRelease ∨ k = .valveTrim ∨ k = .loopSet ∨ k = .snapshot)
      (hargs : k.argsIn s slot = true) : t = handOver k slot s :=
    takeOrder_of_kind (by rw [← hcode, ← hw]; rfl) (orderFailure_of_online honline hk hargs)
  have hwithin (harg : word 2 = BitVec.ofNat 32 v) : withinV s (slotArg1 s slot).toNat = true := by
    rw [show slotArg1 s slot = BitVec.ofNat 32 v from harg, toNat_ofNat_valve hsmall]
    exact (withinV_iff hr).mpr ⟨hlow, hhigh⟩
  have hin : v ≤ s.valves.table.length := hsmall.trans_eq htable.symm
  have htrimIn : v ≤ s.dose.trims.length := hsmall.trans_eq htrims.symm
  refine ⟨fun hword harg => ?_, fun hword harg => ?_, fun hword harg => ?_, fun hword => ?_⟩
  · have ht : t = orderValveLock slot s := htake hword rfl (by simp) (hwithin harg)
    rw [orderValveLock_eq harg hsmall] at ht
    simp only [done, ht]
    exact ⟨valveAt_setValve _ hlow hin, fun u hu => valveAt_setValve_of_ne hu _, rfl, .intro⟩
  · intro w
    have ht : t = orderValveTrim slot s := htake hword rfl (by simp) (hwithin harg)
    have hw : clampAbs (activeRecipe s).trimLimit (slotArg2 s slot).toInt = w := by
      rw [clampAbs_eq_max, activeRecipe, hr]
      rfl
    rw [orderValveTrim_eq harg hsmall, hw] at ht
    obtain ⟨htrim, hvalve, htrimOthers, hvalveOthers⟩ := waitAfterWrite_tables w hlow hin htrimIn
    simp only [done, ht]
    by_cases hloop : x.state = .averaging ∨ x.state = .waitEffect
    · rw [if_pos hloop]
      exact ⟨htrim, htrimOthers, rfl, fun hout => by rcases hloop with h | h <;> simp [h] at hout,
        fun _ => ⟨hvalve, hvalveOthers⟩, rfl, .intro⟩
    · rw [if_neg hloop]
      exact ⟨trimAt_setWanted w hlow htrimIn, fun u hu => trimAt_setWanted_of_ne hu w, rfl, fun _ => rfl,
        fun h => absurd h hloop, rfl, .intro⟩
  · have ht : t = orderLoopSet slot s := htake hword rfl (by simp) (by
      have hrange : (slotArg1 s slot).toNat ≤ 1 := harg
      simpa [OrderKind.argsIn, inRange] using hrange)
    simp only [done, ht]
    refine ⟨rfl, ?_, .intro⟩
    cases hloop : s.valves.loop <;> simp [orderLoopSet, finishOrder, hloop, flagNat, wordOfNat]
  · intro count entry
    have ht : t = orderSnapshot slot s := htake hword rfl (by simp) rfl
    have hheader {n : Nat} (hn : n < 8) := orderSnapshot_read_header slot s hn
    have hentry {n : Nat} (hn : n < 8) : entry n = (snapshotEntry s v).getD n 0 := by
      simp only [entry, ht]
      exact orderSnapshot_read_entry slot s hlow hsmall hn
    have hhead (hn : x.n ≤ 255) (hrun : x.hardLowRun ≤ 3) := snapshotHead_fields x.effectGen.isSome x.awaitedGen.isSome
      (inFlightTrim s v).isSome x.state.code_lt hn hrun
    obtain ⟨heffect, hawaited⟩ := snapshotGens_fields (x.effectGen.getD 0) (x.awaitedGen.getD 0)
    have h0 := hentry (n := 0) (by decide)
    have h2 := hentry (n := 2) (by decide)
    have h7 := hentry (n := 7) (by decide)
    rw [h0, h2, h7, ht]
    refine ⟨rfl, hheader (n := 0) (by decide), hheader (n := 1) (by decide), hheader (n := 2) (by decide),
      (hheader (n := 3) (by decide)).trans (by rw [snapshotHeader, activeValveCount, hr]; rfl),
      (hheader (n := 4) (by decide)).trans (wordOfNat_flagNat _), (hheader (n := 5) (by decide)).trans (wordOfNat_flagNat _),
      hheader (n := 6) (by decide), (hheader (n := 7) (by decide)).trans (wordOfNat_gen _), fun hn hrun => ?_,
      hentry (n := 1) (by decide), heffect, hawaited, hentry (n := 3) (by decide), hentry (n := 4) (by decide),
      hentry (n := 5) (by decide), hentry (n := 6) (by decide), fun hidle => ?_, fun m a hflight hlist => ?_,
      Exchange.finishSlot_read_state .., Exchange.finishSlot_read_detail .., fun a => orderSnapshot_read_outside slot s, .intro⟩
    · obtain ⟨hcode, hcount, hruns, heffectSome, hawaitSome, -⟩ := hhead hn hrun
      exact ⟨hcode, hcount, hruns, heffectSome, hawaitSome⟩
    · have hnone := inFlightTrim_of_none hidle v
      refine ⟨fun hn hrun => ?_, by simp only [snapshotEntry, hnone]; rfl⟩
      obtain ⟨-, -, -, -, -, hlisted⟩ := hhead hn hrun
      exact hlisted.trans (by rw [hnone]; rfl)
    · have hsome := inFlightTrim_of_single hflight hlist
      refine ⟨fun hn hrun => ?_, by simp only [snapshotEntry, hsome]; rfl⟩
      obtain ⟨-, -, -, -, -, hlisted⟩ := hhead hn hrun
      exact hlisted.trans (by rw [hsome]; rfl)

end Sys2Proof.Machine

namespace Sys2Proof.Machine

/-! PROOFS. The scan timer under the orders: its load stands until the next scan (R181). -/

theorem endCalAveraging_scan (o : Outcome) (detail : Word) (s : State) :
    (endCalAveraging o detail s).orders.scan = s.orders.scan := by
  unfold endCalAveraging
  split
  · rfl
  · obtain ⟨-, -, hscan, -⟩ := finishHeldCal_fields o detail { s with cal := { s.cal with averaging := none } }
    simpa using hscan

theorem handCause_scan (c : Cause) (s : State) : (handCause c s).orders.scan = s.orders.scan := by
  obtain ⟨-, -, -, -, hscan, -⟩ := enterFaultStop_fields c s
  unfold handCause
  split
  · exact hscan
  · exact hscan
  · rfl

theorem silentCheck_scan (s : State) : (silentCheck s).orders.scan = s.orders.scan := by
  unfold silentCheck
  split
  · rfl
  · exact handCause_scan ..

theorem readinessTest_scan (s : State) : (readinessTest s).orders.scan = s.orders.scan := by
  unfold readinessTest
  split
  · refine (silentCheck_scan _).trans ?_
    split
    · exact (endCalAveraging_scan ..).trans (by simp)
    · simp
  · rfl

theorem orderChangeover_scan (slot : Slot) (s : State) : (orderChangeover slot s).orders.scan = s.orders.scan := by
  unfold orderChangeover
  repeat' split
  · rfl
  · rfl
  · exact (readinessTest_scan _).trans (by simp [unsync])
  · rfl

theorem orderTrackFlush_scan (slot : Slot) (s : State) : (orderTrackFlush slot s).orders.scan = s.orders.scan := by
  have hdrain (u : State) : (endDrain .flush 2 u).orders.scan = u.orders.scan := by
    unfold endDrain finishHeldChangeover
    dsimp only
    split <;> simp
  unfold orderTrackFlush
  dsimp only
  rw [finishOrder_scan]
  split
  · exact (hdrain _).trans (by simp)
  · simp

/-- No order loads the scan timer or stops it. -/
theorem handOver_scan (k : OrderKind) (slot : Slot) (s : State) : (handOver k slot s).orders.scan = s.orders.scan := by
  cases k with
  | changeover => exact orderChangeover_scan slot s
  | trackFlush => exact orderTrackFlush_scan slot s
  | faultClear => exact (silentCheck_scan _).trans (by simp)
  | zeroSet => simp only [handOver, orderZeroSet]; split <;> rfl
  | calZero => simp only [handOver, orderCalZero]; split <;> rfl
  | calSpan => rfl
  | lotClose => simp [handOver, orderLotClose]
  | valveLock => rfl
  | valveRelease => simp only [handOver, orderValveRelease, finishOrder_scan]; split <;> rfl
  | valveTrim => simp only [handOver, orderValveTrim, finishOrder_scan]; split <;> rfl
  | loopSet => rfl
  | snapshot => rfl

theorem takeOrder_scan (slot : Slot) (s : State) : (takeOrder slot s).orders.scan = s.orders.scan := by
  unfold takeOrder
  repeat' split
  · rfl
  · rfl
  · exact handOver_scan ..

end Sys2Proof.Machine

namespace Sys2Proof.Machine

/-! PROOFS. The scan slot by slot, and a posted VALVE_RELEASE that it takes (R130, R181, R182, R185). -/

/-- The slot's word 0 holds POSTED and it is not taken (R181). -/
def Posted (slot : Slot) (s : State) : Prop := slotWord s slot 0 = 1 ∧ ∀ x ∈ s.orders.taken, x.1 ≠ slot

theorem examineSlot_of_posted {slot : Slot} {s : State} (h : Posted slot s) : examineSlot slot s = takeOrder slot s := by
  obtain ⟨hword, htaken⟩ := h
  have hfree : slotTaken s slot = false := by simpa [slotTaken] using htaken
  simp [examineSlot, hword, hfree]

theorem examineSlot_of_not_posted {slot : Slot} {s : State} (h : ¬Posted slot s) : examineSlot slot s = s := by
  refine if_neg fun hexamined => h ?_
  simp only [Bool.and_eq_true, decide_eq_true_eq, Bool.not_eq_true'] at hexamined
  obtain ⟨hword, hfree⟩ := hexamined
  exact ⟨hword, by simpa [slotTaken] using hfree⟩

/-- The state after the first slots of a scan have been examined. -/
def scannedTo (s : State) (k : Nat) : State := (scanOrder.take k).foldl (fun t slot => examineSlot slot t) s

/-- The scan examines the eight slots in their order (R181). -/
theorem scanSlots_eq (s : State) : scanSlots s = scannedTo s 8 := rfl

theorem scannedTo_succ (s : State) (k : Slot) : scannedTo s (k.val + 1) = examineSlot k (scannedTo s k.val) := by
  have horder : ∀ k : Slot, scanOrder.take (k.val + 1) = scanOrder.take k.val ++ [k] := by decide
  rw [scannedTo, horder, List.foldl_append]
  rfl

theorem examineSlot_scan (slot : Slot) (s : State) : (examineSlot slot s).orders.scan = s.orders.scan := by
  unfold examineSlot
  split
  · exact takeOrder_scan slot s
  · rfl

theorem scanSlots_scan (s : State) : (scanSlots s).orders.scan = s.orders.scan := by
  unfold scanSlots
  induction scanOrder generalizing s with
  | nil => rfl
  | cons slot l ih => exact (ih _).trans (examineSlot_scan slot s)

/-- A scan that finds one slot posted takes it alone, where its order posts no other. -/
theorem scanSlots_of_single {slot : Slot} {s : State} (hposted : Posted slot s)
    (hothers : ∀ other, other ≠ slot → slotWord s other 0 ≠ 1)
    (hkept : ∀ other, other ≠ slot → slotWord (takeOrder slot s) other 0 = slotWord s other 0) : scanSlots s = takeOrder slot s := by
  have hbefore {k : Nat} (hk : k ≤ slot.val) : scannedTo s k = s := by
    induction k with
    | zero => rfl
    | succ k ih =>
      have hlt := slot.isLt
      have hne : (⟨k, by omega⟩ : Slot) ≠ slot := fun h => by simp [← h] at hk
      rw [scannedTo_succ s ⟨k, by omega⟩, ih (by omega)]
      exact examineSlot_of_not_posted fun h => hothers _ hne h.1
  have hafter {k : Nat} (hk : k ≤ 7 - slot.val) : scannedTo s (slot.val + 1 + k) = takeOrder slot s := by
    induction k with
    | zero => rw [Nat.add_zero, scannedTo_succ, hbefore le_rfl, examineSlot_of_posted hposted]
    | succ k ih =>
      have hlt : slot.val + 1 + k < 8 := by omega
      refine (scannedTo_succ s ⟨slot.val + 1 + k, hlt⟩).trans ?_
      rw [ih (by omega)]
      have hne : (⟨slot.val + 1 + k, hlt⟩ : Slot) ≠ slot := fun h => by
        have hval := congrArg Fin.val h
        dsimp only at hval
        omega
      exact examineSlot_of_not_posted fun h => hothers _ hne ((hkept _ hne).symm.trans h.1)
  have hlt := slot.isLt
  rw [scanSlots_eq, show 8 = slot.val + 1 + (7 - slot.val) by omega, hafter le_rfl]

/-- The state in which a scan begins: the level of CAL_SWITCH noted and the scan timer loaded again. -/
def scanStarted (on : Bool) (s : State) : State := { noteSwitch on s with orders := { s.orders with scan := some 50 } }

@[simp] theorem scanStarted_frame (on : Bool) (s : State) :
    (scanStarted on s).part = s.part ∧ (scanStarted on s).weigh = s.weigh ∧ (scanStarted on s).cal = s.cal ∧
    (scanStarted on s).track = s.track ∧ (scanStarted on s).reader = s.reader ∧ (scanStarted on s).filler = s.filler ∧
    (scanStarted on s).reject = s.reject ∧ (scanStarted on s).valves = s.valves ∧ (scanStarted on s).dose = s.dose ∧
    (scanStarted on s).recipes = s.recipes ∧ (scanStarted on s).orders = { s.orders with scan := some 50 } ∧
    (scanStarted on s).exch = s.exch ∧ (scanStarted on s).pending = s.pending := by simp [scanStarted]

theorem changesOnly_scanStarted (on : Bool) (s : State) : ChangesOnly [.pins, .orders] s (scanStarted on s) := .intro

theorem exec_orderScan (on : Bool) {s : State} (hdue : s.orders.scan = some 0)
    (honline : s.part.state = .config ∨ s.takesCans = true) :
    exec (.orderScan on) s = .next (scanSlots (scanStarted on s)) := by
  have hscans : s.scans = true := by simpa [State.scans] using honline
  simp only [exec, execOrderScan, hscans, hdue, decide_true, Bool.and_true, if_true]
  rfl

theorem exec_orderScan_idle (on : Bool) {s : State}
    (h : s.orders.scan ≠ some 0 ∨ s.part.state = .clearing ∨ s.part.state = .loading) :
    exec (.orderScan on) s = .next (noteSwitch on s) := by
  have hidle : (s.scans && decide (s.orders.scan = some 0)) = false := by
    rcases h with h | h | h <;> simp [State.scans, State.takesCans, h]
  simp only [exec, execOrderScan, hidle]
  rfl

/-- VALVE_RELEASE: a valve held out of the loop returns to AVERAGING, another stays as it is; DONE with the state before
(R130, R185). -/
theorem orderValveRelease_fields {slot : Slot} {v : Nat} {s : State} (harg : slotArg1 s slot = BitVec.ofNat 32 v) (hlow : 1 ≤ v)
    (hsmall : v ≤ 128) (hin : v ≤ s.valves.table.length) :
    let x := valveAt s v
    let t := orderValveRelease slot s
    valveAt t v = (if x.state = .locked ∨ x.state = .faulty then
      { x with state := .averaging, avg := 0, n := 0, hardLowRun := 0, awaitedGen := none } else x) ∧
    (∀ u, u ≠ v → valveAt t u = valveAt s u) ∧ ValvesShape s t ∧
    t.exch = s.exch.finishSlot slot .done (wordOfNat x.state.code) ∧
    t.orders = { s.orders with taken := s.orders.taken.filter (fun y => decide (y.1 ≠ slot)) } := by
  intro x t
  have ht : t = finishOrder slot .done (wordOfNat x.state.code)
      (if x.state = .locked ∨ x.state = .faulty then
        setValve v { x with state := .averaging, avg := 0, n := 0, hardLowRun := 0, awaitedGen := none } s
       else s) := by
    simp only [t, x, orderValveRelease, harg, toNat_ofNat_valve hsmall, Valve.heldOut, Bool.or_eq_true, decide_eq_true_eq]
  rw [ht]
  by_cases hheld : x.state = .locked ∨ x.state = .faulty
  · rw [if_pos hheld, if_pos hheld]
    exact ⟨valveAt_setValve _ hlow hin, fun u hu => valveAt_setValve_of_ne hu _, ⟨setValve_length .., rfl, rfl⟩, rfl, rfl⟩
  · rw [if_neg hheld, if_neg hheld]
    exact ⟨rfl, fun _ _ => rfl, ⟨rfl, rfl, rfl⟩, rfl, rfl⟩

theorem changesOnly_orderValveRelease (slot : Slot) (s : State) :
    ChangesOnly [.valves, .orders, .exch] s (orderValveRelease slot s) := .intro

theorem slotBase_apart {slot other : Slot} (h : other ≠ slot) :
    ¬(slotBase slot ≤ slotBase other + 0 ∧ slotBase other + 0 < slotBase slot + 16) := by
  have hne : other.val ≠ slot.val := fun heq => h (Fin.ext heq)
  unfold slotBase
  omega

/-- Settles O46: the scan is `scannedTo`, slot by slot, and a posted VALVE_RELEASE alone makes it the take of its slot. -/
theorem theScanTakesThePostedOrders : Obligations.TheScanTakesThePostedOrders := by
  intro slot v r on s word noted online
  refine ⟨exec_orderScan_idle on, fun hdue honline => ?_, fun hdue honline hposted hkind harg hothers htaken hr hlow hhigh hV
    htable hawait => ?_⟩
  · have hexec : exec (.orderScan on) s = .next (scannedTo (scanStarted on s) 8) := by
      rw [exec_orderScan on hdue honline, scanSlots_eq]
    have hscan : (scannedTo (scanStarted on s) 8).orders.scan = some 50 := by rw [← scanSlots_eq, scanSlots_scan]; rfl
    have hpins : (scannedTo (scanStarted on s) 8).pins = noted.pins := by rw [← scanSlots_eq, (scanSlots_frame _).1]; rfl
    refine ⟨scannedTo (scanStarted on s), rfl, fun k => ⟨fun h => ?_, fun h => ?_⟩, hexec, hscan, hpins⟩
    · rw [scannedTo_succ]
      exact examineSlot_of_posted h
    · rw [scannedTo_succ]
      exact examineSlot_of_not_posted h
  · intro x
    have hsmall : v ≤ 128 := hhigh.trans hV
    have hin : v ≤ s.valves.table.length := hsmall.trans_eq htable.symm
    let u := scanStarted on s
    have htake : takeOrder slot u = orderValveRelease slot u := by
      refine takeOrder_of_kind (k := .valveRelease) (congrArg orderKindOf hkind) (orderFailure_of_online honline (by simp) ?_)
      have hargs : slotArg1 u slot = BitVec.ofNat 32 v := harg
      rw [OrderKind.argsIn, hargs, toNat_ofNat_valve hsmall]
      exact (withinV_iff (s := u) hr).mpr ⟨hlow, hhigh⟩
    obtain ⟨hvalve, hvalveOthers, ⟨hlength, hloop, hsnapshots⟩, hexch, horders⟩ :=
      orderValveRelease_fields (s := u) harg hlow hsmall hin
    rw [← htake] at hvalve hvalveOthers hlength hloop hsnapshots hexch horders
    have hscan : scanSlots u = takeOrder slot u := by
      refine scanSlots_of_single ⟨hposted, by simp [u, scanStarted, htaken]⟩ hothers fun other hne => ?_
      rw [slotWord, hexch, Exchange.finishSlot_read_outside _ _ _ _ (slotBase_apart hne)]
      rfl
    have hfree : (takeOrder slot u).orders.taken = [] := by rw [horders]; simp [u, htaken]
    have hreleased (hheld : x.state = .locked ∨ x.state = .faulty) : valveAt (takeOrder slot u) v =
        { x with state := .averaging, avg := 0, n := 0, hardLowRun := 0, awaitedGen := none } := hvalve.trans (if_pos hheld)
    refine ⟨takeOrder slot u, by rw [exec_orderScan on hdue honline, hscan], fun hheld => ⟨?_, by rw [hreleased hheld]⟩,
      fun hloop => ?_, hvalveOthers, hlength, hloop, hsnapshots, (takeOrder_frame slot u).1, hexch, hfree,
      takeOrder_scan slot u, ?_⟩
    · have hnone : x.awaitedGen = none := hawait (by rcases hheld with h | h <;> rw [h] <;> decide)
      rw [hreleased hheld, ← hnone]
    · have hin : ¬(x.state = .locked ∨ x.state = .faulty) := by rcases hloop with h | h <;> simp [h]
      exact hvalve.trans (if_neg hin)
    · rw [htake]
      exact ((changesOnly_scanStarted on s).mono (by simp)).trans ((changesOnly_orderValveRelease slot u).mono (by simp))

end Sys2Proof.Machine

namespace Sys2Proof.Machine

/-! PROOFS. A CHANGEOVER at its take: refused, pending on the line, or in force at once in CONFIG (R111, R149, R154 to R156,
R171). -/

section Changeover

variable {slot : Slot} {r : Recipe} {s : State}

/-- In the states that allow a CHANGEOVER no check of R183 refuses it. -/
theorem takeOrder_changeover (hkind : slotWord s slot 1 = 1)
    (hstate : s.part.state = .config ∨ s.part.state = .stopped ∨ s.part.state = .run) :
    takeOrder slot s = orderChangeover slot s := by
  refine takeOrder_of_kind (k := .changeover) (by rw [hkind]; rfl) ?_
  rcases hstate with h | h | h <;>
    simp [orderFailure, OrderKind.allowedIn, OrderKind.needsSwitch, OrderKind.admittedBy, OrderKind.argsIn,
      OrderKind.calClass, h]

theorem orderChangeover_busy (h : s.recipes.held ≠ none ∨ s.recipes.retiring ≠ none) :
    orderChangeover slot s = finishOrder slot .busy 0 s :=
  if_pos (by simpa [Option.isSome_iff_ne_none] using h)

/-- A valid CHANGEOVER, with none held and no recipe retiring, goes by the part state (R155, R156). -/
theorem orderChangeover_valid (hheld : s.recipes.held = none) (hret : s.recipes.retiring = none)
    (hvalid : recipeFailure (stagedWord s) = none) : orderChangeover slot s =
      if s.part.state = .config then changeoverInConfig (recipeCopy (stagedWord s)) slot s
      else changeoverOnLine (recipeCopy (stagedWord s)) slot s := by
  simp [orderChangeover, hheld, hret, hvalid]

/-! #### The recipe in force at once (R155) -/

theorem closeActiveLot_timeTag (c : LotCause) (s : State) : (closeActiveLot c s).exch.timeTag = s.exch.timeTag := by
  unfold closeActiveLot
  split
  · rfl
  · simp [fileLot]

theorem closeActiveLot_position (c : LotCause) (s : State) : (closeActiveLot c s).recipes = { s.recipes with
    activeLot := none
    closedPos := if s.recipes.activeLot.isSome then s.recipes.closedPos + 1 else s.recipes.closedPos } := by
  unfold closeActiveLot
  split
  · next h => rw [h, Option.isSome_none, if_neg Bool.false_ne_true, ← h]
  · next h => simp [h, fileLot_recipes]

/-- The open lot closed, the Dose Table UNSYNCED, trims and valves set against the new recipe: all that comes before the new lot
(R111, R155). -/
def recipeTaken (r : Recipe) (s : State) : State :=
  valvesAtConfigChangeover r (rewantTrims r (unsync
    { closeActiveLot .order s with recipes := { (closeActiveLot .order s).recipes with active := some r } }))

@[simp] theorem recipeTaken_frame (r : Recipe) (s : State) :
    (recipeTaken r s).pins = s.pins ∧ (recipeTaken r s).part = s.part ∧ (recipeTaken r s).weigh = s.weigh ∧
    (recipeTaken r s).cal = s.cal ∧ (recipeTaken r s).track = s.track ∧ (recipeTaken r s).reader = s.reader ∧
    (recipeTaken r s).filler = s.filler ∧ (recipeTaken r s).reject = s.reject ∧ (recipeTaken r s).orders = s.orders ∧
    (recipeTaken r s).pending = s.pending := by simp [recipeTaken]

theorem recipeTaken_recipes (r : Recipe) (s : State) : (recipeTaken r s).recipes = { s.recipes with
    active := some r, activeLot := none
    closedPos := if s.recipes.activeLot.isSome then s.recipes.closedPos + 1 else s.recipes.closedPos } := by
  simp [recipeTaken, unsync, closeActiveLot_position]

theorem recipeTaken_exch (r : Recipe) (s : State) : (recipeTaken r s).exch = (closeActiveLot .order s).exch := by
  simp [recipeTaken, unsync]

theorem trimAt_unsync {v : Nat} (hlow : 1 ≤ v) (hhigh : v ≤ s.dose.trims.length) :
    trimAt (unsync s) v = { trimAt s v with served := 0 } := trimAt_mapTrims _ hlow hhigh

theorem unsync_length (s : State) : (unsync s).dose.trims.length = s.dose.trims.length := mapTrims_length ..

theorem trimAt_rewantTrims (r : Recipe) {v : Nat} (hlow : 1 ≤ v) (hhigh : v ≤ s.dose.trims.length) :
    trimAt (rewantTrims r s) v = { trimAt s v with
      wanted := if r.valveCount < v ∨ r.clearTrims = true then 0 else clampAbs r.trimLimit (trimAt s v).wanted } := by
  rw [rewantTrims, trimAt_mapTrims _ hlow hhigh]
  simp

/-- The Dose Table UNSYNCED, its trims wanted anew (R111, R135). -/
theorem recipeTaken_dose (r : Recipe) (s : State) :
    let t := recipeTaken r s
    t.dose = { s.dose with served := none, base := 0, limit := 0, rr := 0, trims := t.dose.trims } ∧
    t.dose.trims.length = s.dose.trims.length ∧
    ∀ v, 1 ≤ v → v ≤ s.dose.trims.length → trimAt t v =
      { wanted := if r.valveCount < v ∨ r.clearTrims = true then 0 else clampAbs r.trimLimit (trimAt s v).wanted, served := 0 } := by
  intro t
  let u : State := { closeActiveLot .order s with recipes := { (closeActiveLot .order s).recipes with active := some r } }
  have hu : u.dose = s.dose := by simp [u]
  have ht : t.dose = { u.dose with served := none, base := 0, limit := 0, rr := 0, trims := t.dose.trims } := rfl
  have hlength : t.dose.trims.length = s.dose.trims.length :=
    (mapTrims_length ..).trans ((unsync_length u).trans (by rw [hu]))
  refine ⟨by rw [ht, hu], hlength, fun v hlow hhigh => ?_⟩
  have hin : v ≤ u.dose.trims.length := hhigh.trans_eq (by rw [hu])
  have htrim : trimAt t v = trimAt (rewantTrims r (unsync u)) v := rfl
  rw [htrim, trimAt_rewantTrims r hlow (hin.trans_eq (unsync_length u).symm), trimAt_unsync hlow hin, trimAt_of_dose hu]

/-- The valves within the new V start afresh but for those held out of the loop, and the ones above it are IDLE (R111). -/
theorem recipeTaken_valves (r : Recipe) (s : State) :
    ValvesShape s (recipeTaken r s) ∧
    ∀ v, 1 ≤ v → v ≤ s.valves.table.length → valveAt (recipeTaken r s) v =
      if r.valveCount < v then { (valveAt s v).zeroed with state := .idle }
      else if (valveAt s v).state = .locked ∨ (valveAt s v).state = .faulty then valveAt s v
      else { (valveAt s v).zeroed with state := .averaging } := by
  unfold recipeTaken
  generalize hu : rewantTrims r (unsync
    { closeActiveLot .order s with recipes := { (closeActiveLot .order s).recipes with active := some r } }) = u
  have huvalves : u.valves = s.valves := by simp [← hu]
  refine ⟨(ValvesShape.of_valves huvalves).trans (valvesShape_mapValves ..), fun v hlow hhigh => ?_⟩
  rw [valvesAtConfigChangeover, valveAt_mapValves _ hlow (hhigh.trans_eq (by rw [huvalves])), valveAt_of_valves huvalves]
  simp only [Valve.heldOut, Bool.or_eq_true, decide_eq_true_eq]

/-- A CHANGEOVER in CONFIG done: the new lot open and the order finished, ahead of the readiness test. -/
def changeoverDone (r : Recipe) (slot : Slot) (s : State) : State :=
  finishOrder slot .done (wordOfNat s.recipes.nextLot) (openLot (recipeTaken r s))

@[simp] theorem changeoverDone_frame (r : Recipe) (slot : Slot) (s : State) : let t := changeoverDone r slot s
    t.pins = s.pins ∧ t.part = s.part ∧ t.weigh = s.weigh ∧ t.cal = s.cal ∧ t.track = s.track ∧ t.reader = s.reader ∧
    t.filler = s.filler ∧ t.reject = s.reject ∧ t.valves = (recipeTaken r s).valves ∧ t.dose = (recipeTaken r s).dose ∧
    t.pending = s.pending := by simp [changeoverDone]

theorem changeoverDone_fields (r : Recipe) (slot : Slot) (s : State) :
    let t := changeoverDone r slot s
    t.recipes = { s.recipes with
      active := some r, activeLot := some (freshLot s.recipes.nextLot r s.exch.timeTag)
      nextLot := nextNumber s.recipes.nextLot, fine := 600, finePhase := 0
      closedPos := if s.recipes.activeLot.isSome then s.recipes.closedPos + 1 else s.recipes.closedPos } ∧
    t.orders = { s.orders with taken := s.orders.taken.filter (fun x => decide (x.1 ≠ slot)) } ∧
    t.exch = ((closeActiveLot .order s).exch.write lotMinutesAddr [wordOfNat r.lotMinutes]).finishSlot slot .done
      (wordOfNat s.recipes.nextLot) := by
  simp [changeoverDone, openLot, activeRecipe, recipeTaken_recipes, recipeTaken_exch, closeActiveLot_timeTag, finishOrder]

theorem changeoverInConfig_eq (r : Recipe) (slot : Slot) (s : State) :
    changeoverInConfig r slot s = readinessTest (changeoverDone r slot s) := by
  have hnext : (recipeTaken r s).recipes.nextLot = s.recipes.nextLot := by rw [recipeTaken_recipes]
  rw [changeoverDone, ← hnext]
  rfl

theorem changeoverInConfig_of_live (hstate : s.part.state = .config) (hlive : s.weigh.converter = .live)
    (ha : s.cal.averaging = none) : changeoverInConfig r slot s =
      if s.cal.state = .valid then changePart (lineState s) .ready (changeoverDone r slot s) else changeoverDone r slot s := by
  have hactive : (changeoverDone r slot s).recipes.active = some r := by rw [(changeoverDone_fields r slot s).1]
  rw [changeoverInConfig_eq, readinessTest_of_live (by simpa using ha) (by simpa using hlive)]
  simp [hactive, lineState, hstate]

end Changeover

/-- Settles O50: refused, pending on the line, or done in CONFIG with the readiness test at its end. -/
theorem aChangeoverIsTaken : Obligations.AChangeoverIsTaken := by
  intro slot s hkind staged r free t
  refine ⟨fun hstate hbusy => ?_, fun hstate hfree => ?_, fun hstate hfree hlive ha => ?_⟩
  · exact (takeOrder_changeover hkind hstate).trans (orderChangeover_busy hbusy)
  · obtain ⟨hheld, hret, hvalid⟩ := hfree
    have hline : s.part.state ≠ .config := by rcases hstate with h | h <;> simp [h]
    have ht : t = changeoverOnLine r slot s := (takeOrder_changeover hkind (.inr hstate)).trans
      ((orderChangeover_valid hheld hret hvalid).trans (if_neg hline))
    rw [ht]
    exact ⟨rfl, rfl, rfl, rfl, .intro⟩
  · obtain ⟨hheld, hret, hvalid⟩ := hfree
    intro line closed done
    have ht : t = if s.cal.state = .valid then changePart (lineState s) .ready (changeoverDone r slot s)
        else changeoverDone r slot s :=
      (takeOrder_changeover hkind (.inl hstate)).trans ((orderChangeover_valid hheld hret hvalid).trans
        ((if_pos hstate).trans (changeoverInConfig_of_live hstate hlive ha)))
    obtain ⟨hrecipes, horders, hexch⟩ := changeoverDone_fields r slot s
    obtain ⟨hdose, hlength, htrims⟩ := recipeTaken_dose r s
    obtain ⟨⟨-, hloop, hsnapshots⟩, hvalves⟩ := recipeTaken_valves r s
    have hclosed : (closeActiveLot .order s).exch = closed := by
      unfold closeActiveLot
      split
      · next h => simp only [closed, h]
      · next h => simp only [closed, h]; rfl
    rw [hclosed] at hexch
    have hsame : ChangesOnly [.part, .weigh, .exch] (changeoverDone r slot s) t := by
      rw [ht]
      split <;> exact .intro
    have htrecipes : t.recipes = (changeoverDone r slot s).recipes := hsame .recipes (by simp)
    have htorders : t.orders = (changeoverDone r slot s).orders := hsame .orders (by simp)
    have htdose : t.dose = (recipeTaken r s).dose := (hsame .dose (by simp)).trans (by simp)
    have htvalves : t.valves = (recipeTaken r s).valves := (hsame .valves (by simp)).trans (by simp)
    refine ⟨by rw [htrecipes, hrecipes], by rw [htdose]; exact hdose, by rw [htdose]; exact hlength, fun v hlow hhigh => ?_,
      fun v hlow hhigh => (valveAt_of_valves htvalves v).trans (hvalves v hlow hhigh), by rw [htvalves]; exact hloop,
      by rw [htvalves]; exact hsnapshots, htorders.trans horders, fun hcal => ?_, fun hcal => ?_, ?_, ?_, ?_⟩
    · rw [trimAt_of_dose htdose, htrims v hlow hhigh]
      exact ⟨rfl, rfl⟩
    · have hpart : (changeoverDone r slot s).part = s.part := by simp
      rw [if_pos hcal] at ht
      rw [ht, changePart_part, changePart_event, hexch, hpart, hstate]
      exact ⟨rfl, rfl⟩
    · rw [if_neg hcal] at ht
      rw [ht]
      exact ⟨by simp, by simp, hexch⟩
    · rw [ht]; split <;> simp
    · rw [ht]; split <;> simp [changePart]
    · rw [ht]; split <;> exact .intro

end Sys2Proof.Machine

namespace Sys2Proof.Machine

/-! PROOFS. An ack in each block that it touches: the served values, the reverted trims, the changeover given up, the stray ack
(R144, R145, R147, R159). -/

/-! #### What a serve and a refusal share -/

theorem linkUpEvent_raises (before : LinkState) (g : Gen) (code : Nat) (s : State) : (linkUpEvent before g code s).exch =
    if before = .down then s.exch.event .linkUp g.toNat (wordOfNat code) 0 else s.exch := by
  cases before <;> rfl

/-- The order held, if there is one, is finished and its slot is no longer taken (R159, R185). -/
theorem finishHeldChangeover_ends (o : Outcome) (detail : Word) (s : State) :
    let t := finishHeldChangeover o detail s
    (s.recipes.held = none → t.exch = s.exch ∧ t.orders = s.orders) ∧
    (∀ slot, s.recipes.held = some slot → t.exch = s.exch.finishSlot slot o detail ∧
      t.orders = { s.orders with taken := s.orders.taken.filter (fun x => decide (x.1 ≠ slot)) }) := by
  intro t
  refine ⟨fun h => ?_, fun slot h => ?_⟩
  · simp only [t, finishHeldChangeover, h, true_and]
  · simp only [t, finishHeldChangeover, h, finishOrder, true_and]

theorem wordOfNat_code {res : Byte} {result : AckResult} (h : ackResultOf res = some result) :
    wordOfNat result.code = res.setWidth 32 := by
  unfold ackResultOf at h
  split at h
  · next hres => cases h; rw [hres]; rfl
  split at h
  · next hres => cases h; rw [hres]; rfl
  split at h
  · next hres => cases h; rw [hres]; rfl
  · cases h

/-- The frame of an APPLIED or DUPLICATE ack for the message in flight serves it (R81, R144, R145). -/
theorem exec_doseAckFrame_serves {hi lo res check : Byte} {m : Message} {s : State} (htakes : s.takesCans = true)
    (hlisten : s.filler.receiver ≠ .heldLow) (hasm : s.filler.asm = .check) (hkind : s.filler.kind = 0x12#8)
    (hlen : s.filler.len = 3) (hpayload : s.filler.payload = [hi, lo, res]) (hsum : s.filler.sum + check = 0)
    (hflight : s.dose.inflight = some m) (hgen : m.generation = (hi ++ lo : BitVec 16)) (hres : res = 1 ∨ res = 2) :
    ∃ result, ackResultOf res = some result ∧ exec (.doseAckFrame check) s = .next (serve m result (dropFrame s)) := by
  obtain ⟨result, hresult, hserves⟩ : ∃ result, ackResultOf res = some result ∧ (result = .applied ∨ result = .duplicate) := by
    obtain rfl | rfl := hres
    · exact ⟨.applied, rfl, .inl rfl⟩
    · exact ⟨.duplicate, rfl, .inr rfl⟩
  refine ⟨result, hresult, ?_⟩
  rw [exec_doseAckFrame htakes hlisten hasm hkind hlen hpayload hsum hresult, ← hgen,
    takeAck_served (s := dropFrame s) hflight hserves]

/-! #### The served values (R145) -/

section Served

variable {m : Message} {v : Nat} {s : State}

theorem rrAfter_nil (h : m.list = []) (rr : Nat) : rrAfter rr m.list = rr := by rw [h]; rfl

theorem rrAfter_last {a : Nat × Int} (h : m.list.getLast? = some a) (rr : Nat) : rrAfter rr m.list = a.1 := by
  simp only [rrAfter, h]

@[simp] theorem servedState_frame (m : Message) (result : AckResult) (s : State) : let t := servedState m result s
    t.pins = s.pins ∧ t.part = s.part ∧ t.weigh = s.weigh ∧ t.cal = s.cal ∧ t.track = s.track ∧ t.reader = s.reader ∧
    t.filler = s.filler ∧ t.reject = s.reject ∧ t.dose = (serveValues m s).dose ∧ t.orders = s.orders ∧
    t.pending = s.pending := by simp [servedState]

theorem servedState_exch {res : Byte} {result : AckResult} (h : ackResultOf res = some result) (m : Message) (s : State) :
    (servedState m result s).exch =
      if s.dose.link = .down then s.exch.event .linkUp m.generation.toNat (res.setWidth 32) 0 else s.exch := by
  rw [servedState, linkUpEvent_raises, wordOfNat_code h]
  simp

theorem serveValues_length (m : Message) (s : State) : (serveValues m s).dose.trims.length = s.dose.trims.length :=
  mapTrims_length ..

theorem trimAt_serveValues (m : Message) (hlow : 1 ≤ v) (hhigh : v ≤ s.dose.trims.length) :
    trimAt (serveValues m s) v = servedTrim m (m.limit.getD s.dose.limit) v (trimAt s v) :=
  trimAt_mapTrims _ hlow hhigh

end Served

/-! #### The refusal (R147) -/

section Refused

variable {m : Message} {v : Nat} {s : State}

/-- The message gone and its listed trims reverted: what a refusal does before it comes to the valves (R147). -/
def revertedState (m : Message) (s : State) : State :=
  revertTrims m.list { s with dose := { s.dose with inflight := none, ack := none, probe := 0, link := .up } }

theorem trimAt_revertedState (m : Message) (hlow : 1 ≤ v) (hhigh : v ≤ s.dose.trims.length) :
    trimAt (revertedState m s) v = { trimAt s v with
      wanted := if v ∈ m.list.map (·.1) then (trimAt s v).served else (trimAt s v).wanted } := by
  have hlisted : m.list.any (fun p => p.1 == v) = true ↔ v ∈ m.list.map (·.1) := by simp
  have htrim : trimAt (revertedState m s) v =
      if m.list.any (fun p => p.1 == v) then { trimAt s v with wanted := (trimAt s v).served } else trimAt s v :=
    trimAt_mapTrims _ hlow hhigh
  rw [htrim]
  by_cases h : v ∈ m.list.map (·.1)
  · rw [if_pos (hlisted.mpr h), if_pos h]
  · rw [if_neg (hlisted.not.mpr h), if_neg h]

/-- The refusal told, ahead of the changeover given up (R126, R147). -/
def refusedState (m : Message) (s : State) : State :=
  linkUpEvent s.dose.link m.generation 3 (raiseEvent .doseRefused m.generation.toNat (wordOfNat m.list.length)
    (wordOfNat (flagNat m.changeover)) (refusedUpdate m.list (revertedState m s)))

@[simp] theorem refusedState_frame (m : Message) (s : State) : let t := refusedState m s
    t.pins = s.pins ∧ t.part = s.part ∧ t.weigh = s.weigh ∧ t.cal = s.cal ∧ t.track = s.track ∧ t.reader = s.reader ∧
    t.filler = s.filler ∧ t.reject = s.reject ∧ t.dose = (revertedState m s).dose ∧ t.recipes = s.recipes ∧
    t.orders = s.orders ∧ t.pending = s.pending := by simp [refusedState, revertedState]

theorem refusedState_exch (m : Message) (s : State) :
    let e := s.exch.event .doseRefused m.generation.toNat (BitVec.ofNat 32 m.list.length) (if m.changeover then 1 else 0)
    (refusedState m s).exch = if s.dose.link = .down then e.event .linkUp m.generation.toNat 3 0 else e := by
  intro e
  have he : (raiseEvent .doseRefused m.generation.toNat (wordOfNat m.list.length) (wordOfNat (flagNat m.changeover))
      (refusedUpdate m.list (revertedState m s))).exch = e := by
    rw [wordOfNat_flagNat]
    simp [raiseEvent, revertedState, e, wordOfNat]
  rw [refusedState, linkUpEvent_raises, he]
  rfl

theorem refuse_of_trims (h : m.changeover = false) : refuse m s = refusedState m s := by
  simp [refuse, refusedState, revertedState, h]

theorem refuse_of_changeover (h : m.changeover = true) : refuse m s = refuseChangeover m.generation (refusedState m s) := by
  simp [refuse, refusedState, revertedState, h]

theorem refuseChangeover_ends (g : Gen) (s : State) :
    let t := refuseChangeover g s
    t.recipes = { s.recipes with next := none, held := none } ∧
    (s.recipes.held = none → t.exch = s.exch ∧ t.orders = s.orders) ∧
    (∀ slot, s.recipes.held = some slot → t.exch = s.exch.finishSlot slot .fillerRefused (g.setWidth 32) ∧
      t.orders = { s.orders with taken := s.orders.taken.filter (fun x => decide (x.1 ≠ slot)) }) := by
  intro t
  rw [← wordOfNat_gen]
  exact ⟨finishHeldChangeover_recipes .., finishHeldChangeover_ends .fillerRefused (wordOfNat g.toNat)
    { s with dose := { s.dose with changeover := none }, recipes := { s.recipes with next := none } }⟩

/-- A refusal gives up the changeover it carries, and nothing else of the Dose Unit than the message and the reverted trims. -/
theorem refuse_dose (m : Message) (s : State) : (refuse m s).dose = { (revertedState m s).dose with
    changeover := if m.changeover then none else s.dose.changeover } := by
  cases h : m.changeover with
  | false =>
    have hdose : (refusedState m s).dose = (revertedState m s).dose := by simp
    rw [refuse_of_trims h, hdose]
    rfl
  | true => rw [refuse_of_changeover h]; simp [refuseChangeover]

end Refused

/-! #### The ack that answers nothing (R144) -/

theorem takeAck_stray {g : Gen} {s : State} (h : ∀ m, s.dose.inflight = some m → m.generation ≠ g) (result : AckResult) :
    takeAck g result s = strayAck g result s := by
  unfold takeAck
  split
  · rfl
  · next m hm => rw [if_neg (h m hm)]

theorem strayAck_raises {res : Byte} {result : AckResult} (h : ackResultOf res = some result) (g : Gen) (s : State) :
    (strayAck g result s).exch = s.exch.event .ackStray g.toNat (res.setWidth 32)
      (match s.dose.inflight with | none => 65536 | some m => m.generation.setWidth 32) := by
  simp only [strayAck, raiseEvent, wordOfNat_code h]
  cases s.dose.inflight with
  | none => rfl
  | some m => simp only [wordOfNat_gen]

/-- Settles O41: by the result, the message is served, refused with or without a changeover, or the ack is stray. -/
theorem anAckServesRefusesOrStrays : Obligations.AnAckServesRefusesOrStrays := by
  intro hi lo res check s htakes hlisten hasm hkind hlen hpayload hsum g
  have hexec {result : AckResult} (hres : ackResultOf res = some result) :
      exec (.doseAckFrame check) s = .next (takeAck g result (dropFrame s)) :=
    exec_doseAckFrame htakes hlisten hasm hkind hlen hpayload hsum hres
  have htrim (v : Nat) : trimAt (dropFrame s) v = trimAt s v := trimAt_of_dose (by simp) v
  refine ⟨fun m hres hflight hgen htrims => ?_, fun m hres hflight hgen => ?_, fun hres hstray => ?_⟩
  · intro limit
    obtain ⟨result, hresult, ht⟩ := exec_doseAckFrame_serves htakes hlisten hasm hkind hlen hpayload hsum hflight hgen hres
    generalize hu : serve m result (dropFrame s) = t at ht
    rw [serve_of_trims htrims] at hu
    have hdose : t.dose = (serveValues m (dropFrame s)).dose := by simp [← hu]
    have hexch : t.exch = (servedState m result (dropFrame s)).exch := by simp [← hu]
    have hframe : ChangesOnly [.filler, .dose, .valves, .exch] s t := by rw [← hu]; exact .intro
    refine ⟨t, ht, ?_⟩
    simp only [trimAt_of_dose hdose, hdose, hexch, servedState_exch hresult]
    refine ⟨rfl, rfl, rfl, rfl, rfl, rfl, rfl, rfl, fun hnil => rrAfter_nil hnil _, fun a hlast => rrAfter_last hlast _,
      serveValues_length .., fun v hlow hhigh => ?_, rfl, hframe⟩
    rw [trimAt_serveValues (s := dropFrame s) m hlow hhigh, htrim]
    exact ⟨rfl, rfl⟩
  · subst hres
    have ht : exec (.doseAckFrame check) s = .next (refuse m (dropFrame s)) := by
      rw [hexec rfl, ← hgen, takeAck_refused (s := dropFrame s) hflight]
    have hdose := refuse_dose m (dropFrame s)
    have hexch := refusedState_exch m (dropFrame s)
    have htrims (v : Nat) : trimAt (refuse m (dropFrame s)) v = trimAt (revertedState m (dropFrame s)) v :=
      trimAt_of_trims (by rw [hdose]) v
    rw [hgen] at hexch
    refine ⟨_, ht, ?_⟩
    simp only [htrims, hdose]
    refine ⟨rfl, rfl, rfl, rfl, rfl, rfl, rfl, rfl, fun v hlow hhigh => ?_, fun hchange => ?_, fun hchange => ?_⟩
    · rw [trimAt_revertedState (s := dropFrame s) m hlow hhigh, htrim]
      exact ⟨rfl, rfl⟩
    · rw [refuse_of_trims hchange]
      exact ⟨hexch, if_neg (by simp [hchange]), .intro⟩
    · obtain ⟨hrecipes, hnone, hheld⟩ := refuseChangeover_ends m.generation (refusedState m (dropFrame s))
      rw [← refuse_of_changeover hchange] at hrecipes hnone hheld
      simp only [refusedState_frame, hexch, hgen] at hrecipes hnone hheld
      exact ⟨if_pos hchange, hrecipes, hnone, hheld, .intro⟩
  · obtain ⟨result, hresult⟩ : ∃ result, ackResultOf res = some result := by
      obtain rfl | rfl | rfl := hres <;> exact ⟨_, rfl⟩
    have ht : exec (.doseAckFrame check) s = .next (strayAck g result (dropFrame s)) := by
      rw [hexec hresult, takeAck_stray (s := dropFrame s) hstray]
    exact ⟨_, ht, strayAck_raises hresult g (dropFrame s), .intro⟩

end Sys2Proof.Machine

namespace Sys2Proof.Machine

/-! PROOFS. The changeover swap block by block, and the drain that ends at once on an empty track (R145, R157, R158, R161,
R162). -/

/-! #### The drain (R158) -/

/-- The memory with a lot filed at a position of the closed lot list, its events and its notice (R162). -/
def filedLot (l : Lot) (nominal : Nat) (c : LotCause) (pos : Fin 8) (e : Exchange) : Exchange :=
  (lotCloseEvents l nominal c (e.write (0x0300 + 32 * pos.val) (closedLotWords l e.timeTag c nominal))).raiseNotice .lot

theorem closeRetiringLot_of_open {r : Recipe} {l : Lot} {s : State} (hr : s.recipes.retiring = some r)
    (hl : s.recipes.retiringLot = some l) (c : LotCause) :
    (closeRetiringLot c s).recipes = { s.recipes with retiringLot := none, closedPos := s.recipes.closedPos + 1 } ∧
    (closeRetiringLot c s).exch = filedLot l r.nominal c s.recipes.closedPos s.exch := by
  simp [closeRetiringLot, fileLot, setLot, recipeOf, filedLot, hr, hl]

/-- The drain of a retiring recipe with its lot open: the lot filed, the order held DONE, RETIRING_DRAINED (R158, R162). -/
theorem endDrain_of_open {r : Recipe} {l : Lot} {s : State} (hr : s.recipes.retiring = some r)
    (hl : s.recipes.retiringLot = some l) (c : LotCause) (how : Nat) :
    let t := endDrain c how s
    let boundary := s.recipes.boundary.setWidth 32
    let closed := filedLot l r.nominal c s.recipes.closedPos s.exch
    let drained := fun (x : Exchange) => x.event .retiringDrained how boundary (wordOfNat l.index)
    t.recipes = { s.recipes with
      retiring := none, retiringLot := none, held := none, closedPos := s.recipes.closedPos + 1 } ∧
    (s.recipes.held = none → t.orders = s.orders ∧ t.exch = drained closed) ∧
    (∀ slot, s.recipes.held = some slot → t.exch = drained (closed.finishSlot slot .done boundary) ∧
      t.orders = { s.orders with taken := s.orders.taken.filter (fun x => decide (x.1 ≠ slot)) }) := by
  intro t boundary closed drained
  obtain ⟨hrecipes, hexch⟩ := closeRetiringLot_of_open hr hl c
  let u : State := { closeRetiringLot c s with recipes := { (closeRetiringLot c s).recipes with retiring := none } }
  let w := finishHeldChangeover .done boundary u
  have ht : t = raiseEvent .retiringDrained how boundary (wordOfNat l.index) w := by
    simp only [t, endDrain, boundaryWord, wordOfNat_gen, retiringLotIndex, hl]
    rfl
  have huheld : u.recipes.held = s.recipes.held := by simp [u, hrecipes]
  have huorders : u.orders = s.orders := by simp [u]
  obtain ⟨hnone, hheld⟩ := finishHeldChangeover_ends .done boundary u
  rw [huheld, huorders] at hnone hheld
  refine ⟨?_, fun h => ?_, fun slot h => ?_⟩
  · simp [ht, w, u, finishHeldChangeover_recipes, hrecipes]
  · obtain ⟨hwexch, hworders⟩ := hnone h
    exact ⟨by rw [ht]; exact hworders, by rw [ht]; exact congrArg drained (hwexch.trans hexch)⟩
  · obtain ⟨hwexch, hworders⟩ := hheld slot h
    exact ⟨by rw [ht]; exact congrArg drained (hwexch.trans (congrArg (·.finishSlot slot .done boundary) hexch)),
      by rw [ht]; exact hworders⟩

/-! #### The swap (R157) -/

section Swap

variable {old new : Recipe} {b : Gen} {s : State}

/-- The swap told, ahead of its drain check: slots, entries, wanted trims, valves, lots and event (R157, R161). -/
def swapTold (new : Recipe) (b : Gen) (s : State) : State :=
  raiseEvent .changeoverSwap b.toNat (wordOfNat s.track.entries.length) (wordOfNat s.recipes.nextLot)
    (openLot (retireLot (valvesAtSwap new b (rewantTrims new (markRetiring (swapSlots b s))))))

theorem swap_eq (hnext : s.recipes.next = some new) (b : Gen) : swap b s = drainCheck (swapTold new b s) := by
  have hnew : activeRecipe (markRetiring (swapSlots b s)) = new := by simp [activeRecipe, hnext]
  simp only [swap, hnew, swapTold]
  rfl

@[simp] theorem swapTold_frame (new : Recipe) (b : Gen) (s : State) : let t := swapTold new b s
    t.pins = s.pins ∧ t.part = s.part ∧ t.weigh = s.weigh ∧ t.cal = s.cal ∧ t.track = (markRetiring s).track ∧
    t.reader = s.reader ∧ t.filler = s.filler ∧ t.reject = s.reject ∧
    t.valves = (valvesAtSwap new b (rewantTrims new (markRetiring (swapSlots b s)))).valves ∧
    t.dose = (rewantTrims new s).dose ∧ t.orders = s.orders ∧ t.pending = s.pending := by
  simp only [swapTold, raiseEvent_frame, openLot_frame, retireLot_frame, valvesAtSwap_frame, rewantTrims_frame,
    markRetiring_frame, swapSlots_frame, true_and, and_true]
  exact ⟨rfl, rfl⟩

theorem swapTold_recipes (hnext : s.recipes.next = some new) (b : Gen) : (swapTold new b s).recipes = { s.recipes with
    retiring := s.recipes.active, active := some new, next := none, boundary := b, retiringLot := s.recipes.activeLot
    activeLot := some (freshLot s.recipes.nextLot new s.exch.timeTag), nextLot := nextNumber s.recipes.nextLot
    fine := 600, finePhase := 0 } := by
  simp [swapTold, openLot, retireLot, swapSlots, activeRecipe, hnext]

theorem swapTold_exch (hnext : s.recipes.next = some new) (b : Gen) : (swapTold new b s).exch =
    (s.exch.write lotMinutesAddr [wordOfNat new.lotMinutes]).event .changeoverSwap b.toNat
      (wordOfNat s.track.entries.length) (wordOfNat s.recipes.nextLot) := by
  simp [swapTold, raiseEvent, openLot, retireLot, swapSlots, activeRecipe, hnext]

/-- Every entry is RETIRING after the swap, so its drain check ends the drain exactly on an empty track (R158). -/
theorem swap_drains (hactive : s.recipes.active = some old) (hnext : s.recipes.next = some new) (b : Gen) :
    swap b s = if s.track.entries = [] then endDrain .drained 1 (swapTold new b s) else swapTold new b s := by
  have hretiring : (swapTold new b s).recipes.retiring = some old := by rw [swapTold_recipes hnext, hactive]
  have hall : (swapTold new b s).track.entries.all (fun e => decide (e.recipe ≠ .retiring)) =
      decide (s.track.entries = []) := by
    cases h : s.track.entries <;> simp [h]
  simp only [swap_eq hnext, drainCheck, hretiring, hall, Option.isSome_some, Bool.true_and, decide_eq_true_eq]

/-- The drain check leaves what the swap has set of ACTIVE, NEXT, the boundary generation and the new lot (R157, R158). -/
theorem swap_recipes (hnext : s.recipes.next = some new) (b : Gen) : let t := swap b s
    t.recipes.active = some new ∧ t.recipes.next = none ∧ t.recipes.boundary = b ∧
    t.recipes.nextLot = nextNumber s.recipes.nextLot ∧ t.recipes.fine = 600 ∧
    t.recipes.activeLot = some (freshLot s.recipes.nextLot new s.exch.timeTag) := by
  intro t
  have htold := swapTold_recipes hnext b
  simp only [t, swap_eq hnext, drainCheck]
  split
  · obtain ⟨pos, hpos⟩ := endDrain_recipes .drained 1 (swapTold new b s)
    simp [hpos, htold]
  · simp [htold]

theorem swap_waits {l : Lot} (hactive : s.recipes.active = some old) (hnext : s.recipes.next = some new)
    (hlot : s.recipes.activeLot = some l) (b : Gen) (hentries : s.track.entries ≠ []) : let t := swap b s
    t.recipes.retiring = some old ∧ t.recipes.retiringLot = some l ∧ t.recipes.held = s.recipes.held ∧
    t.recipes.closedPos = s.recipes.closedPos ∧ t.orders = s.orders ∧ t.exch = (swapTold new b s).exch := by
  intro t
  have ht : t = swapTold new b s := (swap_drains hactive hnext b).trans (if_neg hentries)
  rw [ht, swapTold_recipes hnext]
  exact ⟨hactive, hlot, rfl, rfl, by simp, rfl⟩

/-- On an empty track the retiring lot is filed, the order held DONE with the boundary generation and the drain told in the
swap's own action (R158, R162). -/
theorem swap_drained {l : Lot} (hactive : s.recipes.active = some old) (hnext : s.recipes.next = some new)
    (hlot : s.recipes.activeLot = some l) (b : Gen) (hempty : s.track.entries = []) :
    let t := swap b s
    let closed := filedLot l old.nominal .drained s.recipes.closedPos (swapTold new b s).exch
    let drained := fun (x : Exchange) => x.event .retiringDrained 1 (b.setWidth 32) (wordOfNat l.index)
    t.recipes.retiring = none ∧ t.recipes.retiringLot = none ∧ t.recipes.held = none ∧
    t.recipes.closedPos = s.recipes.closedPos + 1 ∧
    (s.recipes.held = none → t.orders = s.orders ∧ t.exch = drained closed) ∧
    (∀ slot, s.recipes.held = some slot → t.exch = drained (closed.finishSlot slot .done (b.setWidth 32)) ∧
      t.orders = { s.orders with taken := s.orders.taken.filter (fun x => decide (x.1 ≠ slot)) }) := by
  intro t closed drained
  have htold := swapTold_recipes hnext b
  have ht : t = endDrain .drained 1 (swapTold new b s) := (swap_drains hactive hnext b).trans (if_pos hempty)
  obtain ⟨hrecipes, hends⟩ := endDrain_of_open (s := swapTold new b s) (r := old) (l := l) (by rw [htold, hactive])
    (by rw [htold, hlot]) .drained 1
  have horders : (swapTold new b s).orders = s.orders := by simp
  rw [htold, horders] at hends
  rw [ht, hrecipes, htold]
  exact ⟨rfl, rfl, rfl, rfl, hends⟩

/-- The swap changes nothing of the Dose Unit but the wanted trims (R157). -/
theorem swap_dose (hnext : s.recipes.next = some new) (b : Gen) :
    (swap b s).dose = { s.dose with trims := (rewantTrims new s).dose.trims } := by
  simp only [swap_eq hnext, drainCheck_frame, swapTold_frame]
  rfl

theorem swap_track (hnext : s.recipes.next = some new) (b : Gen) :
    (swap b s).track = { s.track with entries := s.track.entries.map (fun e => { e with recipe := .retiring }) } := by
  simp only [swap_eq hnext, drainCheck_frame, swapTold_frame]
  rfl

theorem trimAt_swap {v : Nat} (hnext : s.recipes.next = some new) (b : Gen) (hlow : 1 ≤ v)
    (hhigh : v ≤ s.dose.trims.length) : trimAt (swap b s) v = { trimAt s v with
      wanted := if new.valveCount < v ∨ new.clearTrims = true then 0 else clampAbs new.trimLimit (trimAt s v).wanted } := by
  rw [trimAt_of_trims (s := rewantTrims new s) (by rw [swap_dose hnext]), trimAt_rewantTrims new hlow hhigh]

/-- A valve above the new V is IDLE with its statistics zeroed (R127). -/
theorem valveAt_swap_above {v : Nat} (hnext : s.recipes.next = some new) (b : Gen) (hlow : 1 ≤ v)
    (hhigh : v ≤ s.valves.table.length) (habove : new.valveCount < v) :
    valveAt (swap b s) v = { (valveAt s v).zeroed with state := .idle } := by
  let w := rewantTrims new (markRetiring (swapSlots b s))
  have hw : w.valves = s.valves := by simp [w]
  have hvalves : (swap b s).valves = (valvesAtSwap new b w).valves := by simp [swap_eq hnext, w]
  rw [valveAt_of_valves hvalves, valveAt_valvesAtSwap hlow (hhigh.trans_eq (by rw [hw])), if_pos habove, valveAt_of_valves hw]

theorem swap_length (hnext : s.recipes.next = some new) (b : Gen) :
    (swap b s).valves.table.length = s.valves.table.length := by
  have hvalves : (swap b s).valves = (valvesAtSwap new b (rewantTrims new (markRetiring (swapSlots b s)))).valves := by
    simp [swap_eq hnext]
  rw [hvalves]
  exact (mapValves_length ..).trans (by simp)

/-- What a served changeover leaves ahead of the swap: the served values, LINK_UP, no changeover pending (R145). -/
def changeoverServed (m : Message) (result : AckResult) (s : State) : State :=
  { servedState m result s with dose := { (servedState m result s).dose with changeover := none } }

@[simp] theorem changeoverServed_frame (m : Message) (result : AckResult) (s : State) : let t := changeoverServed m result s
    t.pins = s.pins ∧ t.part = s.part ∧ t.weigh = s.weigh ∧ t.cal = s.cal ∧ t.track = s.track ∧ t.reader = s.reader ∧
    t.filler = s.filler ∧ t.reject = s.reject ∧ t.valves = s.valves ∧
    t.dose = { (serveValues m s).dose with changeover := none } ∧ t.recipes = s.recipes ∧ t.orders = s.orders ∧
    t.exch = (servedState m result s).exch ∧ t.pending = s.pending := by simp [changeoverServed]

theorem serve_swaps {m : Message} (h : m.changeover = true) (result : AckResult) (s : State) :
    serve m result s = ageValves m.generation (swap m.generation (changeoverServed m result s)) := by
  simp [serve, servedState, changeoverServed, h]

end Swap

/-- Settles O43: the ack serves the message and swaps, and the drain check at the end of the swap ends the drain on an empty
track. -/
theorem aChangeoverSwapsTheRecipes : Obligations.AChangeoverSwapsTheRecipes := by
  intro hi lo res check m old new l s htakes hlisten hasm hkind hlen hpayload hres hsum hflight hgen hchange hactive hnext hlot
    up swapped boundary closed drained
  obtain ⟨result, hresult, ht⟩ := exec_doseAckFrame_serves htakes hlisten hasm hkind hlen hpayload hsum hflight hgen hres
  rw [serve_swaps hchange] at ht
  have huexch : (changeoverServed m result (dropFrame s)).exch = up := by
    simp only [changeoverServed_frame, servedState_exch hresult]
    rfl
  have hudose : (changeoverServed m result (dropFrame s)).dose = { (serveValues m s).dose with changeover := none } := by
    simp only [changeoverServed_frame]
    rfl
  have huframe : ChangesOnly [.filler, .dose, .exch] s (changeoverServed m result (dropFrame s)) := .intro
  have hframe : ChangesOnly [.filler, .dose, .valves, .track, .recipes, .orders, .exch] s
      (ageValves m.generation (swap m.generation (changeoverServed m result (dropFrame s)))) := .intro
  generalize changeoverServed m result (dropFrame s) = u at ht huexch hudose huframe hframe
  have hutrack : u.track = s.track := huframe .track (by simp)
  have huorders : u.orders = s.orders := huframe .orders (by simp)
  have hurecipes : u.recipes = s.recipes := huframe .recipes (by simp)
  have huvalves : u.valves = s.valves := huframe .valves (by simp)
  have huactive : u.recipes.active = some old := by rw [hurecipes, hactive]
  have hunext : u.recipes.next = some new := by rw [hurecipes, hnext]
  have hulot : u.recipes.activeLot = some l := by rw [hurecipes, hlot]
  have huptag : up.timeTag = s.exch.timeTag := by
    simp only [up]
    split <;> simp
  have hclosed : filedLot l old.nominal .drained s.recipes.closedPos swapped = closed := by
    simp [filedLot, closed, swapped, huptag]
  have htold : (swapTold new m.generation u).exch = swapped := by
    rw [swapTold_exch hunext, huexch, hutrack, hurecipes]
    rfl
  obtain ⟨hactive', hnext', hboundary, hnextLot, hfine, hopen⟩ := swap_recipes hunext m.generation
  have hwaits := swap_waits huactive hunext hulot m.generation
  have hdrained := swap_drained huactive hunext hulot m.generation
  rw [hurecipes, huorders, hutrack, htold] at hwaits hdrained
  rw [hclosed] at hdrained
  have htrims : u.dose.trims = (serveValues m s).dose.trims := by rw [hudose]
  have htrim (v : Nat) : trimAt (ageValves m.generation (swap m.generation u)) v = trimAt (swap m.generation u) v :=
    trimAt_of_dose (by simp) v
  refine ⟨_, ht, ?_⟩
  simp only [ageValves_frame, htrim, swap_dose hunext, hudose, swap_track hunext, hutrack]
  refine ⟨hactive', hnext', hboundary, by rw [hnextLot, hurecipes], hfine, hwaits, hdrained,
    ⟨_, hopen, by rw [hurecipes]; rfl, rfl, by rw [huexch]; exact huptag, rfl, rfl, rfl, rfl, rfl, rfl⟩,
    trivial, trivial, rfl, rfl, fun v hlow hhigh => ?_, fun v hlow hhigh habove => ?_, hframe⟩
  · have hin : v ≤ (serveValues m s).dose.trims.length := hhigh.trans_eq (serveValues_length ..).symm
    rw [trimAt_swap hunext _ hlow (hin.trans_eq (by rw [htrims])), trimAt_of_trims htrims, trimAt_serveValues m hlow hhigh]
    rfl
  · have hin : v ≤ u.valves.table.length := hhigh.trans_eq (by rw [huvalves])
    rw [valveAt_ageValves hlow (hin.trans_eq (swap_length hunext _).symm), valveAt_swap_above hunext _ hlow hin habove,
      ageValve_of_served (.inr rfl) rfl]
    exact ⟨rfl, rfl, rfl⟩

end Sys2Proof.Machine

namespace Sys2Proof.Machine

/-! PROOFS. Part Control under every command: which operation changes the part state, and in which direction (R169 to R176). -/

/-! #### The operations that change the part state -/

/-- A cause stops the part from STOPPED and RUN alone (R173, R174). -/
theorem handCause_state (c : Cause) (s : State) : (handCause c s).part.state = s.part.state ∨
    (s.part.state = .stopped ∨ s.part.state = .run) ∧ (handCause c s).part.state = .faultStop := by
  by_cases h : s.part.state = .stopped ∨ s.part.state = .run
  · obtain ⟨hpart, -⟩ := enterFaultStop_fields c s
    exact .inr ⟨h, by rw [handCause_of_producing c h, hpart]⟩
  · obtain ⟨hstopped, hrun⟩ := not_or.mp h
    exact .inl (by rw [handCause_of_not_producing c hstopped hrun])

theorem silentCheck_state (s : State) : (silentCheck s).part.state = s.part.state ∨
    (s.part.state = .stopped ∨ s.part.state = .run) ∧ (silentCheck s).part.state = .faultStop := by
  unfold silentCheck
  split
  · exact .inl rfl
  · exact handCause_state .converterFault s

/-- The states that a part on the line can stand in. -/
def PartState.OnLine (p : PartState) : Prop := p = .stopped ∨ p = .run ∨ p = .faultStop

/-- A part that has come to the state LINE_RUN gives stays on the line at the converter's test (R2). -/
theorem silentCheck_onLine {s : State} (h : s.part.state = .stopped ∨ s.part.state = .run) :
    (silentCheck s).part.state.OnLine := by
  rcases silentCheck_state s with hkept | ⟨-, hstop⟩
  · rw [hkept]; exact h.imp_right .inl
  · exact .inr (.inr hstop)

/-- A part that leaves CONFIG at the readiness test comes to the line (R171). -/
theorem readinessTest_state (s : State) : (readinessTest s).part.state = s.part.state ∨
    s.part.state = .config ∧ (readinessTest s).part.state.OnLine := by
  by_cases h : (decide (s.part.state = .config) && ready s) = true
  · have hconfig : s.part.state = .config := by simp_all
    refine .inr ⟨hconfig, ?_⟩
    rw [readinessTest, if_pos h]
    refine silentCheck_onLine ?_
    split <;> simpa [changePart_part] using lineState_producing s
  · exact .inl (by rw [readinessTest, if_neg h])

/-! #### The scan of the orders (R171, R175) -/

/-- How the orders of a scan move the part state: a CHANGEOVER from CONFIG, a FAULT_CLEAR from FAULT_STOP, both to the line. -/
def OrdersMove (p q : PartState) : Prop := q = p ∨ (p = .config ∨ p = .faultStop) ∧ q.OnLine

theorem OrdersMove.trans {p q r : PartState} (hpq : OrdersMove p q) (hqr : OrdersMove q r) : OrdersMove p r := by
  rcases hpq with rfl | ⟨hp, hq⟩
  · exact hqr
  · rcases hqr with rfl | ⟨-, hr⟩
    · exact .inr ⟨hp, hq⟩
    · exact .inr ⟨hp, hr⟩

theorem allowed_of_orderFailure {k : OrderKind} {s : State} {slot : Slot} (h : orderFailure k s slot = none) :
    k.allowedIn s.part.state = true := by
  cases hallowed : k.allowedIn s.part.state with
  | true => rfl
  | false => simp [orderFailure, hallowed] at h

theorem orderChangeover_moves (slot : Slot) (s : State) : OrdersMove s.part.state (orderChangeover slot s).part.state := by
  unfold orderChangeover
  split
  · exact .inl (by simp)
  split
  · exact .inl (by simp)
  split
  · let r := recipeCopy (stagedWord s)
    have hpart : (changeoverDone r slot s).part = s.part := by simp
    rw [changeoverInConfig_eq, ← hpart]
    exact (readinessTest_state _).imp_right (And.imp_left .inl)
  · exact .inl (by simp)

theorem orderFaultClear_onLine (slot : Slot) (s : State) : (orderFaultClear slot s).part.state.OnLine := by
  obtain ⟨hpart, -⟩ := faultCleared_fields slot s
  rw [orderFaultClear_eq]
  exact silentCheck_onLine (by rw [hpart]; exact lineState_producing s)

/-- Of the twelve kinds a CHANGEOVER and a FAULT_CLEAR alone move the part. -/
theorem handOver_moves {k : OrderKind} {slot : Slot} {s : State} (h : k.allowedIn s.part.state = true) :
    OrdersMove s.part.state (handOver k slot s).part.state := by
  cases k with
  | changeover => exact orderChangeover_moves slot s
  | faultClear =>
    have hstop : s.part.state = .faultStop := by cases hs : s.part.state <;> simp_all [OrderKind.allowedIn]
    exact .inr ⟨.inr hstop, orderFaultClear_onLine slot s⟩
  | lotClose | zeroSet | calZero | calSpan | valveLock | valveRelease | valveTrim | loopSet | snapshot | trackFlush =>
    exact .inl (by simp [handOver])

theorem examineSlot_moves (slot : Slot) (s : State) : OrdersMove s.part.state (examineSlot slot s).part.state := by
  unfold examineSlot takeOrder
  repeat' split
  · exact .inl (by simp)
  · exact .inl (by simp)
  · next hfail => exact handOver_moves (allowed_of_orderFailure hfail)
  · exact .inl rfl

theorem scanSlots_moves (s : State) : OrdersMove s.part.state (scanSlots s).part.state := by
  unfold scanSlots
  induction scanOrder generalizing s with
  | nil => exact .inl rfl
  | cons slot l ih => exact (examineSlot_moves slot s).trans (ih (examineSlot slot s))

theorem orderScan_moves {on : Bool} {s t : State} (ht : exec (.orderScan on) s = .next t) :
    OrdersMove s.part.state t.part.state := by
  cases ht
  split
  · have hscan : scanNow (noteSwitch on s) = scanSlots (scanStarted on s) := rfl
    rw [hscan]
    exact scanSlots_moves (scanStarted on s)
  · exact .inl rfl

/-! #### The completion of a calibration averaging (R171) -/

/-- The three ends of a completion: refused, or the values of its kind set and stored (R28 to R31). -/
theorem completeCal_ends (c : CalAveraging) (s : State) : let u := calAveragingRemoved s
    (∃ o detail, completeCal c s = finishHeldCal o detail u) ∨
    (∃ mean, completeCal c s = beginStoreWrite .zero (setCalZero mean c.arg u)) ∨
    (∃ f, completeCal c s = beginStoreWrite .span (setCalSpan f u)) := by
  intro u
  unfold completeCal
  dsimp only
  repeat' split
  · exact .inl ⟨_, _, rfl⟩
  · exact .inl ⟨_, _, rfl⟩
  · exact .inr (.inl ⟨_, rfl⟩)
  · exact .inl ⟨_, _, rfl⟩
  · exact .inl ⟨_, _, rfl⟩
  · exact .inr (.inr ⟨_, rfl⟩)

/-- With a live converter a completion moves the part from CONFIG to the state LINE_RUN gives, or not at all. -/
theorem completeCal_state (c : CalAveraging) {s : State} (hlive : s.weigh.converter = .live) :
    (completeCal c s).part.state = s.part.state ∨ s.part.state = .config ∧
      ((completeCal c s).part.state = .stopped ∨ (completeCal c s).part.state = .run) := by
  rcases completeCal_ends c s with ⟨o, detail, h⟩ | ⟨mean, h⟩ | ⟨f, h⟩ <;> rw [h]
  · exact .inl (by simp [calAveragingRemoved])
  · obtain ⟨-, -, -, -, hframe⟩ := calZeroStored_fields mean c.arg hlive
    exact .inl (congrArg PartControl.state (hframe .part (by simp)))
  · obtain ⟨-, -, -, hleaves, hstays, -⟩ := calSpanStored_fields f hlive
    by_cases hready : s.cal.state ≠ .valid ∧ s.part.state = .config ∧ s.recipes.active.isSome = true
    · obtain ⟨hpart, -⟩ := hleaves hready
      obtain ⟨-, hconfig, -⟩ := hready
      exact .inr ⟨hconfig, by rw [hpart]; exact lineState_producing s⟩
    · obtain ⟨hpart, -⟩ := hstays hready
      exact .inl (by rw [hpart])

/-- A sample makes the converter LIVE, and neither zero tracking nor a zero-set averaging changes that (R2). -/
theorem zeroSetSample_converter (x : Sample) (s : State) :
    (zeroSetSample x s).weigh.converter = s.weigh.converter := by
  unfold zeroSetSample completeZeroSet finishZeroSet
  dsimp only
  repeat' split
  all_goals rfl

/-- What the sample leaves to the calibration averaging: a live converter, and Part Control as it stood (R1, R2). -/
theorem sampleArrival_state {count : BitVec 24} {s t : State} (ht : exec (.sampleArrival count) s = .next t) :
    t.part.state = s.part.state ∨ s.part.state = .config ∧ (t.part.state = .stopped ∨ t.part.state = .run) := by
  cases ht
  split
  · generalize sampleOf count s.exch.timeTag = x
    generalize hu : zeroSetSample x (zeroTrackSample x (takeSample x s)) = u
    have hpart : u.part = s.part := by rw [← hu]; simp
    have hlive : u.weigh.converter = .live := by rw [← hu, zeroSetSample_converter, zeroTrackSample_weigh]; rfl
    rw [← hpart]
    unfold calSample
    dsimp only
    repeat' split
    · exact .inl rfl
    · exact .inl rfl
    · exact completeCal_state _ hlive
  · exact .inl rfl

/-! #### The other commands of the transition table -/

theorem clearingComplete_state {s t : State} (ht : exec .clearingComplete s = .next t) :
    t.part.state = s.part.state ∨ s.part.state = .clearing ∧ t.part.state = .loading := by
  cases ht
  split
  · next h => exact .inr ⟨h, rfl⟩
  · exact .inl rfl

theorem storeReadEnd_state {bytes : List Byte} {s t : State} (ht : exec (.storeReadEnd bytes) s = .next t) :
    t.part.state = s.part.state ∨ s.part.state = .loading ∧ t.part.state = .config := by
  cases ht
  split
  · next h => exact .inr ⟨h, rfl⟩
  · exact .inl rfl

theorem lineRunRise_state {s t : State} (ht : exec .lineRunRise s = .next t) :
    t.part.state = s.part.state ∨ s.part.state = .stopped ∧ t.part.state = .run := by
  cases ht
  split
  · next h => exact .inr ⟨h, rfl⟩
  · exact .inl rfl

theorem lineRunFall_state {s t : State} (ht : exec .lineRunFall s = .next t) :
    t.part.state = s.part.state ∨ s.part.state = .run ∧ t.part.state = .stopped := by
  cases ht
  split
  · next h => exact .inr ⟨h, rfl⟩
  · exact .inl rfl

/-- The three commands that hand a cause stop the part from STOPPED and RUN alone (R173, R174). -/
theorem cause_state {c : Instr} {s t : State}
    (hc : c = .converterWatchExpiry ∨ c = .jamTimerExpiry ∨ c = .confirmEyeArrival) (ht : exec c s = .next t) :
    t.part.state = s.part.state ∨ (s.part.state = .stopped ∨ s.part.state = .run) ∧ t.part.state = .faultStop := by
  rcases hc with rfl | rfl | rfl <;> cases ht
  · split
    · exact handCause_state ..
    · exact .inl rfl
  · repeat' split
    · exact handCause_state ..
    · exact .inl rfl
    · exact .inl rfl
  · repeat' split
    · exact .inl (by simp)
    · next e _ _ =>
      have hpart : (raiseEvent .rejectFailed (e.valve.getD 0) (wordOfNat e.serial) (e.outTag.getD 0)
          (removeWithDrain e .rejectFailed s)).part = s.part := by simp
      rw [← hpart]
      exact handCause_state ..
    · exact .inl (by simp)
    · exact .inl rfl

/-- A RESTART ends in CONFIG or on the line (R176). -/
theorem restartPart_state (s : State) :
    (restartPart s).part.state ≠ .clearing ∧ (restartPart s).part.state ≠ .loading := by
  have htarget : (changePart (restartTarget (restartBlocks s)) .restart (restartBlocks s)).part.state = .config ∨
      (changePart (restartTarget (restartBlocks s)) .restart (restartBlocks s)).part.state.OnLine := by
    rw [changePart_part, restartTarget]
    split
    · exact .inr ((lineState_producing _).imp_right .inl)
    · exact .inl rfl
  unfold restartPart
  dsimp only
  rcases silentCheck_state (changePart (restartTarget (restartBlocks s)) .restart (restartBlocks s)) with h | ⟨-, h⟩
  · rw [h]
    rcases htarget with h | h | h | h <;> simp [h]
  · simp [h]

theorem takesRestart_iff {s : State} : s.takesRestart = true ↔ s.part.state ≠ .clearing ∧ s.part.state ≠ .loading := by
  cases h : s.part.state <;> simp [State.takesRestart, State.takesCans, h]

/-- A host write moves the part only as a RESTART, and a RESTART is a write to CONTROL with bit 0 set (R176, R194). -/
theorem hostWrite_part {addr value : Word} (h : addr = controlAddr → value.getLsbD 0 = false) (s : State) :
    (hostWrite addr value s).part = s.part := by
  unfold hostWrite writeControl
  split
  · rfl
  split
  · simp
  split
  · next hcontrol => rw [h hcontrol]; rfl
  repeat' split
  all_goals simp

theorem restart_state {value : Word} {s t : State} (ht : exec (.restart value) s = .next t) :
    t.part.state = s.part.state ∨
    s.part.state ≠ .clearing ∧ s.part.state ≠ .loading ∧ t.part.state ≠ .clearing ∧ t.part.state ≠ .loading := by
  by_cases hstarts : s.awake = true ∧ (value.getLsbD 0 && s.takesRestart) = true
  · obtain ⟨hawake, htaken⟩ := hstarts
    have ht' : t = restartPart s := by cases ht; simp only [hostWrite, writeControl, hawake, htaken]; rfl
    obtain ⟨hclearing, hloading⟩ := takesRestart_iff.mp (Bool.and_eq_true_iff.mp htaken).2
    exact .inr ⟨hclearing, hloading, by rw [ht']; exact restartPart_state s⟩
  · refine .inl ?_
    cases ht
    unfold hostWrite writeControl
    split
    · rfl
    · next hawake => rw [if_neg (by decide), if_pos rfl, if_neg (by simp_all)]

/-- Settles O59 -/
theorem thePartStateMovesOnlyByItsEvents : Obligations.ThePartStateMovesOnlyByItsEvents := by
  intro c s t hwf _ _ ht
  cases c with
  | fullReset => exact .inr (.inl rfl)
  | clearingComplete => exact (clearingComplete_state ht).imp_right fun h => .inr (.inl ⟨rfl, h⟩)
  | storeReadEnd bytes => exact (storeReadEnd_state ht).imp_right fun h => .inr (.inr (.inl ⟨⟨bytes, rfl⟩, h⟩))
  | sampleArrival count =>
    exact (sampleArrival_state ht).imp_right fun h => .inr (.inr (.inr (.inl ⟨⟨count, rfl⟩, h⟩)))
  | orderScan on =>
    exact (orderScan_moves ht).imp_right fun h => .inr (.inr (.inr (.inr (.inl ⟨⟨on, rfl⟩, h⟩))))
  | lineRunRise =>
    exact (lineRunRise_state ht).imp_right fun h => .inr (.inr (.inr (.inr (.inr (.inl ⟨rfl, h⟩)))))
  | lineRunFall =>
    exact (lineRunFall_state ht).imp_right fun h => .inr (.inr (.inr (.inr (.inr (.inr (.inl ⟨rfl, h⟩))))))
  | converterWatchExpiry | jamTimerExpiry | confirmEyeArrival =>
    exact (cause_state (by simp) ht).imp_right fun h =>
      .inr (.inr (.inr (.inr (.inr (.inr (.inr (.inl ⟨by simp, h⟩)))))))
  | restart value =>
    exact (restart_state ht).imp_right fun h =>
      .inr (.inr (.inr (.inr (.inr (.inr (.inr (.inr ⟨⟨value, rfl⟩, h⟩)))))))
  | noticeClear value => cases ht; exact .inl (congrArg _ (hostWrite_part (absurd · (by decide)) s))
  | noticeMaskWrite value => cases ht; exact .inl (congrArg _ (hostWrite_part (absurd · (by decide)) s))
  | registerWriteIgnored addr value =>
    cases ht
    refine .inl (congrArg _ (hostWrite_part (fun h => ?_) s))
    simpa [h, Instr.wellFormed, controlAddr, identAddr] using hwf
  | hostMemoryWrite addr value =>
    cases ht
    refine .inl (congrArg _ (hostWrite_part (fun h => ?_) s))
    simp [h, Instr.wellFormed] at hwf
  | refusalHoldoffExpiry | timeWrap | storeWriteCompared readBack | storeTimerExpiry | platformInArrival | platformOutArrival
  | calSwitchOff | readerEyeArrival | readDeadlineExpiry | readerMessage | readerFramingError brk | readerOverlong ch
  | dischargeFrame check | doseAckFrame check | fillerErroredCharacter ch | fillerBufferOverrun b | gapTimerExpiry
  | transmitFrameEnd | fillerIndexArrival | ackTimerExpiry | rejectEyeArrival | pulseTimerExpiry | pastRejectDeadlineExpiry
  | lotMinuteStep | readerCharacter ch | fillerCharacter b | badFrameCompleted check | breakEnd link =>
    cases ht
    repeat' split
    all_goals exact .inl (by simp)

end Sys2Proof.Machine

namespace Sys2Proof.Machine

/-! PROOFS. The state after full reset, the end of CLEARING, and LINE_RUN (R7, R8, R169, R172, R178). -/

/-! #### Full reset and its hold (R169) -/

theorem hostRead_held {s : State} (h : s.pins.resetHeld = true) (a : Word) : hostRead s a = 0 := by
  simp only [hostRead, h, if_true]

/-- In CLEARING the host reads IDENT alone (R169). -/
theorem hostRead_clearing {s : State} (hheld : s.pins.resetHeld = false) (h : s.part.state = .clearing) (a : Word) :
    hostRead s a = if a = 0x4000#32 then 0x4C480481#32 else 0 := by
  simp [hostRead, hheld, State.awake, h, identAddr, identValue]

/-- Time that passes while a source holds the reset only ends the hold (log 28). -/
theorem step_held {s : State} (hheld : s.pins.resetHeld = true) (hqueue : s.pending = []) :
    step s = .next (releaseReset s) := by
  simp [step, tick, hqueue, hheld]

/-! #### The end of CLEARING (R169, R178) -/

/-- The exchange memory at the end of CLEARING: every word 0, then STATE_CHANGE. -/
def clearedExch (e : Exchange) : Exchange := ({ e with mem := [] } : Exchange).event .stateChange 1 0 1

/-- A change to a state in which zero tracking cannot run stops it and the jam timer (R8, R14). -/
theorem changePart_weigh_stops {new : PartState} (why : ChangeReason) (s : State) (hstopped : new ≠ .stopped)
    (hrun : new ≠ .run) : (changePart new why s).weigh =
      { s.weigh with jam := .stopped, tracking := false, acc := s.weigh.acc.cleared } := by
  unfold changePart
  rw [refreshZero_stops (by simp [zeroConditions, hstopped, hrun])]
  simp [jamAfter, hrun]

theorem exec_clearingComplete {s : State} (h : s.part.state = .clearing) :
    ∃ t, exec .clearingComplete s = .next t ∧ t.part = { s.part with state := .loading } ∧
      t.pins = { s.pins with resetHeld := false } ∧ t.exch = clearedExch s.exch ∧
      t.weigh = { s.weigh with jam := .stopped, tracking := false, acc := s.weigh.acc.cleared } ∧
      ChangesOnly [.pins, .part, .weigh, .exch] s t := by
  refine ⟨changePart .loading .cleared (releaseReset { s with exch := { s.exch with mem := [] } }), ?_, rfl, rfl, ?_,
    changePart_weigh_stops _ _ (by decide) (by decide), .intro⟩
  · simp only [exec, execClearingComplete, h, if_true]
  · simp only [changePart_event, releaseReset_frame, h]
    rfl

/-- An event with room in the queue is written at the write index, which moves on (R196). -/
theorem Exchange.event_of_room {e : Exchange} (h : e.queueFull = false) (k : EventKind) (arg0 : Nat) (arg1 arg2 : Word) :
    e.event k arg0 arg1 arg2 =
      { e.write (0x0480 + 4 * e.evWrite.val) [eventHead k arg0, e.timeTag, arg1, arg2] with
        evWrite := e.evWrite + 1 }.raiseNotice .event := by
  simp only [Exchange.event, h, Bool.false_eq_true, if_false]

/-- An empty event queue takes STATE_CHANGE as its first entry, and every other word stays 0. -/
theorem clearedExch_fields {e : Exchange} (h : e.evWrite = 0) :
    (∀ a, (clearedExch e).read a =
      if 0x0480 ≤ a ∧ a < 0x0484 then [BitVec.ofNat 32 (128 + 65536 * 1), e.timeTag, 0, 1].getD (a - 0x0480) 0 else 0) ∧
    (clearedExch e).evWrite = 1 ∧ (clearedExch e).notice = e.notice ||| 2#5 := by
  have hroom : ({ e with mem := [] } : Exchange).queueFull = false := by simp [Exchange.queueFull, Exchange.read, h]
  rw [clearedExch, Exchange.event_of_room hroom, h]
  exact ⟨Exchange.read_write { e with mem := [] } 0x0480 [BitVec.ofNat 32 (128 + 65536 * 1), e.timeTag, 0, 1], rfl, rfl⟩

/-- Settles O7: the reset state block by block, the release by what CLEARING lets the host read, and the end of CLEARING by the one
event it writes. -/
theorem fullResetAndClearing : Obligations.FullResetAndClearing := by
  intro s
  refine ⟨⟨_, rfl, hostRead_held rfl, fun _ => rfl, ?_⟩, fun hheld hqueue => ?_, fun hclearing hqueue => ?_⟩
  · simp +contextual [State.reset, Valve.afterReset]
  · exact ⟨releaseReset s, step_held hheld hqueue, rfl,
      fun h => hostRead_clearing (s := releaseReset s) rfl h, .intro⟩
  · obtain ⟨t, ht, hpart, hpins, hexch, hweigh, hframe⟩ := exec_clearingComplete hclearing
    obtain ⟨hread, hwrite, hnotice⟩ := clearedExch_fields hqueue
    rw [← hexch] at hread hwrite hnotice
    have hvalves : t.valves = s.valves := hframe .valves (by simp)
    have htrack : t.track = s.track := hframe .track (by simp)
    obtain ⟨hstatus, -, -, -, -, -, hqueue', -⟩ := hostRead_areas (s := t) (by simp [hpart]) (by simp [hpins])
    refine ⟨t, ht, hpart, hpins, hread _, hread _, hread _, hread _, fun a ha => (hread a).trans (if_neg ha), hwrite, hnotice,
      (hstatus 0 (by decide)).trans ?_, (hstatus 2 (by decide)).trans ?_, (hstatus 3 (by decide)).trans ?_,
      (hstatus 0x12 (by decide)).trans ?_, (hqueue' 0 (by decide)).trans ?_, ?_, ?_, ?_, ?_, hframe⟩
    · simp [statusWords, hpart, PartState.code, wordOfNat]
    · simp [statusWords, hpins, wordOfNat_flagNat]
    · simp [statusWords, hvalves, wordOfNat_flagNat]
    · simp [statusWords, htrack, wordOfNat]
    · simp [hwrite, wordOfNat]
    all_goals simp [hweigh]

/-! #### The legality of the reset state (R169) -/

theorem takenLegal_reset : TakenLegal State.reset := by
  refine ⟨fun slot owner => ?_, List.nodup_nil, by decide⟩
  cases owner <;> simp [State.reset, keptSlot]

/-- Settles O52: the lists are empty and the slots absent, so that only the values of the blocks are left to compare. -/
theorem theResetStateIsLegal : Obligations.TheResetStateIsLegal := by
  obtain ⟨hcal, hjam, htracking, hlists⟩ := weighLegal_fullReset
  have hpart : PartLegal State.reset := ⟨rfl, rfl, nofun, nofun⟩
  have hchangeover : ChangeoverLegal State.reset := ⟨nofun, nofun⟩
  have hrecipes : RecipesLegal State.reset := by simp [RecipesLegal, State.reset]
  have hretiring : RetiringLegal State.reset := by simp [RetiringLegal, State.reset]
  have hfree : NextSerialFree State.reset := by simp [NextSerialFree, State.reset]
  have hlots : LotsLegal State.reset := ⟨nofun, nofun⟩
  have hdose : DoseLegal State.reset := by simp [DoseLegal, State.reset]
  exact ⟨hpart, nofun, nofun, hrecipes, hchangeover, hretiring, hcal, hjam, htracking, hlists, trackLegal_reset, hfree, hlots,
    valvesLegal_reset, hdose, takenLegal_reset, reset_mem_wf, rfl, rfl, rfl⟩

/-! #### LINE_RUN (R7, R8, R172) -/

/-- A rise in STOPPED with no averaging to end only changes the part state (R172). -/
theorem exec_lineRunRise_stopped {s : State} (hstopped : s.part.state = .stopped) (hzero : s.weigh.zeroSet = none)
    (hcal : s.cal.averaging = none) :
    exec .lineRunRise s = .next (changePart .run .lineRise (setLineRun true s)) := by
  simp only [exec, execLineRunRise, hstopped, if_true]
  rw [endZeroSet_of_none _ _ (by simpa using hzero), endCalAveraging_of_none _ _ (by simpa using hcal)]

theorem exec_lineRunFall_run {s : State} (hrun : s.part.state = .run) : exec .lineRunFall s =
    .next (changePart .stopped .lineFall (interruptWeighings (setLineRun false s))) := by
  simp only [exec, execLineRunFall, hrun, if_true]

/-- An entry to RUN loads the jam timer on an occupied platform (R8). -/
theorem jamAfter_run (s : State) : jamAfter .run s = if s.weigh.platform = [] then .stopped else loadedJam s := by
  cases h : s.weigh.platform <;> simp [jamAfter, h]

/-- Settles O11: a rise in STOPPED and a fall in RUN are each a change of the part state, and elsewhere the level alone moves. -/
theorem lineRunMovesThePart : Obligations.LineRunMovesThePart := by
  intro s
  refine ⟨fun hstopped hzero hcal => ?_, fun hrun => ?_, fun hidle => ⟨?_, ?_⟩⟩
  · refine ⟨_, exec_lineRunRise_stopped hstopped hzero hcal, rfl, rfl, ?_, jamAfter_run (setLineRun true s), rfl, rfl, rfl,
      .intro⟩
    simp only [changePart_event, setLineRun_frame, hstopped]
    rfl
  · refine ⟨_, exec_lineRunFall_run hrun, rfl, rfl, ?_, rfl, rfl, rfl, rfl, .intro⟩
    simp only [changePart_event, interruptWeighings_frame, setLineRun_frame, hrun]
    rfl
  · rcases hidle with h | h <;> simp [exec, execLineRunRise, h, setLineRun]
  · refine ⟨interruptWeighings (setLineRun false s), ?_, rfl, rfl, .intro⟩
    rcases hidle with h | h <;> simp [exec, execLineRunFall, h]

end Sys2Proof.Machine

namespace Sys2Proof.Machine

/-! PROOFS. The taken slots and the orders that the units keep: how a finish and a hold move both together, and the operations
that touch neither (R180, R182, R184 to R186). -/

/-! #### The taken slots against what the units keep -/

/-- The condition on the taken slots, of a list of them and of the slot that each unit keeps. -/
def TakenAs (taken : List (Slot × Owner)) (kept : Owner → Option Slot) : Prop :=
  (∀ slot owner, (slot, owner) ∈ taken ↔ kept owner = some slot) ∧ (taken.map (·.1)).Nodup ∧
  ¬((kept .weigh).isSome = true ∧ (kept .calibration).isSome = true)

theorem takenLegal_iff {s : State} : TakenLegal s ↔ TakenAs s.orders.taken (keptSlot s) := by
  simp [TakenLegal, TakenAs, keptSlot]

section TakenAs

variable {taken : List (Slot × Owner)} {kept : Owner → Option Slot} {slot : Slot} {owner : Owner}

/-- A slot belongs to one unit. -/
theorem TakenAs.owner_eq (h : TakenAs taken kept) {other : Owner} (hs : (slot, owner) ∈ taken)
    (ho : (slot, other) ∈ taken) : other = owner := by
  obtain ⟨-, hslots, -⟩ := h
  exact congrArg Prod.snd (List.inj_on_of_nodup_map hslots ho hs rfl)

/-- An order finished: its slot is given back and its unit keeps none (R185). -/
theorem TakenAs.finish (h : TakenAs taken kept) (hk : kept owner = some slot) :
    TakenAs (taken.filter (fun t => decide (t.1 ≠ slot))) (Function.update kept owner none) := by
  obtain ⟨hmem, hslots, hclass⟩ := id h
  refine ⟨fun x o => ?_, hslots.sublist (List.filter_sublist.map _), fun ⟨hw, hc⟩ => hclass ⟨?_, ?_⟩⟩
  · have hx : kept o = some x → o ≠ owner → x ≠ slot := by
      rintro ho hne rfl
      exact hne (h.owner_eq ((hmem x owner).mpr hk) ((hmem x o).mpr ho))
    by_cases ho : o = owner
    · subst ho
      simpa [hmem, hk] using fun heq => heq.symm
    · simpa [hmem, ho] using fun hkept => hx hkept ho
  · by_cases ho : Owner.weigh = owner <;> simp_all [Function.update_apply]
  · by_cases ho : Owner.calibration = owner <;> simp_all [Function.update_apply]

/-- An order held: its slot is taken by a unit that kept none, and no other order of the calibration class stands beside it
(R182, R186). -/
theorem TakenAs.hold (h : TakenAs taken kept) (hfree : ∀ x ∈ taken, x.1 ≠ slot) (hk : kept owner = none)
    (hclass : owner = .recipeAndLot ∨ kept .weigh = none ∧ kept .calibration = none) :
    TakenAs (taken ++ [(slot, owner)]) (Function.update kept owner (some slot)) := by
  obtain ⟨hmem, hslots, hbefore⟩ := h
  refine ⟨fun x o => ?_, ?_, ?_⟩
  · by_cases ho : o = owner
    · subst ho
      simp [hmem, hk, eq_comm]
    · simp [hmem, ho]
  · rw [List.map_append, List.nodup_append]
    exact ⟨hslots, List.nodup_singleton _, by simpa using fun x o hx => hfree (x, o) hx⟩
  · rcases hclass with rfl | ⟨hw, hc⟩
    · simpa using hbefore
    · cases owner <;> simp [hw, hc]

/-- Three units keep an order at most each, and of two of them only one (R186). -/
theorem TakenAs.length_le (h : TakenAs taken kept) : taken.length ≤ 2 := by
  obtain ⟨hmem, hslots, hclass⟩ := h
  have howners : (taken.map (·.2)).Nodup := by
    refine List.Nodup.map_on ?_ (List.Nodup.of_map _ hslots)
    rintro ⟨x, o⟩ hx ⟨y, _⟩ hy rfl
    rw [hmem] at hx hy
    rw [Option.some.inj (hx.symm.trans hy)]
  have hsome (o : Owner) (ho : o ∈ taken.map (·.2)) : (kept o).isSome = true := by
    obtain ⟨⟨x, _⟩, hx, rfl⟩ := List.mem_map.mp ho
    rw [(hmem x _).mp hx, Option.isSome_some]
  have htwo : ∃ o, taken.map (·.2) ⊆ [Owner.recipeAndLot, o] := by
    by_cases hw : (kept .weigh).isSome = true
    · exact ⟨.weigh, fun o ho => by cases o with
        | recipeAndLot | weigh => simp
        | calibration => exact absurd ⟨hw, hsome _ ho⟩ hclass⟩
    · exact ⟨.calibration, fun o ho => by cases o with
        | recipeAndLot | calibration => simp
        | weigh => exact absurd (hsome _ ho) hw⟩
  obtain ⟨o, hsub⟩ := htwo
  simpa using (howners.subperm hsub).length_le

end TakenAs

/-! #### The condition on a state -/

section TakenLegal

variable {s t : State} {slot : Slot} {owner : Owner}

/-- An operation that leaves the taken slots and what the three units keep. -/
theorem TakenLegal.of_kept (h : TakenLegal s)
    (hkept : t.orders.taken = s.orders.taken ∧ t.recipes.held = s.recipes.held ∧
      t.weigh.zeroSet.map (·.slot) = s.weigh.zeroSet.map (·.slot) ∧ t.cal.held = s.cal.held) : TakenLegal t := by
  obtain ⟨ht, hr, hw, hc⟩ := hkept
  have hkeeps : keptSlot t = keptSlot s := by
    funext o
    cases o with
    | recipeAndLot => exact hr
    | weigh => exact hw
    | calibration => exact hc
  rw [takenLegal_iff] at h ⊢
  rwa [ht, hkeeps]

/-- An operation that finishes the order that a unit keeps. -/
theorem TakenLegal.finish (h : TakenLegal s) (hk : keptSlot s owner = some slot)
    (ht : t.orders.taken = s.orders.taken.filter (fun x => decide (x.1 ≠ slot)))
    (hkept : keptSlot t = Function.update (keptSlot s) owner none) : TakenLegal t := by
  rw [takenLegal_iff] at h ⊢
  rw [ht, hkept]
  exact h.finish hk

/-- An operation that holds an order for a unit. -/
theorem TakenLegal.hold (h : TakenLegal s) (hfree : ∀ x ∈ s.orders.taken, x.1 ≠ slot) (hk : keptSlot s owner = none)
    (hclass : owner = .recipeAndLot ∨ keptSlot s .weigh = none ∧ keptSlot s .calibration = none)
    (ht : t.orders.taken = s.orders.taken ++ [(slot, owner)])
    (hkept : keptSlot t = Function.update (keptSlot s) owner (some slot)) : TakenLegal t := by
  rw [takenLegal_iff] at h ⊢
  rw [ht, hkept]
  exact h.hold hfree hk hclass

/-- The finish of an order that no unit keeps, as a refusal at the take and an order done at once end (R182). -/
theorem TakenLegal.finishOrder (h : TakenLegal s) (hfree : ∀ x ∈ s.orders.taken, x.1 ≠ slot) (o : Outcome)
    (detail : Word) : TakenLegal (finishOrder slot o detail s) :=
  h.of_kept ⟨List.filter_eq_self.mpr fun x hx => decide_eq_true (hfree x hx), by simp, by simp, by simp⟩

/-! #### What the operations on lots and on the Weigh Channel leave of what is kept -/

@[simp] theorem setLot_held (ref : RecipeRef) (l : Option Lot) (s : State) :
    (setLot ref l s).recipes.held = s.recipes.held := by
  cases ref <;> rfl

@[simp] theorem closeActiveLot_held (c : LotCause) (s : State) : (closeActiveLot c s).recipes.held = s.recipes.held := by
  obtain ⟨pos, hpos⟩ := closeActiveLot_recipes c s
  rw [hpos]

@[simp] theorem closeRetiringLot_held (c : LotCause) (s : State) : (closeRetiringLot c s).recipes.held = s.recipes.held := by
  obtain ⟨pos, hpos⟩ := closeRetiringLot_recipes c s
  rw [hpos]

@[simp] theorem reopenActiveLot_held (c : LotCause) (s : State) : (reopenActiveLot c s).recipes.held = s.recipes.held := by
  simp [reopenActiveLot]

@[simp] theorem lotLimitCheck_held (ref : RecipeRef) (d : Decision) (s : State) :
    (lotLimitCheck ref d s).recipes.held = s.recipes.held := by
  rw [lotLimitCheck_eq]
  split <;> simp

@[simp] theorem decideEntry_held (extra : BitVec 10) (e : Entry) (s : State) :
    (decideEntry extra e s).recipes.held = s.recipes.held := by simp [decideEntry]

@[simp] theorem decideIfDue_held (e : Entry) (s : State) : (decideIfDue e s).recipes.held = s.recipes.held := by
  unfold decideIfDue
  split <;> simp

@[simp] theorem recountLot_held (e : Entry) (ref : RecipeRef) (s : State) :
    (recountLot e ref s).recipes.held = s.recipes.held := by rw [recountLot_recipes]

@[simp] theorem forceEntry_held (e : Entry) (s : State) : (forceEntry e s).recipes.held = s.recipes.held := by
  simp [forceEntry]

@[simp] theorem settleAtEye_held (e : Entry) (s : State) : (settleAtEye e s).recipes.held = s.recipes.held := by
  unfold settleAtEye
  repeat' split
  all_goals simp

@[simp] theorem takeAtEye_held (e : Entry) (s : State) : (takeAtEye e s).recipes.held = s.recipes.held := by
  unfold takeAtEye
  dsimp only
  split <;> simp

@[simp] theorem trackPlatformOut_held (w : WeighResult) (s : State) :
    (trackPlatformOut w s).recipes.held = s.recipes.held := by
  unfold trackPlatformOut
  dsimp only
  split <;> simp

@[simp] theorem changePart_zeroSet (new : PartState) (why : ChangeReason) (s : State) :
    (changePart new why s).weigh.zeroSet = s.weigh.zeroSet := by simp [changePart]

@[simp] theorem zeroTrackSample_zeroSet (x : Sample) (s : State) :
    (zeroTrackSample x s).weigh.zeroSet = s.weigh.zeroSet := by rw [zeroTrackSample_weigh]

@[simp] theorem emptyPlatform_zeroSet (s : State) : (emptyPlatform s).weigh.zeroSet = s.weigh.zeroSet := rfl

@[simp] theorem closeOldest_zeroSet (rest : List Weighing) (s : State) :
    (closeOldest rest s).weigh.zeroSet = s.weigh.zeroSet := by
  unfold closeOldest
  split <;> simp

@[simp] theorem beginStoreWrite_held (kind : CalKind) (s : State) : (beginStoreWrite kind s).cal.held = s.cal.held := by
  simp [beginStoreWrite]

/-! #### The orders that end (R20, R27, R33, R158, R159) -/

theorem TakenLegal.endZeroSet (h : TakenLegal s) (o : Outcome) (detail : Word) : TakenLegal (endZeroSet o detail s) := by
  unfold Machine.endZeroSet
  split
  · exact h
  · next z hz =>
    refine h.finish (owner := .weigh) (slot := z.slot) (by simp [keptSlot, hz]) (by simp) (funext fun o => ?_)
    cases o <;> simp [keptSlot]

theorem TakenLegal.finishHeldCal (h : TakenLegal s) (o : Outcome) (detail : Word) :
    TakenLegal (finishHeldCal o detail s) := by
  unfold Machine.finishHeldCal
  split
  · exact h
  · next slot hheld =>
    refine h.finish (owner := .calibration) (slot := slot) hheld (by simp) (funext fun o => ?_)
    cases o <;> simp [keptSlot]

theorem TakenLegal.finishHeldChangeover (h : TakenLegal s) (o : Outcome) (detail : Word) :
    TakenLegal (finishHeldChangeover o detail s) := by
  unfold Machine.finishHeldChangeover
  split
  · exact h
  · next slot hheld =>
    refine h.finish (owner := .recipeAndLot) (slot := slot) hheld (by simp) (funext fun o => ?_)
    cases o <;> simp [keptSlot]

theorem TakenLegal.endCalAveraging (h : TakenLegal s) (o : Outcome) (detail : Word) :
    TakenLegal (endCalAveraging o detail s) := by
  unfold Machine.endCalAveraging
  split
  · exact h
  · have hremoved : TakenLegal { s with cal := { s.cal with averaging := none } } := h.of_kept (by simp)
    exact (hremoved.finishHeldCal o detail).of_kept (by simp)

theorem TakenLegal.abortStoreOrder (h : TakenLegal s) : TakenLegal (abortStoreOrder s) := by
  unfold Machine.abortStoreOrder
  split
  · exact h
  · exact h.finishHeldCal _ _

theorem TakenLegal.changePart (h : TakenLegal s) (new : PartState) (why : ChangeReason) : TakenLegal (changePart new why s) :=
  h.of_kept (by simp)

theorem TakenLegal.handCause (h : TakenLegal s) (c : Cause) : TakenLegal (handCause c s) := by
  have hstop : TakenLegal (enterFaultStop c s) :=
    ((TakenLegal.endZeroSet (h.of_kept (by simp)) _ _).endCalAveraging _ _).abortStoreOrder
  unfold Machine.handCause
  split
  · exact hstop
  · exact hstop
  · exact h

theorem TakenLegal.silentCheck (h : TakenLegal s) : TakenLegal (silentCheck s) := by
  unfold Machine.silentCheck
  split
  · exact h
  · exact h.handCause _

theorem TakenLegal.readinessTest (h : TakenLegal s) : TakenLegal (readinessTest s) := by
  unfold Machine.readinessTest
  dsimp only
  repeat' split
  · exact ((h.changePart _ _).endCalAveraging _ _).silentCheck
  · exact (h.changePart _ _).silentCheck
  · exact h

/-! #### The drain and the removals (R59, R158) -/

theorem TakenLegal.endDrain (h : TakenLegal s) (c : LotCause) (how : Nat) : TakenLegal (endDrain c how s) := by
  have hclosed : TakenLegal { closeRetiringLot c s with
      recipes := { (closeRetiringLot c s).recipes with retiring := none } } := h.of_kept (by simp)
  exact (hclosed.finishHeldChangeover .done (boundaryWord s)).of_kept ⟨rfl, rfl, rfl, rfl⟩

theorem TakenLegal.drainCheck (h : TakenLegal s) : TakenLegal (drainCheck s) := by
  unfold Machine.drainCheck
  split
  · exact h.endDrain _ _
  · exact h

theorem TakenLegal.removeWithDrain (h : TakenLegal s) (e : Entry) (d : Disposition) : TakenLegal (removeWithDrain e d s) :=
  TakenLegal.drainCheck (h.of_kept (by simp))

theorem TakenLegal.makeRoom (h : TakenLegal s) : TakenLegal (makeRoom s) := by
  unfold Machine.makeRoom
  repeat' split
  · exact h
  · next v _ => exact (h.removeWithDrain v .dropped).of_kept (by simp)
  · exact h

theorem TakenLegal.loseEntries (h : TakenLegal s) (lost : List Entry) : TakenLegal (loseEntries lost s) := by
  induction lost generalizing s with
  | nil => exact h
  | cons x l ih => exact ih (h.removeWithDrain x .lostInTransit)

end TakenLegal

end Sys2Proof.Machine

namespace Sys2Proof.Machine

/-! PROOFS. The taken slots under the reads, the platform, the filler link and the averagings (R1, R21, R28 to R33, R43 to R55,
R144 to R159). -/

section TakenLegal

variable {s : State}

/-! #### The reads and the platform -/

theorem TakenLegal.resolveRead (h : TakenLegal s) (p : PendingRead) (m : ReadMessage) : TakenLegal (resolveRead p m s).1 := by
  cases hbound : p.bound with
  | some serial =>
    rw [resolveRead_bound hbound]
    unfold resolveLate
    split
    · exact h
    · exact h.of_kept (by simp)
  | none =>
    cases m with
    | noRead =>
      rw [resolveRead_unbound hbound]
      unfold bindByPosition
      split
      · exact h.of_kept (by simp)
      · exact h.makeRoom.of_kept (by simp)
    | code text mark grade =>
      rw [resolveRead_code hbound]
      unfold bindByMark
      dsimp only
      split
      · exact (h.loseEntries ((searchWindow s).takeWhile fun x => decide (passMark x ≠ mark))).of_kept (by simp)
      · exact h.makeRoom.of_kept (by simp)

theorem TakenLegal.takeReadResult (h : TakenLegal s) (m : ReadMessage) : TakenLegal (takeReadResult m s) := by
  unfold Machine.takeReadResult
  repeat' split
  · exact h.of_kept (by simp)
  · exact TakenLegal.resolveRead (h.of_kept (by simp)) _ m
  · exact h

theorem TakenLegal.readerTake (h : TakenLegal s) (c : Byte) : TakenLegal (readerTake c s) := by
  unfold Machine.readerTake readerEnd takeMessage
  repeat' split
  · exact h
  · exact TakenLegal.takeReadResult (h.of_kept (by simp)) _
  · exact TakenLegal.takeReadResult (h.of_kept (by simp)) _
  · exact TakenLegal.takeReadResult (h.of_kept (by simp)) _
  · exact TakenLegal.takeReadResult (h.of_kept (by simp)) _
  · exact TakenLegal.takeReadResult (h.of_kept (by simp)) _
  · exact h
  · exact h.of_kept (by simp)
  · exact h

theorem TakenLegal.makeReadRoom (h : TakenLegal s) : TakenLegal (makeReadRoom s) := by
  unfold Machine.makeReadRoom
  dsimp only
  repeat' split
  · exact h
  · next p rest _ _ =>
    have hleft : TakenLegal (setReads rest s) := h.of_kept (by simp)
    exact (hleft.resolveRead p .noRead).of_kept (by simp)
  · exact h

theorem TakenLegal.trackPlatformIn (h : TakenLegal s) : TakenLegal (trackPlatformIn s) := by
  unfold Machine.trackPlatformIn bindEarly createAtPlatform
  dsimp only
  repeat' split
  · exact h.of_kept (by simp)
  · exact h.of_kept (by simp)
  · exact h.makeRoom.of_kept (by simp)
  · exact h.makeRoom.of_kept (by simp)

/-! #### The filler link -/

theorem TakenLegal.takeDischarge (h : TakenLegal s) (valve : Byte) (g : Gen) : TakenLegal (takeDischarge valve g s) := by
  unfold Machine.takeDischarge
  repeat' split
  · next v _ => exact (h.removeWithDrain v .dropped).of_kept (by simp)
  · exact h.of_kept (by simp)
  · exact h.of_kept (by simp)

/-- The swap moves the recipes and leaves the order held; its drain check may end it at once (R157, R158). -/
theorem TakenLegal.swap (h : TakenLegal s) (b : Gen) : TakenLegal (swap b s) :=
  TakenLegal.drainCheck (h.of_kept (by simp [retireLot]))

theorem TakenLegal.ageValves (h : TakenLegal s) (g : Gen) : TakenLegal (ageValves g s) := h.of_kept (by simp)

theorem TakenLegal.serve (h : TakenLegal s) (m : Message) (res : AckResult) : TakenLegal (serve m res s) := by
  unfold Machine.serve
  dsimp only
  split
  · exact (TakenLegal.swap (h.of_kept (by simp)) _).ageValves _
  · exact TakenLegal.ageValves (h.of_kept (by simp)) _

theorem TakenLegal.refuse (h : TakenLegal s) (m : Message) : TakenLegal (refuse m s) := by
  unfold Machine.refuse refuseChangeover
  dsimp only
  split
  · exact TakenLegal.finishHeldChangeover (h.of_kept (by simp)) _ _
  · exact h.of_kept (by simp)

theorem TakenLegal.takeAck (h : TakenLegal s) (g : Gen) (res : AckResult) : TakenLegal (takeAck g res s) := by
  unfold Machine.takeAck
  repeat' split
  · exact h.of_kept (by simp)
  · exact h.refuse _
  · exact h.serve _ _
  · exact h.of_kept (by simp)

theorem TakenLegal.settleFrame (h : TakenLegal s) (f : Frame) : TakenLegal (settleFrame f s) := by
  unfold Machine.settleFrame
  repeat' split
  · exact h.of_kept (by simp)
  · exact h.takeDischarge _ _
  · exact h
  · exact h.takeAck _ _
  · exact h

/-- Of the characters of a frame only the check byte that completes it reaches the orders. -/
theorem TakenLegal.fillerTake (h : TakenLegal s) (b : Byte) : TakenLegal (fillerTake b s) := by
  unfold Machine.fillerTake
  dsimp only
  split
  · split
    · split <;> exact h.of_kept (by simp)
    · exact h.of_kept (by simp)
    · exact h.of_kept (by simp)
    · split <;> exact h.of_kept (by simp)
    · exact TakenLegal.settleFrame (h.of_kept (by simp)) _
  · exact h

/-! #### The averagings and the store write -/

theorem TakenLegal.finishZeroSet {z : ZeroSet} (h : TakenLegal s) (hz : s.weigh.zeroSet = some z) (o : Outcome)
    (detail : Int) : TakenLegal (finishZeroSet z.slot o detail s) := by
  refine h.finish (owner := .weigh) (slot := z.slot) (by simp [keptSlot, hz]) (by simp [Machine.finishZeroSet])
    (funext fun o => ?_)
  cases o <;> simp [keptSlot, Machine.finishZeroSet]

theorem TakenLegal.completeZeroSet {z : ZeroSet} (h : TakenLegal s) (hz : s.weigh.zeroSet = some z) (avg : Averaging) :
    TakenLegal (completeZeroSet { z with avg := avg } s) := by
  unfold Machine.completeZeroSet
  dsimp only
  repeat' split
  · exact h.finishZeroSet hz _ _
  · exact h.finishZeroSet hz _ _
  · exact h.finishZeroSet hz _ _
  · have hmoved : TakenLegal { s with weigh := { s.weigh with z := roundAway avg.sum 64, refusals := 0 } } :=
      h.of_kept (by simp)
    exact hmoved.finishZeroSet hz .done (roundAway avg.sum 64)

theorem TakenLegal.zeroSetSample (h : TakenLegal s) (x : Sample) : TakenLegal (zeroSetSample x s) := by
  unfold Machine.zeroSetSample
  dsimp only
  split
  · exact h
  · next z hz =>
    split
    · exact h.of_kept ⟨rfl, rfl, by simp [hz], rfl⟩
    · exact h.completeZeroSet hz _

theorem TakenLegal.beginStoreWrite (h : TakenLegal s) (kind : CalKind) : TakenLegal (beginStoreWrite kind s) :=
  h.of_kept (by simp)

theorem TakenLegal.setCalState (h : TakenLegal s) (c : CalState) : TakenLegal (setCalState c s) :=
  TakenLegal.readinessTest (h.of_kept (by simp))

theorem TakenLegal.setCalZero (h : TakenLegal s) (mean : Int) (limit : Nat) : TakenLegal (setCalZero mean limit s) := by
  unfold Machine.setCalZero
  dsimp only
  split
  · exact TakenLegal.setCalState (h.of_kept (by simp)) _
  · exact h.of_kept (by simp)

theorem TakenLegal.setCalSpan (h : TakenLegal s) (f : Nat) : TakenLegal (setCalSpan f s) := by
  unfold Machine.setCalSpan
  dsimp only
  split
  · exact h.of_kept (by simp)
  · exact TakenLegal.setCalState (h.of_kept (by simp)) _

/-- A calibration whose averaging completes finishes its order at once, or keeps it until the store write ends (R28 to
R31). -/
theorem TakenLegal.completeCal (h : TakenLegal s) (c : CalAveraging) : TakenLegal (completeCal c s) := by
  have hremoved : TakenLegal (calAveragingRemoved s) := h.of_kept ⟨rfl, rfl, rfl, rfl⟩
  rcases completeCal_ends c s with ⟨o, detail, heq⟩ | ⟨mean, heq⟩ | ⟨f, heq⟩ <;> rw [heq]
  · exact hremoved.finishHeldCal o detail
  · exact (hremoved.setCalZero mean c.arg).beginStoreWrite .zero
  · exact (hremoved.setCalSpan f).beginStoreWrite .span

theorem TakenLegal.calSample (h : TakenLegal s) (x : Sample) : TakenLegal (calSample x s) := by
  unfold Machine.calSample
  dsimp only
  repeat' split
  · exact h
  · exact h.of_kept (by simp)
  · exact h.completeCal _

theorem TakenLegal.storeSaved (h : TakenLegal s) : TakenLegal (storeSaved s) :=
  TakenLegal.finishHeldCal (h.of_kept (by simp)) _ _

theorem TakenLegal.storeFailed (h : TakenLegal s) (how : Nat) : TakenLegal (storeFailed how s) :=
  TakenLegal.finishHeldCal (h.of_kept (by simp)) _ _

end TakenLegal

end Sys2Proof.Machine

namespace Sys2Proof.Machine

/-! PROOFS. The taken slots under the orders, the host and every command (R180 to R190). -/

section TakenLegal

variable {s t : State} {slot : Slot}

/-! #### The orders at their take -/

/-- The end of a drain gives slots back and takes none. -/
theorem endDrain_taken_subset (c : LotCause) (how : Nat) (s : State) :
    (endDrain c how s).orders.taken ⊆ s.orders.taken := by
  unfold endDrain finishHeldChangeover
  dsimp only
  split <;> simp

theorem TakenLegal.changeoverInConfig (h : TakenLegal s) (hfree : ∀ x ∈ s.orders.taken, x.1 ≠ slot) (r : Recipe) :
    TakenLegal (changeoverInConfig r slot s) :=
  TakenLegal.readinessTest (TakenLegal.finishOrder (h.of_kept (by simp [unsync])) (by simpa using hfree) _ _)

theorem TakenLegal.orderChangeover (h : TakenLegal s) (hfree : ∀ x ∈ s.orders.taken, x.1 ≠ slot) :
    TakenLegal (orderChangeover slot s) := by
  unfold Machine.orderChangeover
  split
  · exact h.finishOrder hfree _ _
  next hidle =>
  repeat' split
  · exact h.finishOrder hfree _ _
  · exact h.changeoverInConfig hfree _
  · have hheld : s.recipes.held = none := by simp_all
    refine h.hold (owner := .recipeAndLot) hfree hheld (.inl rfl) rfl (funext fun o => ?_)
    cases o <;> simp [keptSlot, changeoverOnLine]

/-- An order of the calibration class is let through only where no other is in progress (R183, R186). -/
theorem class_free_of_orderFailure {k : OrderKind} (h : orderFailure k s slot = none) (hk : k.calClass = true) :
    keptSlot s .weigh = none ∧ keptSlot s .calibration = none := by
  have hidle : calClassBusy s = false := by
    unfold orderFailure at h
    split_ifs at h with _ _ _ _ hbusy
    simpa [hk] using hbusy
  simp [calClassBusy] at hidle
  simp [keptSlot, hidle]

theorem TakenLegal.orderZeroSet (h : TakenLegal s) (hfree : ∀ x ∈ s.orders.taken, x.1 ≠ slot)
    (hclass : keptSlot s .weigh = none ∧ keptSlot s .calibration = none) : TakenLegal (orderZeroSet slot s) := by
  unfold Machine.orderZeroSet
  split
  · refine h.hold (owner := .weigh) hfree hclass.1 (.inr hclass) rfl (funext fun o => ?_)
    cases o <;> simp [keptSlot]
  · exact h.finishOrder hfree _ _

theorem TakenLegal.beginCalAveraging (h : TakenLegal s) (hfree : ∀ x ∈ s.orders.taken, x.1 ≠ slot)
    (hclass : keptSlot s .weigh = none ∧ keptSlot s .calibration = none) (kind : CalKind) :
    TakenLegal (beginCalAveraging kind slot s) := by
  refine h.hold (owner := .calibration) hfree hclass.2 (.inr hclass) rfl (funext fun o => ?_)
  cases o <;> simp [keptSlot, Machine.beginCalAveraging]

theorem TakenLegal.orderCalZero (h : TakenLegal s) (hfree : ∀ x ∈ s.orders.taken, x.1 ≠ slot)
    (hclass : keptSlot s .weigh = none ∧ keptSlot s .calibration = none) : TakenLegal (orderCalZero slot s) := by
  unfold Machine.orderCalZero
  split
  · exact h.beginCalAveraging hfree hclass _
  · exact h.finishOrder hfree _ _

theorem TakenLegal.orderTrackFlush (h : TakenLegal s) (hfree : ∀ x ∈ s.orders.taken, x.1 ≠ slot) :
    TakenLegal (orderTrackFlush slot s) := by
  have hempty : TakenLegal (emptyPlatform (setReads [] (flushEntries s))) := h.of_kept (by simp)
  have hsame : (emptyPlatform (setReads [] (flushEntries s))).orders.taken = s.orders.taken := by simp
  unfold Machine.orderTrackFlush
  dsimp only
  split
  · exact (hempty.endDrain _ _).finishOrder (fun x hx => hfree x (hsame ▸ endDrain_taken_subset _ _ _ hx)) _ _
  · exact hempty.finishOrder (by rwa [hsame]) _ _

theorem TakenLegal.orderFaultClear (h : TakenLegal s) (hfree : ∀ x ∈ s.orders.taken, x.1 ≠ slot) :
    TakenLegal (orderFaultClear slot s) :=
  TakenLegal.silentCheck (TakenLegal.finishOrder (h.of_kept (by simp)) (by simpa using hfree) _ _)

/-- An order that the checks let through is held by its unit or done at once (R184). -/
theorem TakenLegal.handOver {k : OrderKind} (h : TakenLegal s) (hfree : ∀ x ∈ s.orders.taken, x.1 ≠ slot)
    (hk : orderFailure k s slot = none) : TakenLegal (handOver k slot s) := by
  cases k with
  | changeover => exact h.orderChangeover hfree
  | zeroSet => exact h.orderZeroSet hfree (class_free_of_orderFailure hk rfl)
  | calZero => exact h.orderCalZero hfree (class_free_of_orderFailure hk rfl)
  | calSpan => exact h.beginCalAveraging hfree (class_free_of_orderFailure hk rfl) .span
  | trackFlush => exact h.orderTrackFlush hfree
  | faultClear => exact h.orderFaultClear hfree
  | lotClose => exact TakenLegal.finishOrder (h.of_kept (by simp)) (by simpa using hfree) _ _
  | valveLock => exact TakenLegal.finishOrder (h.of_kept (by simp)) (by simpa using hfree) _ _
  | valveRelease => exact TakenLegal.finishOrder (by split <;> exact h.of_kept (by simp)) (by split <;> simpa using hfree) _ _
  | valveTrim => exact TakenLegal.finishOrder (by split <;> exact h.of_kept (by simp)) (by split <;> simpa using hfree) _ _
  | loopSet => exact TakenLegal.finishOrder (h.of_kept (by simp)) (by simpa using hfree) _ _
  | snapshot => exact TakenLegal.finishOrder (h.of_kept (by simp)) (by simpa using hfree) _ _

theorem TakenLegal.takeOrder (h : TakenLegal s) (hfree : ∀ x ∈ s.orders.taken, x.1 ≠ slot) :
    TakenLegal (takeOrder slot s) := by
  unfold Machine.takeOrder
  repeat' split
  · exact h.finishOrder hfree _ _
  · exact h.finishOrder hfree _ _
  · next hk => exact h.handOver hfree hk

theorem TakenLegal.examineSlot (h : TakenLegal s) (slot : Slot) : TakenLegal (examineSlot slot s) := by
  by_cases hposted : Posted slot s
  · obtain ⟨-, hfree⟩ := id hposted
    rw [examineSlot_of_posted hposted]
    exact h.takeOrder hfree
  · rwa [examineSlot_of_not_posted hposted]

theorem TakenLegal.scanSlots (h : TakenLegal s) : TakenLegal (scanSlots s) := by
  unfold Machine.scanSlots
  induction scanOrder generalizing s with
  | nil => exact h
  | cons slot l ih => exact ih (h.examineSlot slot)

/-! #### The host -/

theorem TakenLegal.trackAtRestart (h : TakenLegal s) : TakenLegal (trackAtRestart s) := by
  have hqueue : TakenLegal (restartQueue { s with part := { s.part with cause := none, stopReq := false } }) :=
    h.of_kept (by simp)
  have hcal := ((hqueue.endZeroSet .aborted 0).endCalAveraging .aborted 0).abortStoreOrder
  exact hcal.of_kept (by simp [Machine.trackAtRestart, calOrdersAtRestart, weighAtRestart])

/-- The Recipe and Lot Unit at RESTART ends the CHANGEOVER held; the lots that close and open keep no order (R167, R191). -/
theorem TakenLegal.recipesAtRestart (h : TakenLegal s) : TakenLegal (recipesAtRestart s) := by
  have hdropped : TakenLegal (dropChangeover s) := (h.finishHeldChangeover .aborted 0).of_kept ⟨rfl, rfl, rfl, rfl⟩
  have hretired : TakenLegal (retireAtRestart (dropChangeover s)) := by
    unfold retireAtRestart
    split
    · exact hdropped.of_kept (by simp)
    · exact hdropped
  rw [recipesAtRestart_eq, reopenAtRestart]
  split
  · exact hretired.of_kept (by simp)
  · exact hretired

theorem TakenLegal.restartPart (h : TakenLegal s) : TakenLegal (restartPart s) := by
  have hblocks : TakenLegal (restartBlocks s) := by
    rw [restartBlocks_eq]
    exact h.trackAtRestart.recipesAtRestart.of_kept (by simp)
  exact (hblocks.changePart _ _).silentCheck

theorem TakenLegal.hostWrite (h : TakenLegal s) (addr value : Word) : TakenLegal (hostWrite addr value s) := by
  unfold Machine.hostWrite writeControl
  repeat' split
  · exact h
  · exact h.of_kept (by simp)
  · exact h.restartPart
  · exact h
  · exact h.of_kept (by simp)
  · exact h.of_kept (by simp)
  · exact h

/-! #### The commands -/

theorem TakenLegal.sampleArrival (h : TakenLegal s) (count : BitVec 24) (ht : exec (.sampleArrival count) s = .next t) :
    TakenLegal t := by
  have htaken : TakenLegal (zeroTrackSample (sampleOf count s.exch.timeTag) (takeSample (sampleOf count s.exch.timeTag) s)) :=
    h.of_kept (by simp)
  cases ht
  split
  · exact (htaken.zeroSetSample _).calSample _
  · exact h

theorem TakenLegal.platformInArrival (h : TakenLegal s) (ht : exec .platformInArrival s = .next t) : TakenLegal t := by
  have hopened : TakenLegal (openPlatform s) := h.of_kept (by simp [openPlatform])
  cases ht
  repeat' split
  · exact h.of_kept (by simp)
  · exact ((hopened.endZeroSet _ _).endCalAveraging _ _).trackPlatformIn
  · exact h.endCalAveraging _ _
  · exact h

theorem TakenLegal.storeReadEnd (h : TakenLegal s) (bytes : List Byte) (ht : exec (.storeReadEnd bytes) s = .next t) :
    TakenLegal t := by
  cases ht
  repeat' split
  · exact h.of_kept (by simp [takeRecord, recordCal])
  · exact h.of_kept (by simp)
  · exact h

theorem TakenLegal.lineRunRise (h : TakenLegal s) (ht : exec .lineRunRise s = .next t) : TakenLegal t := by
  have hlevel : TakenLegal (setLineRun true s) := h.of_kept (by simp)
  cases ht
  split
  · exact ((hlevel.endZeroSet _ _).endCalAveraging _ _).changePart _ _
  · exact hlevel

theorem TakenLegal.lineRunFall (h : TakenLegal s) (ht : exec .lineRunFall s = .next t) : TakenLegal t := by
  have hlevel : TakenLegal (interruptWeighings (setLineRun false s)) := h.of_kept (by simp [interruptWeighings])
  cases ht
  split
  · exact hlevel.changePart _ _
  · exact hlevel

theorem TakenLegal.confirmEyeArrival (h : TakenLegal s) (ht : exec .confirmEyeArrival s = .next t) : TakenLegal t := by
  cases ht
  repeat' split
  · exact h.of_kept (by simp)
  · next e _ _ =>
    unfold rejectFailed
    exact TakenLegal.handCause ((h.removeWithDrain e .rejectFailed).of_kept (by simp)) _
  · exact h.removeWithDrain _ _
  · exact h

theorem TakenLegal.settleDeadline (h : TakenLegal s) (e : Entry) : TakenLegal (settleDeadline e s) := by
  unfold Machine.settleDeadline
  split
  · exact h.removeWithDrain _ _
  · exact TakenLegal.removeWithDrain (h.of_kept (by simp)) _ _

theorem TakenLegal.passUnit (h : TakenLegal s) : TakenLegal (passUnit s) := by
  have hheld : (tickRecipes s).held = s.recipes.held := by
    unfold tickRecipes
    repeat' split
    all_goals rfl
  exact h.of_kept ⟨rfl, hheld, rfl, rfl⟩

theorem TakenLegal.tick (h : TakenLegal s) : TakenLegal (tick s) := by
  unfold Machine.tick
  split
  · exact h.of_kept (by simp)
  · exact h.passUnit.of_kept ⟨rfl, rfl, rfl, rfl⟩

theorem takenLegal_exec (c : Instr) (h : TakenLegal s) (ht : exec c s = .next t) : TakenLegal t := by
  cases c with
  | fullReset => cases ht; exact takenLegal_reset.of_kept ⟨rfl, rfl, rfl, rfl⟩
  | clearingComplete =>
    cases ht
    split
    · exact h.of_kept (by simp)
    · exact h
  | storeReadEnd bytes => exact h.storeReadEnd bytes ht
  | restart value => cases ht; exact h.hostWrite _ _
  | noticeClear value => cases ht; exact h.hostWrite _ _
  | noticeMaskWrite value => cases ht; exact h.hostWrite _ _
  | registerWriteIgnored addr value => cases ht; exact h.hostWrite _ _
  | hostMemoryWrite addr value => cases ht; exact h.hostWrite _ _
  | sampleArrival count => exact h.sampleArrival count ht
  | storeWriteCompared readBack =>
    cases ht
    repeat' split
    · exact h
    · exact h.storeSaved
    · exact h.storeFailed _
  | storeTimerExpiry =>
    cases ht
    split
    · exact h.storeFailed _
    · exact h
  | converterWatchExpiry =>
    cases ht
    split
    · exact TakenLegal.handCause (h.of_kept (by simp)) _
    · exact h
  | platformInArrival => exact h.platformInArrival ht
  | platformOutArrival =>
    cases ht
    repeat' split
    all_goals exact h.of_kept (by simp)
  | lineRunRise => exact h.lineRunRise ht
  | lineRunFall => exact h.lineRunFall ht
  | jamTimerExpiry =>
    cases ht
    repeat' split
    · exact TakenLegal.handCause (h.of_kept (by simp)) _
    · exact h
    · exact h
  | calSwitchOff => cases ht; exact TakenLegal.endCalAveraging (h.of_kept (by simp)) _ _
  | readerEyeArrival =>
    cases ht
    split
    · exact h.makeReadRoom.of_kept (by simp)
    · exact h
  | readDeadlineExpiry =>
    cases ht
    repeat' split
    · exact h
    · exact TakenLegal.resolveRead (h.of_kept (by simp)) _ _
    · exact h
  | readerMessage => cases ht; exact h.readerTake _
  | readerOverlong c => cases ht; exact h.readerTake _
  | readerCharacter c => cases ht; exact h.readerTake _
  | dischargeFrame b => cases ht; exact h.fillerTake _
  | doseAckFrame b => cases ht; exact h.fillerTake _
  | fillerBufferOverrun b => cases ht; exact h.fillerTake _
  | fillerCharacter b => cases ht; exact h.fillerTake _
  | badFrameCompleted b => cases ht; exact h.fillerTake _
  | fillerErroredCharacter c =>
    cases ht
    unfold fillerReceive
    split
    · exact h.of_kept (by simp)
    · exact h.fillerTake _
  | confirmEyeArrival => exact h.confirmEyeArrival ht
  | pastRejectDeadlineExpiry =>
    cases ht
    repeat' split
    · exact h
    · exact h.settleDeadline _
    · exact h
  | lotMinuteStep =>
    cases ht
    unfold minuteStep
    repeat' split
    all_goals exact h.of_kept (by simp)
  | orderScan switchOn =>
    have hnoted : TakenLegal (noteSwitch switchOn s) := h.of_kept (by simp)
    cases ht
    split
    · exact TakenLegal.scanSlots (hnoted.of_kept (by simp))
    · exact hnoted
  | refusalHoldoffExpiry | timeWrap | readerFramingError brk | gapTimerExpiry | transmitFrameEnd | fillerIndexArrival
  | ackTimerExpiry | rejectEyeArrival | pulseTimerExpiry | breakEnd link =>
    cases ht
    repeat' split
    all_goals exact h.of_kept (by simp)

theorem takenLegal_step (h : TakenLegal s) (ht : step s = .next t) : TakenLegal t := by
  obtain rfl | ⟨c, rest, hc⟩ := step_cases ht
  · exact h.tick
  · exact takenLegal_exec c (s := { s with pending := rest }) (h.of_kept ⟨rfl, rfl, rfl, rfl⟩) hc

end TakenLegal

/-- Settles O57: every command moves the taken slots together with what the units keep, and three units of which two exclude
each other keep at most two. -/
theorem everyStepKeepsTheTakenOrders : Obligations.EveryStepKeepsTheTakenOrders := by
  intro s t h ht
  have hlegal := takenLegal_step h ht
  exact ⟨hlegal, (takenLegal_iff.mp hlegal).length_le⟩

end Sys2Proof.Machine

namespace Sys2Proof.Machine

/-! PROOFS. The finish of an order, and the checks at the take against their table (R182, R183, R185). -/

/-- Settles O4: the words of the slot by `finishSlot_read`, the taken slots by the filter that gives the slot back. -/
theorem anOrderFinishWritesItsSlot : Obligations.AnOrderFinishWritesItsSlot := by
  intro slot o detail s t line
  have hread (a : Nat) : t.exch.read a = if a = line then wordOfNat o.slotState
      else if line + 8 ≤ a ∧ a < line + 11 then [wordOfNat o.code, detail, s.exch.timeTag].getD (a - (line + 8)) 0
      else s.exch.read a := s.exch.finishSlot_read slot o detail a
  have hword {n : Nat} (hn : n < 3) :
      t.exch.read (line + 8 + n) = [wordOfNat o.code, detail, s.exch.timeTag].getD n 0 := by
    rw [hread, if_neg (by omega), if_pos (by omega), Nat.add_sub_cancel_left]
  have hstate : t.exch.read line = wordOfNat o.slotState := by rw [hread, if_pos rfl]
  have hframe : ChangesOnly [.orders, .exch] s (finishOrder slot o detail s) := .intro
  refine ⟨hword (n := 0) (by decide), hword (n := 1) (by decide), hword (n := 2) (by decide), fun hdone => ?_,
    fun hd hu => ?_, fun a hne hout => ?_, rfl, rfl, rfl, rfl, fun x => ?_, rfl, hframe⟩
  · rw [hstate]
    rcases hdone with rfl | rfl <;> rfl
  · rw [hstate]
    cases o with
    | done => exact absurd rfl hd
    | doneUnsaved => exact absurd rfl hu
    | _ => rfl
  · rw [hread, if_neg hne, if_neg (by omega)]
  · simp [t]

/-! #### The table of the kinds (R183) -/

/-- The code of a kind. -/
def OrderKind.code : OrderKind → Nat
  | .changeover => 1
  | .lotClose => 2
  | .zeroSet => 3
  | .calZero => 4
  | .calSpan => 5
  | .valveLock => 6
  | .valveRelease => 7
  | .valveTrim => 8
  | .loopSet => 9
  | .snapshot => 10
  | .trackFlush => 11
  | .faultClear => 12

theorem orderKindOf_of_code {w : Word} {k : OrderKind} (h : w.toNat = k.code) : orderKindOf w = some k := by
  unfold orderKindOf
  rw [h]
  cases k <;> rfl

theorem orderKindOf_eq_none {w : Word} (h : ¬(1 ≤ w.toNat ∧ w.toNat ≤ 12)) : orderKindOf w = none := by
  unfold orderKindOf
  split
  case h_13 => rfl
  all_goals omega

/-- The kinds in the order of their codes. -/
def OrderKind.all : List OrderKind :=
  [.changeover, .lotClose, .zeroSet, .calZero, .calSpan, .valveLock, .valveRelease, .valveTrim, .loopSet, .snapshot,
    .trackFlush, .faultClear]

/-- The part states that a kind allows, as a list. -/
def OrderKind.allowedStates (k : OrderKind) : List PartState :=
  [.clearing, .loading, .config, .stopped, .run, .faultStop].filter k.allowedIn

theorem OrderKind.mem_allowedStates {k : OrderKind} {p : PartState} : p ∈ k.allowedStates ↔ k.allowedIn p = true := by
  cases p <;> simp [OrderKind.allowedStates]

section Checks

variable {k : OrderKind} {slot : Slot} {s : State}

theorem OrderKind.needsSwitch_iff : k.needsSwitch = true ↔ k.code = 4 ∨ k.code = 5 := by
  cases k <;> decide

theorem OrderKind.admittedBy_iff {c : CalState} :
    k.admittedBy c = true ↔ (k.code = 3 → c = .valid) ∧ (k.code = 5 → c ≠ .none) := by
  cases k <;> simp [OrderKind.admittedBy, OrderKind.code]

theorem OrderKind.calClass_iff : k.calClass = true ↔ k.code = 3 ∨ k.code = 4 ∨ k.code = 5 := by
  cases k <;> decide

theorem withinV_eq_true {v : Nat} : withinV s v = true ↔ ∃ r, s.recipes.active = some r ∧ 1 ≤ v ∧ v ≤ r.valveCount := by
  cases h : s.recipes.active <;> simp [withinV, h]

theorem OrderKind.argsIn_iff : k.argsIn s slot = true ↔
    (k.code = 4 → (slotArg1 s slot).toNat ≤ 200000) ∧
    (k.code = 5 → 1000 ≤ (slotArg1 s slot).toNat ∧ (slotArg1 s slot).toNat ≤ 2000000) ∧
    (k.code = 9 → (slotArg1 s slot).toNat ≤ 1) ∧
    (k.code = 6 ∨ k.code = 7 ∨ k.code = 8 →
      ∃ r, s.recipes.active = some r ∧ 1 ≤ (slotArg1 s slot).toNat ∧ (slotArg1 s slot).toNat ≤ r.valveCount) := by
  cases k <;> simp [OrderKind.argsIn, OrderKind.code, inRange, withinV_eq_true]

theorem calClassBusy_iff : calClassBusy s = true ↔
    s.weigh.zeroSet.isSome = true ∨ s.cal.held.isSome = true ∨ s.cal.store ≠ .idle := by
  cases h : s.cal.store <;> simp [calClassBusy, StoreState.isWriting, h]

/-- Steps 2 to 6 of R183 in their order: each answers where it fails and the ones before it pass. -/
theorem orderFailure_first (k : OrderKind) (slot : Slot) (s : State) :
    let y2 := k.allowedIn s.part.state = true
    let y3 := k.needsSwitch = true → s.pins.calSwitch = true
    let y4 := k.admittedBy s.cal.state = true
    let y5 := k.argsIn s slot = true
    (¬y2 → orderFailure k s slot = some (.wrongState, wordOfNat s.part.state.code)) ∧
    (y2 → ¬y3 → orderFailure k s slot = some (.switchOff, 0)) ∧
    (y2 → y3 → ¬y4 → orderFailure k s slot = some (.calInvalid, wordOfNat s.cal.state.code)) ∧
    (y2 → y3 → y4 → ¬y5 → orderFailure k s slot = some (.badArg, 1)) ∧
    (y2 → y3 → y4 → y5 → k.calClass = true ∧ calClassBusy s = true → orderFailure k s slot = some (.busy, 0)) := by
  simp +contextual [orderFailure]

/-- A check that fails finishes the order with its reason and detail (R182). -/
theorem takeOrder_of_failure {o : Outcome} {detail : Word} (hk : orderKindOf (slotWord s slot 1) = some k)
    (hf : orderFailure k s slot = some (o, detail)) : takeOrder slot s = finishOrder slot o detail s := by
  simp only [takeOrder, hk, hf]

end Checks

/-- Settles O45: the table of the statement is that of the kinds, and each check of `orderFailure` fails where its clause says. -/
theorem theFirstFailedCheckRefusesAnOrder : Obligations.TheFirstFailedCheckRefusesAnOrder := by
  intro slot code allowed s word line kinds arg ok2 ok3 ok4 ok5 busy t
  refine ⟨fun hnone => ?_, fun hcode hmem => ?_⟩
  · have hkind : orderKindOf (slotWord s slot 1) = none := orderKindOf_eq_none hnone
    simp only [t, takeOrder, hkind]
    rfl
  have htable : (code, allowed) ∈ OrderKind.all.map (fun k => (k.code, k.allowedStates)) := hmem
  obtain ⟨k, -, hk⟩ := List.mem_map.mp htable
  obtain ⟨rfl, rfl⟩ := Prod.mk.inj hk
  have hkind : orderKindOf (slotWord s slot 1) = some k := orderKindOf_of_code hcode
  have h2 : k.allowedIn s.part.state = true ↔ ok2 := OrderKind.mem_allowedStates.symm
  have h3 : (k.needsSwitch = true → s.pins.calSwitch = true) ↔ ok3 := by rw [OrderKind.needsSwitch_iff]
  have h4 : k.admittedBy s.cal.state = true ↔ ok4 := OrderKind.admittedBy_iff
  have h5 : k.argsIn s slot = true ↔ ok5 := OrderKind.argsIn_iff
  have h6 : k.calClass = true ∧ calClassBusy s = true ↔ (k.code = 3 ∨ k.code = 4 ∨ k.code = 5) ∧ busy :=
    and_congr OrderKind.calClass_iff calClassBusy_iff
  rw [← h2, ← h3, ← h4, ← h5, ← and_imp (b := busy), ← h6]
  obtain ⟨f2, f3, f4, f5, f6⟩ := orderFailure_first k slot s
  exact ⟨fun n2 => takeOrder_of_failure hkind (f2 n2), fun y2 n3 => takeOrder_of_failure hkind (f3 y2 n3),
    fun y2 y3 n4 => takeOrder_of_failure hkind (f4 y2 y3 n4), fun y2 y3 y4 n5 => takeOrder_of_failure hkind (f5 y2 y3 y4 n5),
    fun y2 y3 y4 y5 n6 => takeOrder_of_failure hkind (f6 y2 y3 y4 y5 n6)⟩

end Sys2Proof.Machine

namespace Sys2Proof.Machine

/-! PROOFS. The front command, the event queue and the ring of the can log, and what the host's writes do (R107, R192 to R196,
R198, R199). -/

/-- Settles O1: with a command in the queue a step takes the second branch of its match. -/
theorem stepRunsTheFrontCommand : Obligations.StepRunsTheFrontCommand := fun _ _ => rfl

/-! #### The words of a write -/

section WrittenWords

variable (e : Exchange) (base : Nat) (ws : List Word)

theorem Exchange.read_write_within {k : Nat} (hk : k < ws.length) : (e.write base ws).read (base + k) = ws.getD k 0 := by
  rw [Exchange.read_write, if_pos (by omega), Nat.add_sub_cancel_left]

theorem Exchange.write_keepsOutside : KeepsMemoryOutside base ws.length e (e.write base ws) :=
  fun a ha => (Exchange.read_write e base ws a).trans (if_neg ha)

end WrittenWords

/-! #### The event queue (R196) -/

theorem Exchange.queueFull_iff (e : Exchange) :
    e.queueFull = true ↔ (e.evWrite.val + 1) % 64 = (e.read 0x00C0).toNat % 64 := by
  simp [Exchange.queueFull, readIndexAddr, Fin.val_add]

/-- An event into a full queue sets the overflow flag and is counted (R196). -/
theorem Exchange.event_of_full {e : Exchange} (h : e.queueFull = true) (k : EventKind) (arg0 : Nat) (arg1 arg2 : Word) :
    e.event k arg0 arg1 arg2 = { e.write overflowAddr [1] with dropCount := e.dropCount + 1 } := by
  simp only [Exchange.event, h, if_true]

theorem Exchange.event_keeps (e : Exchange) (k : EventKind) (arg0 : Nat) (arg1 arg2 : Word) :
    let f := e.event k arg0 arg1 arg2
    f.mask = e.mask ∧ f.holdoff = e.holdoff ∧ f.suppressed = e.suppressed ∧ f.logIndex = e.logIndex ∧
      f.wrapCount = e.wrapCount ∧ f.timeTag = e.timeTag := by
  unfold Exchange.event
  split <;> exact ⟨rfl, rfl, rfl, rfl, rfl, rfl⟩

/-- Settles O3: the two cases are the two ends of `event`, each one write whose words are read back. -/
theorem anEventIsWrittenOrDropped : Obligations.AnEventIsWrittenOrDropped := by
  intro e k arg0 arg1 arg2 f at0
  refine ⟨fun hroom => ?_, fun hfull => ?_, e.event_keeps k arg0 arg1 arg2⟩
  · have hf := Exchange.event_of_room (Bool.eq_false_iff.mpr (mt e.queueFull_iff.mp hroom)) k arg0 arg1 arg2
    have hword {n : Nat} (hn : n < 4) : f.read (at0 + n) = [eventHead k arg0, e.timeTag, arg1, arg2].getD n 0 :=
      (congrArg (·.read (at0 + n)) hf).trans (e.read_write_within at0 _ hn)
    have hkeeps : KeepsMemoryOutside at0 4 e f := fun a ha =>
      (congrArg (·.read a) hf).trans (e.write_keepsOutside at0 [eventHead k arg0, e.timeTag, arg1, arg2] a ha)
    refine ⟨hword (n := 0) (by decide), hword (n := 1) (by decide), hword (n := 2) (by decide), hword (n := 3) (by decide),
      hkeeps, ?_⟩
    rw [show f = _ from hf]
    exact ⟨Fin.val_add e.evWrite 1, rfl, rfl, rfl⟩
  · have hf := Exchange.event_of_full (e.queueFull_iff.mpr hfull) k arg0 arg1 arg2
    refine ⟨(congrArg (·.read 0x00C2) hf).trans (e.read_write_within 0x00C2 [1] (k := 0) (by decide)),
      fun a ha => (congrArg (·.read a) hf).trans (e.write_keepsOutside 0x00C2 [1] a ha), ?_⟩
    simp [f, hf]

/-! #### The ring of the can log (R198) -/

/-- LOG_HALF or none, a record leaves the memory that its one write gives. -/
theorem Exchange.logRecord_read (e : Exchange) (ws : List Word) (a : Nat) :
    (e.logRecord ws).read a = (e.write (0x1000 + 8 * e.logIndex.val) ws).read a := by
  unfold Exchange.logRecord
  dsimp only
  split <;> rfl

theorem Exchange.logRecord_counters (e : Exchange) (ws : List Word) :
    let f := e.logRecord ws
    let next := (e.logIndex.val + 1) % 1024
    f.logIndex.val = next ∧ f.wrapCount = (if next = 0 then e.wrapCount + 1 else e.wrapCount) ∧
      f.notice = (if next = 512 ∨ next = 0 then e.notice ||| 4#5 else e.notice) ∧
      f.evWrite = e.evWrite ∧ f.dropCount = e.dropCount ∧ f.timeTag = e.timeTag ∧ f.mask = e.mask := by
  have hnext : (e.logIndex + 1).val = (e.logIndex.val + 1) % 1024 := Fin.val_add e.logIndex 1
  unfold Exchange.logRecord
  simp only [hnext, Bool.or_eq_true, decide_eq_true_eq]
  split <;> exact ⟨hnext, rfl, rfl, rfl, rfl, rfl, rfl⟩

/-! #### The bits of a can log record (R107, Can log record) -/

theorem Origin.code_lt (o : Origin) : o.code < 4 := by cases o <;> decide

theorem attributionCode_lt (a : Option Attribution) : attributionCode a < 4 := by rcases a with _ | _ | _ | _ <;> decide

theorem RecipeRef.code_lt (r : RecipeRef) : r.code < 2 := by cases r <;> decide

theorem zoneCode_lt (z : Option Zone) : zoneCode z < 8 := by rcases z with _ | _ | _ | _ | _ <;> decide

theorem decisionCode_lt (x : Option Decision) : decisionCode x < 4 := by rcases x with _ | _ | _ <;> decide

theorem Disposition.code_lt (d : Disposition) : d.code < 8 := by cases d <;> decide

theorem flagNat_lt (b : Bool) : flagNat b < 2 := by cases b <;> decide

theorem readKindCode_lt (r : Option ReadResult) : readKindCode r < 4 := by
  rcases r with _ | ⟨_ | _, _, _⟩ | _ <;> simp [readKindCode]

theorem Grade.code_lt (g : Grade) : g.code < 8 := by cases g <;> decide

theorem gradeCode_lt (r : Option ReadResult) : gradeCode r < 8 := by
  rcases r with _ | ⟨_, _, g⟩ | _
  · exact Nat.succ_pos 7
  · exact g.code_lt
  · exact Nat.succ_pos 7

theorem WeighFault.code_lt (f : WeighFault) : f.code < 8 := by cases f <;> decide

theorem weighFaultCode_lt (w : Option WeighResult) : weighFaultCode w < 8 := by
  rcases w with _ | _ | f
  · exact Nat.succ_pos 7
  · exact Nat.succ_pos 7
  · exact f.code_lt

/-- Word 1 of a record: every field keeps to its own bits. -/
theorem logWords_can_fields (x : Entry) (d : Disposition) (hvalve : x.valve.getD 0 ≤ 128) :
    let w := ((logWords x d).getD 1 0).toNat
    w % 256 = x.valve.getD 0 ∧ w / 256 % 4 = x.origin.code ∧ w / 1024 % 4 = attributionCode x.attribution ∧
      w / 4096 % 2 = x.recipe.code ∧ w / 8192 % 8 = zoneCode x.zone ∧ w / 65536 % 4 = decisionCode x.decision ∧
      w / 262144 = d.code := by
  have horigin := x.origin.code_lt
  have hattribution := attributionCode_lt x.attribution
  have hrecipe := x.recipe.code_lt
  have hzone := zoneCode_lt x.zone
  have hdecision := decisionCode_lt x.decision
  have hdisposition := d.code_lt
  have hword : ((logWords x d).getD 1 0).toNat = _ := toNat_wordOfNat (n := x.valve.getD 0 + 256 * x.origin.code
    + 1024 * attributionCode x.attribution + 4096 * x.recipe.code + 8192 * zoneCode x.zone + 65536 * decisionCode x.decision
    + 262144 * d.code) (by omega)
  rw [hword]
  dsimp only
  omega

/-- Word 2 of a record: every field keeps to its own bits. -/
theorem logWords_read_fields (x : Entry) (d : Disposition) (hmark : markCode x.read ≤ 999) :
    let w := ((logWords x d).getD 2 0).toNat
    w % 65536 = (x.generation.getD 0).toNat ∧ w / 65536 % 2 = flagNat (x.genKnown.getD false) ∧
      w / 131072 % 4 = readKindCode x.read ∧ w / 524288 % 1024 = markCode x.read ∧ w / 536870912 = gradeCode x.read := by
  have hgeneration : (x.generation.getD 0).toNat < 65536 := (x.generation.getD 0).isLt
  have hknown := flagNat_lt (x.genKnown.getD false)
  have hkind := readKindCode_lt x.read
  have hgrade := gradeCode_lt x.read
  have hword : ((logWords x d).getD 2 0).toNat = _ := toNat_wordOfNat (n := (x.generation.getD 0).toNat
    + 65536 * flagNat (x.genKnown.getD false) + 131072 * readKindCode x.read + 524288 * markCode x.read
    + 536870912 * gradeCode x.read) (by omega)
  rw [hword]
  dsimp only
  omega

/-- Word 5 of a record: the reasons below the weigh fault. -/
theorem logWords_reason_fields (x : Entry) (d : Disposition) :
    let w := ((logWords x d).getD 5 0).toNat
    w % 1024 = x.reasons.toNat ∧ w / 1024 = weighFaultCode x.weighing := by
  have hreasons : x.reasons.toNat < 1024 := x.reasons.isLt
  have hfault := weighFaultCode_lt x.weighing
  have hword : ((logWords x d).getD 5 0).toNat = _ :=
    toNat_wordOfNat (n := x.reasons.toNat + 1024 * weighFaultCode x.weighing) (by omega)
  rw [hword]
  dsimp only
  omega

/-- Settles O5: the place of the record by its one write, and its fields by the three packed words and the masses. -/
theorem aCanLogRecordIsPlacedAndReadable : Obligations.ACanLogRecordIsPlacedAndReadable := by
  intro x d e f at0 next
  have hword (k : Nat) (hk : k < 8) : f.read (at0 + k) = (logWords x d).getD k 0 :=
    (e.logRecord_read _ _).trans (e.read_write_within at0 (logWords x d) hk)
  have hkeeps : KeepsMemoryOutside at0 8 e f := fun a ha =>
    (e.logRecord_read _ a).trans (e.write_keepsOutside at0 (logWords x d) a ha)
  obtain ⟨hindex, hwrap, hnotice, hwrite, hdrop, htag, hmask⟩ := e.logRecord_counters (logWords x d)
  refine ⟨hword, hkeeps, hword 0 (by decide), hindex, hwrap, hnotice, hwrite, hdrop, htag, hmask, fun hvalve hmark => ?_⟩
  obtain ⟨hvalve, horigin, hattribution, hrecipe, hzone, hdecision, hdisposition⟩ := logWords_can_fields x d hvalve
  obtain ⟨hgeneration, hknown, hkind, hmark, hgrade⟩ := logWords_read_fields x d hmark
  obtain ⟨hreasons, hfault⟩ := logWords_reason_fields x d
  refine ⟨hvalve, horigin, hattribution, hrecipe, hzone, hdecision, hdisposition, hgeneration, hknown, hkind, hmark, hgrade,
    fun mg hgross hrange => ?_, fun n hnet hlow hhigh => ?_, hreasons, hfault, rfl, rfl⟩
  · have hmass : grossOf x.weighing = mg := by rw [hgross]; rfl
    exact (toNat_wordOfNat (by omega)).trans hmass
  · have hmass : x.net.getD 0 = n := by rw [hnet]; rfl
    exact (toInt_wordOfInt (by omega) (by omega)).trans hmass

/-! #### Host writes (R169, R192 to R195) -/

theorem inArea_iff {lo hi a : Nat} : inArea lo hi a = true ↔ lo ≤ a ∧ a ≤ hi := by
  simp only [inArea, Bool.and_eq_true, decide_eq_true_eq]

theorem takenSlotLine_iff {s : State} {a : Nat} :
    takenSlotLine s a = true ↔ ∃ t ∈ s.orders.taken, 0x0040 + 16 * t.1.val ≤ a ∧ a ≤ 0x004F + 16 * t.1.val := by
  simp only [takenSlotLine, List.any_eq_true, inArea_iff, slotBase]
  exact exists_congr fun t => and_congr_right fun _ => by omega

theorem lineOwnedByPart_iff {s : State} {a : Nat} : lineOwnedByPart s a = true ↔ PartOwns s a := by
  rw [PartOwns, ← takenSlotLine_iff]
  simp only [lineOwnedByPart, partArea, Bool.or_eq_true, inArea_iff]
  grind

section HostWrites

variable {s : State} {addr : Word} (value : Word)

/-- A write that reaches nothing: every one in CLEARING (R169), and one above the memory that names neither notice register and
sets no bit 0 in CONTROL (R194). -/
theorem hostWrite_dropped (h : s.part.state = .clearing ∨ 0x4000 ≤ addr.toNat ∧ addr ≠ noticeAddr ∧ addr ≠ noticeMaskAddr ∧
    (addr = controlAddr → value.getLsbD 0 = false)) : hostWrite addr value s = s := by
  rcases h with hclearing | ⟨hhigh, hnotice, hmask, hcontrol⟩
  · simp [hostWrite, State.awake, hclearing]
  · unfold hostWrite
    rw [if_neg (Nat.not_lt.mpr hhigh), if_neg hnotice, if_neg hmask]
    split
    · rfl
    split
    · next hc => rw [writeControl, hcontrol hc, Bool.false_and, if_neg Bool.false_ne_true]
    · rfl

theorem hostWrite_memory (hawake : s.part.state ≠ .clearing) (hlow : addr.toNat < 0x4000) :
    hostWrite addr value s = writeMemory addr.toNat value s := by
  simp [hostWrite, State.awake, hawake, hlow]

theorem hostWrite_notice (hawake : s.part.state ≠ .clearing) : hostWrite noticeAddr value s = clearNotices value s := by
  simp [hostWrite, State.awake, hawake, noticeAddr, controlAddr]

theorem hostWrite_mask (hawake : s.part.state ≠ .clearing) : hostWrite noticeMaskAddr value s = replaceMask value s := by
  simp [hostWrite, State.awake, hawake, noticeMaskAddr, noticeAddr, controlAddr]

/-- A write to a host-owned line is the write of one word (R192). -/
theorem hostWrite_hostLine (hawake : s.part.state ≠ .clearing) (hlow : addr.toNat < 0x4000) (hown : ¬PartOwns s addr.toNat) :
    hostWrite addr value s = { s with exch := s.exch.write addr.toNat [value] } := by
  rw [hostWrite_memory value hawake hlow, writeMemory, if_neg (mt lineOwnedByPart_iff.mp hown)]

theorem hostWrite_partLine (hawake : s.part.state ≠ .clearing) (hlow : addr.toNat < 0x4000) (hown : PartOwns s addr.toNat) :
    hostWrite addr value s = refuseWrite addr.toNat value s := by
  rw [hostWrite_memory value hawake hlow, writeMemory, if_pos (lineOwnedByPart_iff.mpr hown)]

/-- A refusal with the holdoff IDLE raises the event and starts the holdoff (R193). -/
theorem hostWrite_refused (hawake : s.part.state ≠ .clearing) (hlow : addr.toNat < 0x4000) (hown : PartOwns s addr.toNat)
    (hidle : s.exch.holdoff = none) : hostWrite addr value s = { s with exch :=
      { s.exch.event .hostWriteRefused addr.toNat s.exch.suppressed value with suppressed := 0, holdoff := some 10 } } := by
  rw [hostWrite_partLine value hawake hlow hown, refuseWrite, hidle]

/-- A refusal while the holdoff runs is only counted (R193). -/
theorem hostWrite_suppressed {left : Nat} (hawake : s.part.state ≠ .clearing) (hlow : addr.toNat < 0x4000)
    (hown : PartOwns s addr.toNat) (hruns : s.exch.holdoff = some left) :
    hostWrite addr value s = { s with exch := { s.exch with suppressed := s.exch.suppressed + 1 } } := by
  rw [hostWrite_partLine value hawake hlow hown, refuseWrite, hruns]

theorem exec_noticeClear (hawake : s.part.state ≠ .clearing) : exec (.noticeClear value) s = .next (clearNotices value s) :=
  congrArg _ (hostWrite_notice value hawake)

theorem exec_noticeMaskWrite (hawake : s.part.state ≠ .clearing) :
    exec (.noticeMaskWrite value) s = .next (replaceMask value s) :=
  congrArg _ (hostWrite_mask value hawake)

end HostWrites

theorem exec_refusalHoldoffExpiry {s : State} (h : s.exch.holdoff = some 0) :
    exec .refusalHoldoffExpiry s = .next { s with exch := { s.exch with holdoff := none } } :=
  congrArg _ (if_pos h)

theorem exec_timeWrap {s : State} (h : s.exch.timeTag = 0xFFFFFFFF#32) :
    exec .timeWrap s = .next (raiseEvent .timeWrap 0 0 0 { s with exch := { s.exch with timeTag := 0 } }) :=
  congrArg _ (if_pos h)

/-- The state with another Exchange Memory Unit differs in that block alone. -/
theorem changesOnly_exch (s : State) (e : Exchange) : ChangesOnly [.exch] s { s with exch := e } := .intro

/-- Settles O10: the registers, the two expiries, and the three fates of a memory write, each by the equation of its case. -/
theorem hostWritesAndExchangeTimersAct : Obligations.HostWritesAndExchangeTimersAct := by
  intro addr value s
  refine ⟨fun hawake => ⟨?_, ?_, ?_⟩, fun hend => ?_, fun hlast => ?_, fun hdropped => ?_, fun hawake hlow hown => ?_,
    fun hawake hlow hown hidle => ?_, fun left hawake hlow hown hruns => ?_⟩
  · refine ⟨_, exec_noticeClear value hawake, fun i hi => ?_, rfl, changesOnly_exch s _⟩
    simp [clearNotices, classBits, hi]
  · refine ⟨_, exec_noticeMaskWrite value hawake, fun i hi => ?_, rfl, changesOnly_exch s _⟩
    simp [replaceMask, classBits, hi]
  · rintro (rfl | ⟨rfl, hbit⟩)
    · exact congrArg _ (hostWrite_dropped value
        (.inr ⟨by decide, by decide, by decide, fun hcontrol => absurd hcontrol (by decide)⟩))
    · exact congrArg _ (hostWrite_dropped value (.inr ⟨by decide, by decide, by decide, fun _ => hbit⟩))
  · exact ⟨_, exec_refusalHoldoffExpiry hend, rfl, changesOnly_exch s _⟩
  · exact ⟨_, exec_timeWrap hlast, Exchange.event_timeTag .., rfl, changesOnly_exch s _⟩
  · have happart {a : Word} (ha : a.toNat < 0x4004) (hhigh : 0x4004 ≤ addr.toNat) : addr ≠ a :=
      ne_of_apply_ne BitVec.toNat (by omega)
    exact congrArg _ (hostWrite_dropped value (hdropped.imp_right fun hhigh => ⟨by omega, happart (by decide) hhigh,
      happart (by decide) hhigh, fun hcontrol => absurd hcontrol (happart (by decide) hhigh)⟩))
  · exact ⟨_, congrArg Host.Outcome.next (hostWrite_hostLine value hawake hlow hown),
      s.exch.read_write_within addr.toNat [value] Nat.one_pos, s.exch.write_keepsOutside addr.toNat [value], rfl,
      changesOnly_exch s _⟩
  · exact ⟨_, congrArg Host.Outcome.next (hostWrite_refused value hawake hlow hown hidle), rfl, changesOnly_exch s _⟩
  · exact ⟨_, congrArg Host.Outcome.next (hostWrite_suppressed value hawake hlow hown hruns), rfl, changesOnly_exch s _⟩

end Sys2Proof.Machine

namespace Sys2Proof.Machine

/-! PROOFS. The part on the line: the level, the calibration and the recipes that its state and its entries call for (R152, R158,
R159, R171 to R176), under the operations of the track, the Dose Unit and Part Control. -/

/-! #### What is kept -/

/-- The four conditions that a step keeps together: a swap reads ACTIVE by the second and NEXT by the third. -/
structure LineLegal (s : State) : Prop where
  part : PartLegal s
  configured : Configured s
  changeover : ChangeoverLegal s
  retiring : RetiringLegal s

/-- The recipe slot that an entry carries is filled where it is RETIRING (R36). -/
def RecipeStands (s : State) (e : Entry) : Prop := e.recipe = .retiring → s.recipes.retiring.isSome = true

theorem retiringLegal_iff {s : State} : RetiringLegal s ↔ ∀ e ∈ s.track.entries, RecipeStands s e :=
  ⟨fun h e he hr => h ⟨e, he, hr⟩, fun h ⟨e, he, hr⟩ => h e he hr⟩

theorem LineLegal.recipeStands {s : State} (h : LineLegal s) {e : Entry} (he : e ∈ s.track.entries) : RecipeStands s e :=
  retiringLegal_iff.mp h.retiring e he

section Blocks

variable {s t : State}

theorem PartLegal.of_same (h : PartLegal s) (hsame : t.part = s.part ∧ t.pins.lineRun = s.pins.lineRun) : PartLegal t := by
  obtain ⟨hpart, hlevel⟩ := hsame
  simpa only [PartLegal, hpart, hlevel] using h

theorem Configured.of_same (h : Configured s)
    (hsame : t.part = s.part ∧ t.cal.state = s.cal.state ∧ t.recipes.active = s.recipes.active) : Configured t := by
  obtain ⟨hpart, hcal, hactive⟩ := hsame
  simpa only [Configured, State.takesCans, hpart, hcal, hactive] using h

theorem ChangeoverLegal.of_same (h : ChangeoverLegal s) (hsame : t.recipes.next = s.recipes.next ∧
    t.dose.changeover = s.dose.changeover ∧ t.dose.inflight = s.dose.inflight) : ChangeoverLegal t := by
  obtain ⟨hnext, hpending, hflight⟩ := hsame
  simpa only [ChangeoverLegal, hnext, hpending, hflight] using h

theorem RetiringLegal.of_same (h : RetiringLegal s)
    (hsame : t.recipes.retiring = s.recipes.retiring ∧ t.track.entries = s.track.entries) : RetiringLegal t := by
  obtain ⟨hretiring, hentries⟩ := hsame
  simpa only [RetiringLegal, hretiring, hentries] using h

/-- Nothing changes of what the first three conditions read. -/
theorem LineLegal.of_retiring (h : LineLegal s) (hret : RetiringLegal t)
    (hsame : t.part = s.part ∧ t.pins.lineRun = s.pins.lineRun ∧ t.cal.state = s.cal.state ∧
      t.recipes.active = s.recipes.active ∧ t.recipes.next = s.recipes.next ∧ t.dose.changeover = s.dose.changeover ∧
      t.dose.inflight = s.dose.inflight) : LineLegal t := by
  obtain ⟨hpart, hlevel, hcal, hactive, hnext, hpending, hflight⟩ := hsame
  exact ⟨h.part.of_same ⟨hpart, hlevel⟩, h.configured.of_same ⟨hpart, hcal, hactive⟩,
    h.changeover.of_same ⟨hnext, hpending, hflight⟩, hret⟩

/-- Nothing changes of what the four conditions read. -/
theorem LineLegal.of_same (h : LineLegal s)
    (hsame : (t.recipes.retiring = s.recipes.retiring ∧ t.track.entries = s.track.entries) ∧ t.part = s.part ∧
      t.pins.lineRun = s.pins.lineRun ∧ t.cal.state = s.cal.state ∧ t.recipes.active = s.recipes.active ∧
      t.recipes.next = s.recipes.next ∧ t.dose.changeover = s.dose.changeover ∧ t.dose.inflight = s.dose.inflight) :
    LineLegal t :=
  h.of_retiring (h.retiring.of_same hsame.1) hsame.2

end Blocks

/-! #### The recipe slots and the messages under the operations on lots and valves -/

@[simp] theorem setLot_slots (ref : RecipeRef) (l : Option Lot) (s : State) :
    (setLot ref l s).recipes.active = s.recipes.active ∧ (setLot ref l s).recipes.retiring = s.recipes.retiring ∧
    (setLot ref l s).recipes.next = s.recipes.next := by
  cases ref <;> exact ⟨rfl, rfl, rfl⟩

@[simp] theorem reopenActiveLot_slots (c : LotCause) (s : State) :
    (reopenActiveLot c s).recipes.active = s.recipes.active ∧
    (reopenActiveLot c s).recipes.retiring = s.recipes.retiring ∧
    (reopenActiveLot c s).recipes.next = s.recipes.next := by
  obtain ⟨pos, start, hr⟩ := reopenActiveLot_recipes c s
  rw [hr]
  exact ⟨rfl, rfl, rfl⟩

@[simp] theorem lotLimitCheck_slots (ref : RecipeRef) (d : Decision) (s : State) :
    (lotLimitCheck ref d s).recipes.active = s.recipes.active ∧
    (lotLimitCheck ref d s).recipes.retiring = s.recipes.retiring ∧
    (lotLimitCheck ref d s).recipes.next = s.recipes.next := by
  unfold lotLimitCheck
  repeat' split
  · exact reopenActiveLot_slots .limit s
  · exact ⟨rfl, rfl, rfl⟩
  · exact ⟨rfl, rfl, rfl⟩

@[simp] theorem recountLot_slots (e : Entry) (ref : RecipeRef) (s : State) :
    (recountLot e ref s).recipes.active = s.recipes.active ∧
    (recountLot e ref s).recipes.retiring = s.recipes.retiring ∧
    (recountLot e ref s).recipes.next = s.recipes.next := by
  rw [recountLot_recipes]
  exact ⟨rfl, rfl, rfl⟩

@[simp] theorem offerCan_messages (e : Entry) (s : State) :
    (offerCan e s).dose.changeover = s.dose.changeover ∧ (offerCan e s).dose.inflight = s.dose.inflight := by
  obtain ⟨trims, hd⟩ := offerCan_dose e s
  rw [hd]
  exact ⟨rfl, rfl⟩

/-! #### The calibration state under the orders that end (R23, R27) -/

theorem calState_of_calValues {s t : State} (h : calValues t = calValues s) : t.cal.state = s.cal.state :=
  congrArg CalValues.state h

@[simp] theorem finishHeldCal_calState (o : Outcome) (detail : Word) (s : State) :
    (finishHeldCal o detail s).cal.state = s.cal.state := calState_of_calValues (calValues_finishHeldCal o detail s)

@[simp] theorem endCalAveraging_calState (o : Outcome) (detail : Word) (s : State) :
    (endCalAveraging o detail s).cal.state = s.cal.state := calState_of_calValues (calValues_endCalAveraging o detail s)

@[simp] theorem handCause_calState (c : Cause) (s : State) : (handCause c s).cal.state = s.cal.state :=
  calState_of_calValues (calValues_handCause c s)

/-! #### The track (R36, R59) -/

section Track

variable {s : State}

theorem lineLegal_setEntry (h : LineLegal s) {e : Entry} (he : RecipeStands s e) : LineLegal (setEntry e s) := by
  refine h.of_retiring (retiringLegal_iff.mpr fun x hx => ?_) (by simp)
  rw [setEntry_entries, List.mem_map] at hx
  obtain ⟨y, hy, rfl⟩ := hx
  split
  · exact he
  · exact h.recipeStands hy

/-- An entry of the track is replaced by one that carries its recipe. -/
theorem lineLegal_replaceEntry (h : LineLegal s) {e : Entry} (he : e ∈ s.track.entries) (x : Entry)
    (hx : x.recipe = e.recipe) : LineLegal (setEntry x s) :=
  lineLegal_setEntry h fun hr => h.recipeStands he (hx.symm.trans hr)

theorem mem_insertByStage {e x : Entry} {l : List Entry} (h : x ∈ insertByStage e l) : x = e ∨ x ∈ l := by
  induction l with
  | nil => exact .inl (List.mem_singleton.mp h)
  | cons y t ih =>
    unfold insertByStage at h
    split at h
    · exact List.mem_cons.mp h
    · rcases List.mem_cons.mp h with rfl | h
      · exact .inr List.mem_cons_self
      · exact (ih h).imp_right (List.mem_cons_of_mem y)

theorem lineLegal_createEntry (h : LineLegal s) {e : Entry} (he : RecipeStands s e) : LineLegal (createEntry e s) := by
  refine h.of_retiring (retiringLegal_iff.mpr fun x hx => ?_) (by simp)
  rcases mem_insertByStage hx with rfl | hx
  · exact he
  · exact h.recipeStands hx

/-- A drain that ends with no RETIRING entry left leaves none without its recipe (R158, R159). -/
theorem lineLegal_endDrain (h : LineLegal s) (hnone : ∀ e ∈ s.track.entries, e.recipe ≠ .retiring) (c : LotCause) (how : Nat) :
    LineLegal (endDrain c how s) := by
  obtain ⟨pos, hr⟩ := endDrain_recipes c how s
  refine h.of_retiring (retiringLegal_iff.mpr fun e he hretiring => ?_) (by simp [hr])
  simp only [endDrain_frame] at he
  exact absurd hretiring (hnone e he)

theorem lineLegal_drainCheck (h : LineLegal s) : LineLegal (drainCheck s) := by
  unfold drainCheck
  split
  · next hdrained =>
    obtain ⟨-, hall⟩ := Bool.and_eq_true_iff.mp hdrained
    exact lineLegal_endDrain h (by simpa using hall) .drained 1
  · exact h

theorem lineLegal_removeWithDrain (h : LineLegal s) (e : Entry) (d : Disposition) : LineLegal (removeWithDrain e d s) :=
  lineLegal_drainCheck (h.of_retiring (t := removeEntry e d s)
    (retiringLegal_iff.mpr fun _ hx => h.recipeStands (List.mem_of_mem_eraseP hx)) (by simp))

theorem lineLegal_makeRoom (h : LineLegal s) : LineLegal (makeRoom s) := by
  unfold makeRoom
  repeat' split
  · exact h
  · next v _ => exact (lineLegal_removeWithDrain h v .dropped).of_same (by simp)
  · exact h

theorem lineLegal_loseEntries (h : LineLegal s) (lost : List Entry) : LineLegal (loseEntries lost s) := by
  unfold loseEntries
  induction lost generalizing s with
  | nil => exact h
  | cons x l ih => exact ih (lineLegal_removeWithDrain h x .lostInTransit)

/-- An entry of another serial than every entry lost stays in the track. -/
theorem mem_loseEntries {e : Entry} {lost : List Entry} (he : e ∈ s.track.entries) (hother : ∀ x ∈ lost, e.serial ≠ x.serial) :
    e ∈ (loseEntries lost s).track.entries := by
  unfold loseEntries
  induction lost generalizing s with
  | nil => exact he
  | cons x l ih =>
    obtain ⟨hx, hl⟩ := List.forall_mem_cons.mp hother
    refine ih ?_ hl
    rw [removeWithDrain_entries]
    exact (List.mem_eraseP_of_neg (by simpa using hx)).mpr he

/-! #### The decision (R90 to R98) -/

/-- A decision sets the entry, counts it in its lot and offers it, and a recipe slot changes by none of these. -/
theorem lineLegal_decideEntry (h : LineLegal s) {e : Entry} (he : RecipeStands s e) (extra : BitVec 10) :
    LineLegal (decideEntry extra e s) :=
  (lineLegal_setEntry h (e := decidedEntry s extra e) he).of_same (by simp [decideEntry])

theorem lineLegal_decideIfDue (h : LineLegal s) {e : Entry} (he : RecipeStands s e) : LineLegal (decideIfDue e s) := by
  unfold decideIfDue
  split
  · exact lineLegal_decideEntry h he 0
  · exact h

theorem lineLegal_settleAtEye (h : LineLegal s) {e : Entry} (he : RecipeStands s e) : LineLegal (settleAtEye e s) := by
  unfold settleAtEye
  split
  · exact lineLegal_decideEntry h he _
  split
  · have hrecounted : LineLegal (recountLot e .retiring (recountLot e .active s)) := h.of_same (by simp)
    exact lineLegal_setEntry hrecounted fun hr => by simpa using he hr
  · exact h

theorem lineLegal_passEye (h : LineLegal s) {e : Entry} (he : RecipeStands s e) : LineLegal (passEye e s) := by
  unfold passEye
  dsimp only
  split
  · exact lineLegal_setEntry (s := fire (recipeOf s e.recipe).rejectPulse s) (h.of_same (by simp)) he
  · exact lineLegal_setEntry h he

theorem lineLegal_takeAtEye (h : LineLegal s) {e : Entry} (he : e ∈ s.track.entries) : LineLegal (takeAtEye e s) := by
  have hsettled := lineLegal_settleAtEye h (h.recipeStands he)
  unfold takeAtEye
  dsimp only
  split
  · exact hsettled
  · next hfound => exact lineLegal_passEye hsettled (hsettled.recipeStands (mem_of_entryOf hfound))

/-! #### The reads (R43 to R53) -/

/-- A new entry of no discharge carries ACTIVE (R36). -/
theorem lineLegal_createAtReader (h : LineLegal s) (origin : Origin) (a : Attribution) (m : ReadMessage) :
    LineLegal (createAtReader origin a m s) := lineLegal_createEntry h nofun

theorem lineLegal_bindByPosition (h : LineLegal s) : LineLegal (bindByPosition s).1 := by
  unfold bindByPosition
  split
  · next e he => exact lineLegal_replaceEntry h (mem_of_oldestOf he).1 _ rfl
  · exact (lineLegal_createAtReader (lineLegal_makeRoom h) .untracked .positional .noRead).of_same (by simp)

/-- The entry found stays in the track while those before it are lost, so that its recipe stands (R46). -/
theorem lineLegal_bindByMark (h : LineLegal s) (text : List Byte) (mark : Nat) (grade : Grade) :
    LineLegal (bindByMark text mark grade s).1 := by
  rcases foundByMark_or_not mark s with hnot | ⟨lost, after, e, hfound⟩
  · rw [bindByMark_unmatched hnot]
    exact (lineLegal_createAtReader (lineLegal_makeRoom h) .unmatched .mismatch (.code text mark grade)).of_same (by simp)
  · rw [bindByMark_found hfound]
    have hlost : LineLegal (lostEvent lost e (loseEntries lost s)) := (lineLegal_loseEntries h lost).of_same (by simp)
    have hmem : e ∈ s.track.entries.filter (fun x => decide (x.stage = .transit)) := by simp [hfound.split]
    refine lineLegal_setEntry hlost (hlost.recipeStands (e := e) ?_)
    rw [lostEvent_track]
    refine mem_loseEntries (List.mem_of_mem_filter hmem) fun x hx hserial => hfound.others x hx ?_
    rw [passMark, ← hserial]
    exact hfound.mark

theorem lineLegal_resolveLate (h : LineLegal s) (serial : Nat) (m : ReadMessage) : LineLegal (resolveLate serial m s).1 := by
  unfold resolveLate
  split
  · exact h
  · next e he =>
    have hstands : RecipeStands s (lateEntry s m e) := h.recipeStands (e := e) (mem_of_entryOf he)
    exact lineLegal_decideIfDue (lineLegal_setEntry h hstands) hstands

theorem lineLegal_resolveRead (h : LineLegal s) (p : PendingRead) (m : ReadMessage) : LineLegal (resolveRead p m s).1 := by
  unfold resolveRead
  split
  · exact lineLegal_resolveLate h _ _
  · exact lineLegal_bindByPosition h
  · exact lineLegal_bindByMark h _ _ _

theorem lineLegal_takeReadResult (h : LineLegal s) (m : ReadMessage) : LineLegal (takeReadResult m s) := by
  unfold takeReadResult
  repeat' split
  · exact h.of_same (by simp)
  · next rest _ => exact lineLegal_resolveRead (s := setReads rest s) (h.of_same (by simp)) _ m
  · exact h

theorem lineLegal_readerTake (h : LineLegal s) (c : Byte) : LineLegal (readerTake c s) := by
  unfold readerTake readerEnd takeMessage
  repeat' split
  · exact h
  · exact lineLegal_takeReadResult (h.of_same (by simp)) _
  · exact lineLegal_takeReadResult (h.of_same (by simp)) _
  · exact lineLegal_takeReadResult (h.of_same (by simp)) _
  · exact lineLegal_takeReadResult (h.of_same (by simp)) _
  · exact lineLegal_takeReadResult (h.of_same (by simp)) _
  · exact h
  · exact h.of_same (by simp)
  · exact h

theorem lineLegal_makeReadRoom (h : LineLegal s) : LineLegal (makeReadRoom s) := by
  unfold makeReadRoom
  dsimp only
  repeat' split
  · exact h
  · next p rest _ _ => exact (lineLegal_resolveRead (s := setReads rest s) (h.of_same (by simp)) p .noRead).of_same (by simp)
  · exact h

/-! #### The platform (R50 to R55) -/

theorem lineLegal_trackPlatformIn (h : LineLegal s) : LineLegal (trackPlatformIn s) := by
  unfold trackPlatformIn bindEarly createAtPlatform
  dsimp only
  repeat' split
  · next e he => exact lineLegal_replaceEntry h (mem_of_oldestOf he).1 _ rfl
  · next e he =>
    have hset : LineLegal (setEntry { e with stage := .onPlatform, attribution := some .positional, readOpen := true } s) :=
      lineLegal_replaceEntry h (mem_of_oldestOf he).1 _ rfl
    exact hset.of_same (by simp)
  · exact (lineLegal_createEntry (lineLegal_makeRoom h) (e := { blankEntry .untracked .onPlatform (makeRoom s) with
      attribution := some .positional, readOpen := true }) nofun).of_same (by simp)
  · exact (lineLegal_createEntry (lineLegal_makeRoom h) (e := { blankEntry .untracked .onPlatform (makeRoom s) with
      read := some .noRead }) nofun).of_same (by simp)

theorem lineLegal_trackPlatformOut (h : LineLegal s) (w : WeighResult) : LineLegal (trackPlatformOut w s) := by
  unfold trackPlatformOut
  dsimp only
  split
  · exact h
  · next e he =>
    have hstands : RecipeStands s (weighedEntry s w e) := h.recipeStands (e := e) (mem_of_oldestOf he).1
    exact lineLegal_decideIfDue (lineLegal_setEntry h hstands) hstands

/-! #### The discharges (R40, R41) -/

/-- A discharge is given RETIRING only where a RETIRING slot exists (R40). -/
theorem dischargeEntry_stands (valve : Byte) (g : Gen) (s : State) : RecipeStands s (dischargeEntry valve g s) := by
  intro hr
  change dischargeRecipe g s = .retiring at hr
  unfold dischargeRecipe at hr
  split at hr
  · next h => exact (Bool.and_eq_true_iff.mp h).1
  · cases hr

theorem lineLegal_takeDischarge (h : LineLegal s) (valve : Byte) (g : Gen) : LineLegal (takeDischarge valve g s) := by
  have htrack {u : State} (hu : LineLegal u) : LineLegal (trackDischarge valve g u) :=
    (lineLegal_createEntry hu (dischargeEntry_stands valve g u)).of_same (by simp [trackDischarge])
  unfold takeDischarge
  repeat' split
  · next v _ => exact htrack ((lineLegal_removeWithDrain h v .dropped).of_same (by simp))
  · exact h.of_same (by simp)
  · exact htrack h

end Track

end Sys2Proof.Machine

namespace Sys2Proof.Machine

/-! PROOFS. The conditions of the part on the line under the Dose Unit, Part Control, the orders, the host and every command (R149,
R152, R157 to R159, R171 to R176). -/

section LineLegal

variable {s t : State}

/-! #### The dose link (R137 to R147) -/

/-- The changeover message that a pulse sends is built from the changeover pending, which has its NEXT recipe (R138, R140). -/
theorem lineLegal_launchDue (h : LineLegal s) {m : Message} (hdue : dueUpdate s = some m) : LineLegal (launch m s) := by
  have hnext : m.changeover = true → s.recipes.next.isSome = true := by
    intro hchange
    obtain ⟨hpending, -⟩ := h.changeover
    unfold dueUpdate at hdue
    dsimp only at hdue
    split at hdue
    · cases hdue; cases hchange
    · next hc => exact hpending (by simp [hc])
    · split at hdue
      · cases hdue; cases hchange
      · cases hdue
  refine ⟨h.part.of_same (by simp), h.configured.of_same (by simp), ⟨?_, fun x hx hchange => ?_⟩, h.retiring.of_same (by simp)⟩
  · simpa [launch, firstSend] using h.changeover.1
  · have hflight : (launch m s).dose.inflight = some m := rfl
    rw [hflight] at hx
    cases hx
    simpa using hnext hchange

theorem lineLegal_resend (h : LineLegal s) : LineLegal (resend s) := by
  unfold resend
  split
  · exact h
  · exact h.of_same (by simp)

/-- A pulse sends the update that is due, or sends the message in flight again, by the link state (R137). -/
theorem lineLegal_fillerIndexArrival (h : LineLegal s) (ht : exec .fillerIndexArrival s = .next t) : LineLegal t := by
  cases ht
  unfold buildAtPulse probeAtPulse
  repeat' split
  · next hdue => exact lineLegal_launchDue h hdue
  · exact h
  · exact lineLegal_resend h
  · exact h.of_same (by simp)
  · exact lineLegal_resend (s := { s with dose := { s.dose with probe := 0 } }) (h.of_same (by simp))
  · exact h

theorem lineLegal_ackTimedOut (h : LineLegal s) : LineLegal (ackTimedOut s) := by
  unfold ackTimedOut linkDownEvent
  repeat' split
  all_goals exact h.of_same (by simp)

/-- The message in flight answered: it waits no longer for NEXT. -/
theorem changeoverLegal_answered (h : ChangeoverLegal s) (hsame : t.recipes.next = s.recipes.next ∧
    t.dose.changeover = s.dose.changeover ∧ t.dose.inflight = none) : ChangeoverLegal t := by
  obtain ⟨hnext, hpending, hnone⟩ := hsame
  obtain ⟨hchange, -⟩ := h
  exact ⟨by rwa [hnext, hpending], fun m hm => by simp [hnone] at hm⟩

/-- With no changeover pending or in flight no recipe is waited for. -/
theorem changeoverLegal_of_none (hpending : s.dose.changeover = none) (hnone : s.dose.inflight = none) :
    ChangeoverLegal s := ⟨fun h => by simp [hpending] at h, fun m hm => by simp [hnone] at hm⟩

/-- The swap of a part that takes cans: ACTIVE gives every entry its RETIRING recipe, and NEXT becomes ACTIVE (R157, R158). -/
theorem lineLegal_swap (h : LineLegal s) (htakes : s.takesCans = true) (hnext : s.recipes.next.isSome = true)
    (hpending : s.dose.changeover = none) (hflight : s.dose.inflight = none) (b : Gen) : LineLegal (swap b s) := by
  obtain ⟨new, hnew⟩ := Option.isSome_iff_exists.mp hnext
  obtain ⟨hvalid, hactive⟩ := h.configured htakes
  have hrecipes := swapTold_recipes hnew b
  have hdose : (swapTold new b s).dose = (rewantTrims new s).dose := by simp
  rw [swap_eq hnew]
  refine lineLegal_drainCheck ⟨h.part.of_same (by simp), fun _ => ⟨by simpa using hvalid, by rw [hrecipes]; rfl⟩,
    changeoverLegal_of_none ?_ ?_, fun _ => ?_⟩
  · rw [hdose]; exact hpending
  · rw [hdose]; exact hflight
  · rw [hrecipes]; exact hactive

theorem lineLegal_serve (h : LineLegal s) (htakes : s.takesCans = true) {m : Message} (hm : s.dose.inflight = some m)
    (res : AckResult) : LineLegal (serve m res s) := by
  cases hchange : m.changeover with
  | true =>
    have hnext : s.recipes.next.isSome = true := h.changeover.2 m hm hchange
    have hnone : (changeoverServed m res s).dose.changeover = none ∧ (changeoverServed m res s).dose.inflight = none := by
      simp [serveValues]
    obtain ⟨hpending, hflight⟩ := hnone
    have hserved : LineLegal (changeoverServed m res s) :=
      ⟨h.part.of_same (by simp), h.configured.of_same (by simp), changeoverLegal_of_none hpending hflight,
        h.retiring.of_same (by simp)⟩
    rw [serve_swaps hchange]
    have hswapped : LineLegal (swap m.generation (changeoverServed m res s)) :=
      lineLegal_swap hserved (by simpa [State.takesCans] using htakes) (by simpa using hnext) hpending hflight _
    exact hswapped.of_same (by simp)
  | false =>
    have hserve : serve m res s = ageValves m.generation (awaitServed m.generation (servedState m res s)) := by
      simp [serve, servedState, hchange]
    rw [hserve]
    exact ⟨h.part.of_same (by simp), h.configured.of_same (by simp), 
      changeoverLegal_answered h.changeover (by simp [serveValues]), h.retiring.of_same (by simp)⟩

theorem lineLegal_refuse (h : LineLegal s) (m : Message) : LineLegal (refuse m s) := by
  have hanswered : LineLegal (revertTrims m.list
      { s with dose := { s.dose with inflight := none, ack := none, probe := 0, link := .up } }) :=
    ⟨h.part.of_same (by simp), h.configured.of_same (by simp), 
      changeoverLegal_answered h.changeover (by simp [revertTrims]), h.retiring.of_same (by simp)⟩
  unfold refuse
  dsimp only
  split
  · refine ⟨hanswered.part.of_same (by simp), hanswered.configured.of_same ?_, changeoverLegal_of_none ?_ ?_,
      hanswered.retiring.of_same ?_⟩
    all_goals simp [refuseChangeover, finishHeldChangeover_recipes, revertTrims]
  · exact hanswered.of_same (by simp)

theorem lineLegal_takeAck (h : LineLegal s) (htakes : s.takesCans = true) (g : Gen) (res : AckResult) :
    LineLegal (takeAck g res s) := by
  unfold takeAck
  repeat' split
  · exact h.of_same (by simp)
  · exact lineLegal_refuse h _
  · next hm _ _ _ => exact lineLegal_serve h htakes hm _
  · exact h.of_same (by simp)

theorem lineLegal_settleFrame (h : LineLegal s) (f : Frame) : LineLegal (settleFrame f s) := by
  unfold settleFrame
  repeat' split
  · exact h.of_same (by simp)
  · exact lineLegal_takeDischarge h _ _
  · exact h
  · next htakes => exact lineLegal_takeAck h htakes _ _
  · exact h

theorem lineLegal_fillerTake (h : LineLegal s) (b : Byte) : LineLegal (fillerTake b s) := by
  unfold fillerTake
  dsimp only
  repeat' split
  · exact h.of_same (by simp)
  · exact h
  · exact h.of_same (by simp)
  · exact h.of_same (by simp)
  · exact h.of_same (by simp)
  · exact h.of_same (by simp)
  · exact h.of_same (by simp)
  · exact lineLegal_settleFrame (s := { s with filler := s.filler.dropped }) (h.of_same (by simp)) _
  · exact h

/-! #### Part Control (R171 to R175) -/

/-- A part that stands outside the states that take cans needs no calibration and no recipe. -/
theorem configured_of_state (h : s.part.state = .clearing ∨ s.part.state = .loading ∨ s.part.state = .config) :
    Configured s := by
  intro htakes
  rcases h with h | h | h <;> simp [State.takesCans, h] at htakes

/-- A part with no cause that comes to the state LINE_RUN gives. -/
theorem partLegal_onLine (hpart : t.part = { state := lineState s, cause := none, stopReq := false })
    (hlevel : t.pins.lineRun = s.pins.lineRun) : PartLegal t := by
  unfold PartLegal
  rw [hpart, hlevel]
  cases h : s.pins.lineRun <;> simp [lineState, h]

theorem part_of_no_fault (h : PartLegal s) (hstate : s.part.state ≠ .faultStop) :
    s.part = { state := s.part.state, cause := none, stopReq := false } := by
  obtain ⟨hstop, hcause, -⟩ := h
  rw [decide_eq_false hstate] at hstop hcause
  have hnone : s.part.cause = none := by simpa using hcause
  rw [← hstop, ← hnone]

/-- FAULT_STOP is entered from STOPPED and RUN alone, with its cause and STOP_REQ (R173, R174). -/
theorem lineLegal_handCause (h : LineLegal s) (c : Cause) : LineLegal (handCause c s) := by
  by_cases hproducing : s.part.state = .stopped ∨ s.part.state = .run
  · have htakes : s.takesCans = true := by rcases hproducing with h | h <;> simp [State.takesCans, h]
    have hpart : (handCause c s).part = { state := .faultStop, cause := some c, stopReq := true } := by
      obtain ⟨hpart, -⟩ := enterFaultStop_fields c s
      rw [handCause_of_producing c hproducing, hpart]
    refine ⟨by simp [PartLegal, hpart], fun _ => ?_, h.changeover.of_same (by simp), h.retiring.of_same (by simp)⟩
    simpa using h.configured htakes
  · obtain ⟨hstopped, hrun⟩ := not_or.mp hproducing
    rwa [handCause_of_not_producing c hstopped hrun]

theorem lineLegal_silentCheck (h : LineLegal s) : LineLegal (silentCheck s) := by
  unfold silentCheck
  split
  · exact h
  · exact lineLegal_handCause h _

/-- A ready part in CONFIG comes to the line with its calibration and its recipe (R171). -/
theorem lineLegal_readinessTest (h : LineLegal s) : LineLegal (readinessTest s) := by
  unfold readinessTest
  split
  · next hready =>
    simp only [ready, Bool.and_eq_true, decide_eq_true_eq] at hready
    obtain ⟨hconfig, hcalibrated⟩ := hready
    have hchanged : LineLegal (changePart (lineState s) .ready s) := by
      refine ⟨partLegal_onLine (s := s) ?_ (by simp), fun _ => by simpa using hcalibrated, h.changeover.of_same (by simp),
        h.retiring.of_same (by simp)⟩
      rw [changePart_part, part_of_no_fault h.part (by simp [hconfig])]
    dsimp only
    refine lineLegal_silentCheck ?_
    split
    · exact hchanged.of_same (by simp)
    · exact hchanged
  · exact h

/-- FAULT_CLEAR brings the part from FAULT_STOP to the state LINE_RUN gives, with its cause gone (R175). -/
theorem lineLegal_orderFaultClear (h : LineLegal s) (hstop : s.part.state = .faultStop) (slot : Slot) :
    LineLegal (orderFaultClear slot s) := by
  obtain ⟨hpart, -⟩ := faultCleared_fields slot s
  have hcalibrated := h.configured (by simp [State.takesCans, hstop])
  rw [orderFaultClear_eq]
  exact lineLegal_silentCheck ⟨partLegal_onLine hpart (by simp), fun _ => by simpa using hcalibrated,
    h.changeover.of_same (by simp),
    h.retiring.of_same (by simp)⟩

/-! #### The samples (R21, R28 to R30) -/

/-- CAL_ZERO leaves a VALID calibration VALID, so that a part that takes cans keeps it (R23, R29). -/
theorem lineLegal_setCalZero (h : LineLegal s) (mean : Int) (limit : Nat) : LineLegal (setCalZero mean limit s) := by
  unfold setCalZero setCalState
  dsimp only
  split
  · next hnone =>
    refine lineLegal_readinessTest ⟨h.part.of_same (by simp), fun htakes => ?_, h.changeover.of_same (by simp),
      h.retiring.of_same (by simp)⟩
    obtain ⟨hvalid, -⟩ := h.configured (by simpa [State.takesCans] using htakes)
    simp [hnone] at hvalid
  · exact h.of_same (by simp)

theorem lineLegal_setCalSpan (h : LineLegal s) (f : Nat) : LineLegal (setCalSpan f s) := by
  unfold setCalSpan setCalState
  dsimp only
  split
  · exact h.of_same (by simp)
  · refine lineLegal_readinessTest ⟨h.part.of_same (by simp), fun htakes => ⟨rfl, ?_⟩, h.changeover.of_same (by simp),
      h.retiring.of_same (by simp)⟩
    obtain ⟨-, hactive⟩ := h.configured (by simpa [State.takesCans] using htakes)
    simpa using hactive

theorem lineLegal_completeCal (h : LineLegal s) (c : CalAveraging) : LineLegal (completeCal c s) := by
  have hremoved : LineLegal (calAveragingRemoved s) := h.of_same (t := refreshZero { s with cal := _ }) (by simp)
  have hstored {u : State} (hu : LineLegal u) (kind : CalKind) : LineLegal (beginStoreWrite kind u) :=
    hu.of_same ⟨by simp, by simp, by simp, rfl, by simp⟩
  rcases completeCal_ends c s with ⟨o, detail, hc⟩ | ⟨mean, hc⟩ | ⟨f, hc⟩ <;> rw [hc]
  · exact hremoved.of_same (by simp)
  · exact hstored (lineLegal_setCalZero hremoved _ _) _
  · exact hstored (lineLegal_setCalSpan hremoved _) _

theorem lineLegal_calSample (h : LineLegal s) (x : Sample) : LineLegal (calSample x s) := by
  unfold calSample
  dsimp only
  repeat' split
  · exact h
  · exact h.of_same (by simp)
  · exact lineLegal_completeCal h _

/-! #### The orders -/

theorem lineLegal_orderChangeover (h : LineLegal s) (slot : Slot) : LineLegal (orderChangeover slot s) := by
  unfold orderChangeover
  split
  · exact h.of_same (by simp)
  split
  · exact h.of_same (by simp)
  split
  · next hconfig =>
    rw [changeoverInConfig_eq]
    obtain ⟨hrecipes, -⟩ := changeoverDone_fields (recipeCopy (stagedWord s)) slot s
    have hdone : (changeoverDone (recipeCopy (stagedWord s)) slot s).dose = (recipeTaken (recipeCopy (stagedWord s)) s).dose := by
      simp
    obtain ⟨hdose, -⟩ := recipeTaken_dose (recipeCopy (stagedWord s)) s
    refine lineLegal_readinessTest ⟨h.part.of_same (by simp), configured_of_state (by simp [hconfig]),
      h.changeover.of_same ⟨by rw [hrecipes], by rw [hdone, hdose], by rw [hdone, hdose]⟩,
      h.retiring.of_same (by simp [hrecipes])⟩
  · refine ⟨h.part.of_same (by simp), h.configured.of_same (by simp [changeoverOnLine]),
      ⟨fun _ => rfl, fun _ _ _ => rfl⟩, h.retiring.of_same (by simp [changeoverOnLine])⟩

/-- A flush leaves no entry, so that the drain it ends leaves none without its recipe (R60, R159). -/
theorem lineLegal_orderTrackFlush (h : LineLegal s) (slot : Slot) : LineLegal (orderTrackFlush slot s) := by
  obtain ⟨htrack, -⟩ := flushEntries_fields s
  have hempty : (flushEntries s).track.entries = [] := by rw [htrack]
  have hflushed : LineLegal (emptyPlatform (setReads [] (flushEntries s))) :=
    h.of_retiring (retiringLegal_iff.mpr (by simp [hempty])) (by simp)
  unfold orderTrackFlush
  dsimp only
  split
  · exact (lineLegal_endDrain hflushed (by simp [hempty]) .flush 2).of_same (by simp)
  · exact hflushed.of_same (by simp)

@[simp] theorem orderValveTrim_messages (slot : Slot) (s : State) :
    (orderValveTrim slot s).dose.changeover = s.dose.changeover ∧
    (orderValveTrim slot s).dose.inflight = s.dose.inflight := by
  unfold orderValveTrim
  dsimp only
  split <;> exact ⟨rfl, rfl⟩

@[simp] theorem orderCalZero_calState (slot : Slot) (s : State) : (orderCalZero slot s).cal.state = s.cal.state :=
  calState_of_calValues (calValues_orderCalZero slot s)

@[simp] theorem orderCalSpan_calState (slot : Slot) (s : State) : (orderCalSpan slot s).cal.state = s.cal.state := rfl

@[simp] theorem orderLotClose_slots (slot : Slot) (s : State) :
    (orderLotClose slot s).recipes.active = s.recipes.active ∧
    (orderLotClose slot s).recipes.retiring = s.recipes.retiring ∧
    (orderLotClose slot s).recipes.next = s.recipes.next := by simp [orderLotClose]

/-- Three of the twelve kinds move the part, a recipe or the track; the others touch nothing that the conditions read. -/
theorem lineLegal_handOver {k : OrderKind} (h : LineLegal s) (hallowed : k.allowedIn s.part.state = true) (slot : Slot) :
    LineLegal (handOver k slot s) := by
  cases k with
  | changeover => exact lineLegal_orderChangeover h slot
  | trackFlush => exact lineLegal_orderTrackFlush h slot
  | faultClear =>
    refine lineLegal_orderFaultClear h ?_ slot
    cases hs : s.part.state <;> simp_all [OrderKind.allowedIn]
  | lotClose | zeroSet | calZero | calSpan | valveLock | valveRelease | valveTrim | loopSet | snapshot =>
    unfold handOver
    exact h.of_same (by simp)

theorem lineLegal_scanSlots (h : LineLegal s) : LineLegal (scanSlots s) := by
  have hexamine (slot : Slot) {u : State} (hu : LineLegal u) : LineLegal (examineSlot slot u) := by
    unfold examineSlot takeOrder
    repeat' split
    · exact hu.of_same (by simp)
    · exact hu.of_same (by simp)
    · next hfail => exact lineLegal_handOver hu (allowed_of_orderFailure hfail) slot
    · exact hu
  unfold scanSlots
  induction scanOrder generalizing s with
  | nil => exact h
  | cons slot l ih => exact ih (hexamine slot h)

/-! #### The host -/

/-- RESTART clears the cause, the changeover and the track, and brings the part to the line only where it is ready (R176). -/
theorem lineLegal_restartPart (s : State) : LineLegal (restartPart s) := by
  obtain ⟨hpart, hpins, -, -, -, htrack, hrecipes, -, hdose, -⟩ := restartBlocks_fields s
  obtain ⟨-, -, -, hempty, -⟩ := trackAtRestart_fields s
  have hentries : (restartBlocks s).track.entries = [] := by rw [htrack, hempty]
  have hchangeover : ChangeoverLegal (restartBlocks s) := changeoverLegal_of_none (by rw [hdose]; rfl) (by rw [hdose]; rfl)
  have hretiring : RetiringLegal (restartBlocks s) := retiringLegal_iff.mpr (by simp [hentries])
  unfold restartPart
  dsimp only
  generalize restartBlocks s = b at hpart hchangeover hretiring
  refine lineLegal_silentCheck ⟨?_, ?_, hchangeover.of_same (by simp), hretiring.of_same (by simp)⟩
  · unfold restartTarget
    split
    · exact partLegal_onLine (s := b) (by rw [changePart_part, hpart]) (by simp)
    · simp [PartLegal, changePart_part, hpart]
  · unfold restartTarget
    split
    · next hready => exact fun _ => by simpa [ready] using hready
    · exact configured_of_state (.inr (.inr rfl))

theorem lineLegal_hostWrite (h : LineLegal s) (addr value : Word) : LineLegal (hostWrite addr value s) := by
  unfold hostWrite writeControl
  repeat' split
  · exact h
  · exact h.of_same (by simp)
  · exact lineLegal_restartPart s
  · exact h
  · exact h.of_same (by simp)
  · exact h.of_same (by simp)
  · exact h

/-! #### The commands -/

theorem lineLegal_reset (pins : Pins) (queue : List Instr) :
    LineLegal { State.reset with pins := pins, pending := queue } where
  part := by simp [PartLegal, State.reset]
  configured := configured_of_state (.inl rfl)
  changeover := changeoverLegal_of_none rfl rfl
  retiring := by simp [RetiringLegal, State.reset]

/-- A unit of time counts timers and moves nothing that the conditions read. -/
theorem lineLegal_tick (h : LineLegal s) : LineLegal (tick s) := by
  unfold tick
  split
  · exact h.of_same (by simp)
  · have hrecipes : (passUnit s).recipes =
        { s.recipes with fine := (tickRecipes s).fine, finePhase := (tickRecipes s).finePhase } := by
      simp only [passUnit, tickRecipes]
      repeat' split
      all_goals rfl
    have hentries (e : Entry) (he : e ∈ (passUnit s).track.entries) : ∃ x ∈ s.track.entries, x.recipe = e.recipe := by
      simp only [passUnit, tickTrack] at he
      split at he
      · obtain ⟨x, hx, rfl⟩ := List.mem_map.mp he
        exact ⟨x, hx, rfl⟩
      · exact ⟨e, he, rfl⟩
    have hret : RetiringLegal (passUnit s) := by
      rintro ⟨e, he, hr⟩
      obtain ⟨x, hx, hxr⟩ := hentries e he
      rw [hrecipes]
      exact h.recipeStands hx (hxr.trans hr)
    exact (h.of_retiring hret ⟨rfl, rfl, rfl, by rw [hrecipes], by rw [hrecipes], rfl, rfl⟩).of_same
      ⟨⟨rfl, rfl⟩, rfl, rfl, rfl, rfl, rfl, rfl, rfl⟩

@[simp] theorem storeSaved_calState (s : State) : (storeSaved s).cal.state = s.cal.state := by simp [storeSaved]

@[simp] theorem storeFailed_calState (how : Nat) (s : State) : (storeFailed how s).cal.state = s.cal.state := by
  simp [storeFailed]

/-- In STOPPED a rise leaves the cause absent and brings the part to RUN; elsewhere the level alone moves (R172). -/
theorem lineLegal_lineRunRise (h : LineLegal s) (ht : exec .lineRunRise s = .next t) : LineLegal t := by
  obtain ⟨hstop, hcause, -, -⟩ := h.part
  cases ht
  split
  · next hstopped =>
    have hcalibrated := h.configured (by simp [State.takesCans, hstopped])
    exact ⟨by simp [PartLegal, changePart_part, hstop, hcause, hstopped], fun _ => by simpa using hcalibrated,
      h.changeover.of_same (by simp), h.retiring.of_same (by simp)⟩
  · next hstopped =>
    exact ⟨by simp [PartLegal, hstop, hcause, hstopped], h.configured.of_same (by simp), h.changeover.of_same (by simp),
      h.retiring.of_same (by simp)⟩

/-- In RUN a fall leaves the cause absent and brings the part to STOPPED; elsewhere the level alone moves (R172). -/
theorem lineLegal_lineRunFall (h : LineLegal s) (ht : exec .lineRunFall s = .next t) : LineLegal t := by
  obtain ⟨hstop, hcause, -, -⟩ := h.part
  cases ht
  split
  · next hrun =>
    have hcalibrated := h.configured (by simp [State.takesCans, hrun])
    exact ⟨by simp [PartLegal, changePart_part, hstop, hcause, hrun], fun _ => by simpa using hcalibrated,
      h.changeover.of_same (by simp), h.retiring.of_same (by simp)⟩
  · next hrun =>
    exact ⟨by simp [PartLegal, hstop, hcause, hrun], h.configured.of_same (by simp), h.changeover.of_same (by simp),
      h.retiring.of_same (by simp)⟩

/-- A change to LOADING or CONFIG asks nothing of the calibration and the recipes (R169, R170). -/
theorem lineLegal_startUp (h : LineLegal s) {new : PartState} (hnew : new = .loading ∨ new = .config)
    (hold : s.part.state ≠ .faultStop) (why : ChangeReason) (hsame : t.part = s.part ∧ t.recipes.next = s.recipes.next ∧
      t.dose = s.dose ∧
      t.recipes.retiring = s.recipes.retiring ∧ t.track.entries = s.track.entries) : LineLegal (changePart new why t) := by
  obtain ⟨hpart, hnext, hdose, hretiring, hentries⟩ := hsame
  have hchanged : (changePart new why t).part = { state := new, cause := none, stopReq := false } := by
    rw [changePart_part, hpart, part_of_no_fault h.part hold]
  refine ⟨?_, configured_of_state (.inr ?_), h.changeover.of_same (by simp [hnext, hdose]),
    h.retiring.of_same (by simp [hretiring, hentries])⟩
  · rcases hnew with rfl | rfl <;> simp [PartLegal, hchanged]
  · rwa [hchanged]

theorem lineLegal_exec (h : LineLegal s) (c : Instr) (ht : exec c s = .next t) : LineLegal t := by
  cases c with
  | fullReset => cases ht; exact lineLegal_reset _ _
  | clearingComplete =>
    cases ht
    split
    · next hclearing => exact lineLegal_startUp h (.inl rfl) (by simp [hclearing]) _ (by simp)
    · exact h
  | storeReadEnd bytes =>
    cases ht
    split
    · next hloading =>
      have hconfig {u : State} (hu : LineLegal (changePart .config .loaded u)) :
          LineLegal (startScan (changePart .config .loaded u)) := hu.of_same (by simp)
      refine hconfig ?_
      split <;> exact lineLegal_startUp h (.inr rfl) (by simp [hloading]) _ (by simp)
    · exact h
  | lineRunRise => exact lineLegal_lineRunRise h ht
  | lineRunFall => exact lineLegal_lineRunFall h ht
  | restart value | noticeClear value | noticeMaskWrite value | registerWriteIgnored addr value | hostMemoryWrite addr value =>
    cases ht
    exact lineLegal_hostWrite h _ _
  | sampleArrival count =>
    cases ht
    split
    · exact lineLegal_calSample (h.of_same (by simp)) _
    · exact h
  | readerMessage | readerOverlong c | readerCharacter c =>
    cases ht
    exact lineLegal_readerTake h _
  | dischargeFrame b | doseAckFrame b | fillerBufferOverrun b | fillerCharacter b | badFrameCompleted b =>
    cases ht
    exact lineLegal_fillerTake h _
  | fillerErroredCharacter c =>
    cases ht
    unfold fillerReceive
    split
    · exact h.of_same (by simp)
    · exact lineLegal_fillerTake h _
  | converterWatchExpiry =>
    cases ht
    split
    · exact lineLegal_handCause (h.of_same (by simp)) _
    · exact h
  | jamTimerExpiry =>
    cases ht
    repeat' split
    · exact lineLegal_handCause (h.of_same (by simp)) _
    · exact h
    · exact h
  | platformInArrival =>
    cases ht
    repeat' split
    · exact h.of_same (by simp)
    · exact lineLegal_trackPlatformIn (h.of_same (by simp))
    · exact h.of_same (by simp)
    · exact h
  | platformOutArrival =>
    cases ht
    repeat' split
    · exact h.of_same (by simp)
    · next w rest _ => exact lineLegal_trackPlatformOut (s := closeOldest rest s) (h.of_same (by simp)) _
    · exact h
  | readerEyeArrival =>
    cases ht
    split
    · exact (lineLegal_makeReadRoom h).of_same (by simp)
    · exact h
  | readDeadlineExpiry =>
    cases ht
    repeat' split
    · exact h
    · exact lineLegal_resolveRead (s := setReads (s.track.reads.eraseP PendingRead.expired) s) (h.of_same (by simp)) _ .noRead
    · exact h
  | fillerIndexArrival => exact lineLegal_fillerIndexArrival h ht
  | ackTimerExpiry =>
    cases ht
    split
    · exact lineLegal_ackTimedOut h
    · exact h
  | rejectEyeArrival =>
    cases ht
    repeat' split
    · exact h.of_same (by simp)
    · next he => exact lineLegal_takeAtEye h (mem_of_oldestOf he).1
    · exact h
  | confirmEyeArrival =>
    cases ht
    repeat' split
    · exact h.of_same (by simp)
    · next e _ _ => exact lineLegal_handCause ((lineLegal_removeWithDrain h e .rejectFailed).of_same (by simp)) _
    · exact lineLegal_removeWithDrain h _ _
    · exact h
  | pastRejectDeadlineExpiry =>
    cases ht
    unfold settleDeadline
    repeat' split
    · exact h
    · exact lineLegal_removeWithDrain h _ _
    · exact lineLegal_removeWithDrain (h.of_same (by simp)) _ _
    · exact h
  | lotMinuteStep =>
    cases ht
    unfold minuteStep
    repeat' split
    · exact h.of_same (by simp)
    · exact h.of_same (by simp)
    · exact h
  | orderScan switchOn =>
    cases ht
    split
    · exact lineLegal_scanSlots (h.of_same (by simp))
    · exact h.of_same (by simp)
  | storeWriteCompared readBack | storeTimerExpiry | calSwitchOff | refusalHoldoffExpiry | timeWrap | readerFramingError brk
  | gapTimerExpiry | transmitFrameEnd | pulseTimerExpiry | breakEnd link =>
    cases ht
    repeat' split
    all_goals exact h.of_same (by simp)

end LineLegal

/-- Settles O54: a step is a unit of time or a command, and each keeps the four conditions together. -/
theorem everyStepKeepsThePartConfigured : Obligations.EveryStepKeepsThePartConfigured := by
  intro s t hpart hconfigured hchangeover hretiring ht
  have h : LineLegal s := ⟨hpart, hconfigured, hchangeover, hretiring⟩
  have hkept : LineLegal t := by
    obtain rfl | ⟨c, rest, hc⟩ := step_cases ht
    · exact lineLegal_tick h
    · exact lineLegal_exec (s := { s with pending := rest }) (h.of_same (by simp)) c hc
  exact ⟨hkept.part, hkept.configured, hkept.changeover, hkept.retiring⟩

end Sys2Proof.Machine

namespace Sys2Proof.Machine

/-! PROOFS. The minute step of the lot timer, and the record of the lot that it closes word by word (R160, R162, R164, R165). -/

/-! #### The record of a closed lot (R160, Lot record) -/

theorem closedLotWords_eq (l : Lot) (tag : Word) (c : LotCause) (nominal : Nat) : closedLotWords l tag c nominal =
    wordOfNat l.index :: (textWords l.text ++ ([l.start, tag, wordOfNat c.code, l.decided, l.accepted, l.rejected] ++
      (reasonWords l ++ ([wordOfNat l.softUsed, wordOfNat l.allowance, l.netSum.extractLsb' 32 32,
        l.netSum.extractLsb' 0 32, (match lotMean l with | none => 0 | some m => meanWord m),
        wordOfNat (flagNat (lotMean l).isSome + 2 * flagNat (lotMeanLow l nominal))] ++ List.replicate 6 0)))) := rfl

theorem closedLotWords_text (l : Lot) (tag : Word) (c : LotCause) (nominal : Nat) {i : Nat} (hi : i < 3) :
    (closedLotWords l tag c nominal).getD (1 + i) 0 = (textWords l.text).getD i 0 := by
  have htext : (textWords l.text).length = 3 := rfl
  rw [closedLotWords_eq, Nat.add_comm 1 i, List.getD_cons_succ, List.getD_append _ _ _ _ (by omega)]

theorem closedLotWords_reason (l : Lot) (tag : Word) (c : LotCause) (nominal : Nat) {k : Nat} (hk : k < 10) :
    (closedLotWords l tag c nominal).getD (10 + k) 0 = l.reasons.getD k 0 := by
  have htext : (textWords l.text).length = 3 := rfl
  have hreasons : (reasonWords l).length = 10 := rfl
  rw [closedLotWords_eq, show 10 + k = 3 + (6 + k) + 1 by omega, List.getD_cons_succ,
    List.getD_append_right _ _ _ _ (by omega), htext, Nat.add_sub_cancel_left,
    List.getD_append_right _ _ _ _ (by simp), show 6 + k - List.length [_, _, _, _, _, _] = k from Nat.add_sub_cancel_left ..,
    List.getD_append _ _ _ _ (by omega), List.getD_eq_getElem _ _ (by omega)]
  simp [reasonWords]

/-- The six words behind the flags of the mean hold nothing. -/
theorem closedLotWords_zeros (l : Lot) (tag : Word) (c : LotCause) (nominal : Nat) {k : Nat} (hlow : 26 ≤ k) (hhigh : k < 32) :
    (closedLotWords l tag c nominal).getD k 0 = 0 := by
  obtain rfl | rfl | rfl | rfl | rfl | rfl : k = 26 ∨ k = 27 ∨ k = 28 ∨ k = 29 ∨ k = 30 ∨ k = 31 := by omega
  all_goals rfl

/-! #### The mean of a lot (R162) -/

theorem lotMean_of_accepted {l : Lot} (h : l.accepted ≠ 0) :
    lotMean l = some (Int.tdiv l.netSum.toInt l.accepted.toNat) := if_neg h

theorem lotMean_of_empty {l : Lot} (h : l.accepted = 0) : lotMean l = none := if_pos h

theorem meanWord_of_inRange {m : Int} (hlow : -2147483648 ≤ m) (hhigh : m ≤ 2147483647) : meanWord m = BitVec.ofInt 32 m :=
  if_pos ⟨hlow, hhigh⟩

/-- The mean and its two flags in the record: absent, present, or present and low. -/
theorem closedLotWords_mean (l : Lot) (tag : Word) (c : LotCause) (nominal : Nat)
    (hlow : -2147483648 ≤ Int.tdiv l.netSum.toInt l.accepted.toNat)
    (hhigh : Int.tdiv l.netSum.toInt l.accepted.toNat ≤ 2147483647) :
    let mean := Int.tdiv l.netSum.toInt l.accepted.toNat
    (closedLotWords l tag c nominal).getD 24 0 = (if l.accepted = 0 then 0 else BitVec.ofInt 32 mean) ∧
    (closedLotWords l tag c nominal).getD 25 0 =
      (if l.accepted = 0 then 0 else if l.accepted ≠ 0 ∧ mean < nominal then 3 else 1) := by
  intro mean
  have hmean : (closedLotWords l tag c nominal).getD 24 0 = match lotMean l with | none => 0 | some m => meanWord m := rfl
  have hflags : (closedLotWords l tag c nominal).getD 25 0 =
      wordOfNat (flagNat (lotMean l).isSome + 2 * flagNat (lotMeanLow l nominal)) := rfl
  rw [hmean, hflags, lotMeanLow]
  by_cases haccepted : l.accepted = 0
  · simp [lotMean_of_empty haccepted, haccepted, flagNat, wordOfNat]
  · have hword : meanWord mean = BitVec.ofInt 32 mean := meanWord_of_inRange hlow hhigh
    rw [lotMean_of_accepted haccepted, if_neg haccepted, if_neg haccepted]
    by_cases hbelow : mean < nominal
    · rw [if_pos ⟨haccepted, hbelow⟩]
      exact ⟨hword, by simp [flagNat, wordOfNat, hbelow, mean]⟩
    · rw [if_neg fun hlow => hbelow hlow.2]
      exact ⟨hword, by simp [flagNat, wordOfNat, hbelow, mean]⟩

/-- The events of a close with a mean that a word holds (R162). -/
theorem lotCloseEvents_of_mean {l : Lot} (nominal : Nat) (c : LotCause) (e : Exchange)
    (hlow : -2147483648 ≤ Int.tdiv l.netSum.toInt l.accepted.toNat)
    (hhigh : Int.tdiv l.netSum.toInt l.accepted.toNat ≤ 2147483647) :
    let mean := Int.tdiv l.netSum.toInt l.accepted.toNat
    let told := e.event .lotClosed c.code (wordOfNat l.index) l.accepted
    lotCloseEvents l nominal c e = if l.accepted ≠ 0 ∧ mean < nominal then
      told.event .lotMeanLow l.index (BitVec.ofInt 32 mean) (wordOfNat nominal) else told := by
  intro mean told
  unfold lotCloseEvents
  by_cases haccepted : l.accepted = 0
  · simp [lotMean_of_empty haccepted, haccepted, told]
  · rw [lotMean_of_accepted haccepted, ← meanWord_of_inRange hlow hhigh]
    by_cases hbelow : mean < nominal
    · exact (if_pos hbelow).trans (if_pos ⟨haccepted, hbelow⟩).symm
    · exact (if_neg hbelow).trans (if_neg fun hlow => hbelow hlow.2).symm

/-! #### The minute step (R164, R165) -/

section MinuteStep

variable {r : Recipe} {s : State} (hrun : s.part.state = .run) (hactive : s.recipes.active = some r)
  (hminutes : r.lotMinutes ≠ 0) (hfine : s.recipes.fine = 0)

include hrun hactive hminutes hfine

/-- The fine count at its end in RUN, under a recipe with a lot timer. -/
theorem exec_lotMinuteStep :
    exec .lotMinuteStep s = .next (minuteStep { s with recipes := { s.recipes with fine := 600 } }) := by
  simp [exec, execLotMinuteStep, fineRuns, hrun, hactive, hminutes, hfine]

theorem exec_lotMinuteStep_counts (h : s.exch.read 0x00C1 ≠ 0) : exec .lotMinuteStep s = .next
    { s with
      recipes := { s.recipes with fine := 600 }
      exch := s.exch.write 0x00C1 [s.exch.read 0x00C1 - 1] } :=
  (exec_lotMinuteStep hrun hactive hminutes hfine).trans (congrArg Host.Outcome.next (if_neg h))

theorem exec_lotMinuteStep_closes (h : s.exch.read 0x00C1 = 0) : exec .lotMinuteStep s =
    .next (reopenActiveLot .timer { s with recipes := { s.recipes with fine := 600 } }) :=
  (exec_lotMinuteStep hrun hactive hminutes hfine).trans (congrArg Host.Outcome.next (if_pos h))

end MinuteStep

/-- Settles O44: with minutes left the word is counted down; at 0 the lot is filed, and its record is read back word by word. -/
theorem aMinuteStepCountsOrClosesTheLot : Obligations.AMinuteStepCountsOrClosesTheLot := by
  intro r l s hrun hactive hminutes hfine hlot word file mean low
  refine ⟨fun hword => ?_, fun hword hlow hhigh => ?_⟩
  · exact ⟨_, exec_lotMinuteStep_counts hrun hactive hminutes hfine hword, rfl,
      Exchange.read_write_within _ _ [_] (k := 0) (by simp), Exchange.write_keepsOutside _ _ [_], rfl, .intro⟩
  · intro filed told told2 at'
    have hread {k : Nat} (hk : k < 32) : at' k = (closedLotWords l s.exch.timeTag .timer r.nominal).getD k 0 :=
      Exchange.read_write_within _ _ _ (by rwa [closedLotWords_length])
    obtain ⟨hmean, hflags⟩ := closedLotWords_mean l s.exch.timeTag .timer r.nominal hlow hhigh
    obtain ⟨hrecipes, hexch⟩ := reopenActiveLot_of_lot (l := l) .timer
      (s := { s with recipes := { s.recipes with fine := 600 } }) hlot
    have hactive' : activeRecipe { s with recipes := { s.recipes with fine := 600 } } = r := by simp [activeRecipe, hactive]
    rw [hactive'] at hrecipes hexch
    refine ⟨closedLotWords_length .., hread (by omega), fun k hk => ?_, hread (by omega), hread (by omega), hread (by omega),
      hread (by omega), hread (by omega), hread (by omega), fun k hk => ?_, hread (by omega), hread (by omega),
      hread (by omega), (hread (by omega)).trans ?_, (hread (by omega)).trans hmean, (hread (by omega)).trans hflags,
      fun k hfirst hlast => (hread hlast).trans (closedLotWords_zeros _ _ _ _ hfirst hlast),
      _, exec_lotMinuteStep_closes hrun hactive hminutes hfine hword, by rw [hrecipes], by rw [hrecipes], ?_, .intro⟩
    · rw [hread (by omega), closedLotWords_text _ _ _ _ (by omega)]
      exact textWords_char l.text hk
    · rw [hread (by omega), closedLotWords_reason _ _ _ _ hk]
    · exact (BitVec.setWidth_eq_extractLsb' (by omega)).symm
    · rw [hexch, lotCloseEvents_of_mean _ _ _ hlow hhigh]
      rfl

end Sys2Proof.Machine

namespace Sys2Proof.Machine

/-! PROOFS. The ends of a drain: the confirm eye that takes the last RETIRING entry, and TRACK_FLUSH (R60, R9, R158, R159, R162,
R166). -/

/-! #### The drain with its order held (R158, R162) -/

/-- A drain ended: the retiring lot filed, the order held finished DONE with the boundary generation, RETIRING_DRAINED told. -/
def drainTold (r : Recipe) (l : Lot) (held : Slot) (b : Gen) (pos : Fin 8) (c : LotCause) (how : Nat) (e : Exchange) : Exchange :=
  ((filedLot l r.nominal c pos e).finishSlot held .done (b.setWidth 32)).event .retiringDrained how (b.setWidth 32)
    (wordOfNat l.index)

theorem endDrain_of_held {r : Recipe} {l : Lot} {held : Slot} {s : State} (hr : s.recipes.retiring = some r)
    (hl : s.recipes.retiringLot = some l) (hheld : s.recipes.held = some held) (c : LotCause) (how : Nat) :
    (endDrain c how s).recipes = { s.recipes with
      retiring := none, retiringLot := none, held := none, closedPos := s.recipes.closedPos + 1 } ∧
    (endDrain c how s).exch = drainTold r l held s.recipes.boundary s.recipes.closedPos c how s.exch ∧
    (endDrain c how s).orders = { s.orders with taken := s.orders.taken.filter (fun x => decide (x.1 ≠ held)) } := by
  obtain ⟨hrecipes, -, hends⟩ := endDrain_of_open hr hl c how
  exact ⟨hrecipes, hends held hheld⟩

theorem drainCheck_waits {s : State} (h : ∃ x ∈ s.track.entries, x.recipe = .retiring) : drainCheck s = s := by
  obtain ⟨x, hx, hxr⟩ := h
  refine if_neg fun hdrained => ?_
  obtain ⟨-, hall⟩ := Bool.and_eq_true_iff.mp hdrained
  exact of_decide_eq_true (List.all_eq_true.mp hall x hx) hxr

theorem drainCheck_ends {r : Recipe} {s : State} (hr : s.recipes.retiring = some r)
    (h : ∀ x ∈ s.track.entries, x.recipe ≠ .retiring) : drainCheck s = endDrain .drained 1 s :=
  if_pos (by simpa [hr] using h)

/-! #### The confirm eye (R103, R158) -/

section ConfirmEye

variable {before after : List Entry} {e : Entry} {s : State}

theorem oldestOf_middle {st : Stage} (hsplit : s.track.entries = before ++ e :: after)
    (hbefore : ∀ x ∈ before, x.stage ≠ st) (he : e.stage = st) : oldestOf st s = some e := by
  rw [oldestOf, hsplit, List.find?_append, List.find?_eq_none.mpr (by simpa using hbefore)]
  simp [he]

/-- The entry that a serial names first leaves, and the others keep their places (R59). -/
theorem removeEntry_middle (hsplit : s.track.entries = before ++ e :: after)
    (hserials : ∀ x ∈ before, x.serial ≠ e.serial) (d : Disposition) :
    (removeEntry e d s).track = { s.track with entries := before ++ after } := by
  have herased : s.track.entries.eraseP (fun x => decide (x.serial = e.serial)) = before ++ after := by
    rw [hsplit, List.eraseP_append_right _ (by simpa using hserials), List.eraseP_cons_of_pos (by simp)]
  rw [← herased]
  rfl

theorem confirmEyeArrival_removes (htakes : s.takesCans = true) (hold : oldestOf .pastReject s = some e)
    (hd : e.decision = some .accept) :
    exec .confirmEyeArrival s = .next (drainCheck (removeEntry e .passed s)) := by
  simp [exec, execConfirmEyeArrival, htakes, hold, hd, removeWithDrain]

end ConfirmEye

/-! #### TRACK_FLUSH (R60, R9, R159) -/

section Flush

variable {slot : Slot} {s : State}

theorem takeOrder_trackFlush (hkind : slotWord s slot 1 = 11) (hstate : s.part.state = .stopped ∨ s.part.state = .faultStop) :
    takeOrder slot s = orderTrackFlush slot s := by
  refine takeOrder_of_kind (k := .trackFlush) (by rw [hkind]; rfl) ?_
  rcases hstate with h | h <;>
    simp [orderFailure, OrderKind.allowedIn, OrderKind.needsSwitch, OrderKind.admittedBy, OrderKind.argsIn,
      OrderKind.calClass, h]

/-- The line flushed, ahead of the drain's end: no entry, no pending read and no open weighing (R60, R9). -/
def lineFlushed (s : State) : State := emptyPlatform (setReads [] (flushEntries s))

theorem orderTrackFlush_eq (slot : Slot) (s : State) : orderTrackFlush slot s =
    finishOrder slot .done (wordOfNat s.track.entries.length)
      (if s.recipes.retiring.isSome then endDrain .flush 2 (lineFlushed s) else lineFlushed s) := by
  have hrecipes : (lineFlushed s).recipes = s.recipes := by simp [lineFlushed]
  rw [← hrecipes]
  rfl

@[simp] theorem lineFlushed_frame (s : State) : let t := lineFlushed s
    t.pins = s.pins ∧ t.part = s.part ∧ t.cal = s.cal ∧ t.reader = s.reader ∧ t.filler = s.filler ∧ t.reject = s.reject ∧
    t.valves = s.valves ∧ t.dose = s.dose ∧ t.recipes = s.recipes ∧ t.orders = s.orders ∧ t.pending = s.pending := by
  simp [lineFlushed]

theorem lineFlushed_fields (s : State) : let t := lineFlushed s
    t.track = { s.track with entries := [], reads := [] } ∧
    t.exch = s.track.entries.foldl (fun m x => m.logRecord (logWords x .flushed)) s.exch ∧
    t.weigh.platform = [] ∧ t.weigh.jam = .stopped ∧ t.weigh.z = s.weigh.z ∧ t.weigh.samples = s.weigh.samples ∧
    t.weigh.zeroSet = s.weigh.zeroSet := by
  obtain ⟨htrack, hexch⟩ := flushEntries_fields s
  obtain ⟨hweigh, -⟩ := emptyPlatform_weigh (setReads [] (flushEntries s))
  refine ⟨?_, ?_, ?_⟩
  · simp [lineFlushed, setReads, htrack]
  · simpa [lineFlushed] using hexch
  · rw [lineFlushed, hweigh]
    simp

end Flush

/-- Settles O49: the last RETIRING entry ends the drain at its removal, another one holds it open, and a flush ends it on the
emptied track. -/
theorem theDrainEndsAtTheLastEntryOrAFlush : Obligations.TheDrainEndsAtTheLastEntryOrAFlush := by
  intro before after e r l held slot s b records ends cleared
  have hends {x : Exchange} (hx : x.timeTag = s.exch.timeTag) (c : LotCause) (how : Nat) :
      drainTold r l held s.recipes.boundary s.recipes.closedPos c how x = ends x c how := by
    simp only [drainTold, filedLot, hx]
    rfl
  refine ⟨fun htakes hsplit hstages hserials hstage hd hr hl hheld => ?_, fun hkind hstate => ?_⟩
  · have hremoved := removeEntry_middle hsplit hserials .passed
    refine ⟨_, confirmEyeArrival_removes htakes (oldestOf_middle hsplit hstages hstage) hd, by simpa using hremoved,
      fun hmore => ?_, fun hlast => ?_⟩
    · rw [drainCheck_waits (by rwa [hremoved])]
      exact ⟨rfl, .intro⟩
    · obtain ⟨hrecipes, hexch, horders⟩ := endDrain_of_held (s := removeEntry e .passed s) hr hl hheld .drained 1
      rw [drainCheck_ends (s := removeEntry e .passed s) hr (by rwa [hremoved])]
      exact ⟨hexch.trans (hends (Exchange.logRecord_timeTag ..) _ _), hrecipes, horders, .intro⟩
  · intro t n
    have ht : t = _ := (takeOrder_trackFlush hkind hstate).trans (orderTrackFlush_eq slot s)
    obtain ⟨htrack, hexch, hweigh⟩ := lineFlushed_fields s
    obtain ⟨hflushed, htweigh⟩ : t.track = (lineFlushed s).track ∧ t.weigh = (lineFlushed s).weigh := by
      rw [ht]
      split <;> simp
    rw [← htweigh] at hweigh
    obtain ⟨hplatform, hjam, hz, hsamples, hzero⟩ := hweigh
    refine ⟨hflushed.trans htrack, hplatform, hjam, hz, hsamples, hzero, fun hnone => ?_, fun hr hl hheld => ?_⟩
    · rw [hnone, Option.isSome_none, if_neg Bool.false_ne_true] at ht
      rw [ht]
      exact ⟨congrArg (·.finishSlot slot .done n) hexch, .intro⟩
    · rw [hr, Option.isSome_some, if_pos rfl] at ht
      have hrecipes : (lineFlushed s).recipes = s.recipes := by simp
      have horders : (lineFlushed s).orders = s.orders := by simp
      have hdrained := endDrain_of_held (s := lineFlushed s) (by rwa [hrecipes]) (by rwa [hrecipes]) (by rwa [hrecipes]) .flush 2
      rw [hrecipes, horders, hexch] at hdrained
      obtain ⟨htrecipes, htexch, htorders⟩ := hdrained
      rw [ht]
      refine ⟨congrArg (·.finishSlot slot .done n) (htexch.trans (hends (foldl_logRecord_timeTag ..) _ _)),
        by simpa using htrecipes, fun x => ?_, .intro⟩
      simp only [finishOrder_taken, htorders, List.mem_filter, decide_eq_true_eq]
      tauto

end Sys2Proof.Machine

namespace Sys2Proof.Machine

/-! PROOFS. The checks of a staged recipe in the order of its fields, and the copy of one that passes them (R153, R154). -/

/-! #### The lot_text of an area (The recipe, Recipe areas) -/

/-- A byte of a word, the most significant first. -/
theorem wordBytes_byte (w : Word) {j : Nat} (hj : j < 4) :
    ((wordBytes w).getD j 0).toNat = w.toNat / 256 ^ (3 - j) % 256 := by
  match j, hj with
  | 0, _ | 1, _ | 2, _ | 3, _ => simp [wordBytes, BitVec.extractLsb'_toNat, Nat.shiftRight_eq_div_pow]

theorem areaText_byte (w : Nat → Word) {k : Nat} (hk : k < 12) :
    ((areaText w).getD k 0).toNat = (w (1 + k / 4)).toNat / 256 ^ (3 - k % 4) % 256 := by
  rw [← wordBytes_byte _ (Nat.mod_lt k (by omega))]
  match k, hk with
  | 0, _ | 1, _ | 2, _ | 3, _ | 4, _ | 5, _ | 6, _ | 7, _ | 8, _ | 9, _ | 10, _ | 11, _ => rfl

theorem printable_iff {c : Byte} : printable c = true ↔ 0x20 ≤ c.toNat ∧ c.toNat ≤ 0x7E := by
  simp [printable]

theorem ne_zero_of_printable {c : Byte} (h : printable c = true) : c ≠ 0 := by
  rintro rfl
  exact absurd h (by decide)

/-- The first `c` characters of a field are the text, and zero bytes follow. -/
structure TextEndsAt (l : List Byte) (c : Nat) : Prop where
  some : 1 ≤ c
  within : c ≤ l.length
  printable : ∀ k, k < c → printable (l.getD k 0) = true
  zeros : ∀ k, c ≤ k → k < l.length → l.getD k 0 = 0

theorem textEndsAt_of_accepted {l : List Byte} (h : textAccepted l = true) : TextEndsAt l (textChars l).length := by
  simp only [textAccepted, Bool.and_eq_true, decide_eq_true_eq, List.all_eq_true] at h
  obtain ⟨⟨hsome, hprint⟩, hzeros⟩ := h
  have hprefix : textChars l <+: l := List.takeWhile_prefix _
  refine ⟨hsome, hprefix.length_le, fun k hk => ?_, fun k hlow hhigh => ?_⟩
  · rw [List.getD_eq_getElem _ _ (hk.trans_le hprefix.length_le), ← hprefix.getElem hk]
    exact hprint _ (List.getElem_mem hk)
  · rw [List.getD_eq_getElem _ _ hhigh]
    exact hzeros _ (List.mem_drop_iff_getElem.mpr ⟨k - (textChars l).length, by omega, by congr 1; omega⟩)

/-- The text stops at the first zero byte, which no printable character is. -/
theorem TextEndsAt.textChars_eq {l : List Byte} {c : Nat} (h : TextEndsAt l c) : textChars l = l.take c := by
  have hchars : ∀ b ∈ l.take c, decide (b ≠ 0) = true := by
    intro b hb
    obtain ⟨k, hk, rfl⟩ := List.mem_take_iff_getElem.mp hb
    obtain ⟨hkc, hkl⟩ := lt_min_iff.mp hk
    exact decide_eq_true (ne_zero_of_printable (List.getD_eq_getElem l 0 hkl ▸ h.printable k hkc))
  have hend : (l.drop c).takeWhile (fun b => decide (b ≠ 0)) = [] := by
    refine List.takeWhile_eq_nil_iff.mpr fun hpos => ?_
    have hlength : c < l.length := by simpa using hpos
    have hzero : l[c] = 0 := List.getD_eq_getElem l 0 hlength ▸ h.zeros c le_rfl hlength
    simpa using hzero
  calc textChars l = (l.take c ++ l.drop c).takeWhile (fun b => decide (b ≠ 0)) := by
        rw [List.take_append_drop, textChars]
    _ = l.take c := by rw [List.takeWhile_append_of_pos hchars, hend, List.append_nil]

theorem textAccepted_iff {l : List Byte} : textAccepted l = true ↔ ∃ c, TextEndsAt l c := by
  refine ⟨fun h => ⟨_, textEndsAt_of_accepted h⟩, fun ⟨c, h⟩ => ?_⟩
  have hlength : (l.take c).length = c := List.length_take_of_le h.within
  simp only [textAccepted, h.textChars_eq, hlength, Bool.and_eq_true, decide_eq_true_eq, List.all_eq_true]
  refine ⟨⟨h.some, fun b hb => ?_⟩, fun b hb => ?_⟩
  · obtain ⟨k, hk, rfl⟩ := List.mem_take_iff_getElem.mp hb
    obtain ⟨hkc, hkl⟩ := lt_min_iff.mp hk
    exact List.getD_eq_getElem l 0 hkl ▸ h.printable k hkc
  · obtain ⟨k, hk, rfl⟩ := List.mem_drop_iff_getElem.mp hb
    have hin : c + k < l.length := by omega
    exact List.getD_eq_getElem l 0 hin ▸ h.zeros (c + k) (by omega) hin

/-- What a text accepted leaves out of its field is zero bytes, so that each character reads as the field's byte. -/
theorem textChars_getD {l : List Byte} (h : textAccepted l = true) {k : Nat} (hk : k < l.length) :
    (textChars l).getD k 0 = l.getD k 0 := by
  have hprefix : textChars l <+: l := List.takeWhile_prefix _
  by_cases hin : k < (textChars l).length
  · rw [List.getD_eq_getElem _ _ hin, List.getD_eq_getElem _ _ hk, hprefix.getElem hin]
  · rw [List.getD_eq_default _ _ (by omega), (textEndsAt_of_accepted h).zeros k (by omega) hk]

theorem ne_zero_of_mem_textChars {l : List Byte} {c : Byte} (h : c ∈ textChars l) : c ≠ 0 := by
  simpa using List.mem_takeWhile_imp h

/-- The lot_text of an area is accepted by its twelve bytes, each read from its word (The recipe). -/
theorem textAccepted_areaText_iff {w : Nat → Word} :
    let byte := fun k => (w (1 + k / 4)).toNat / 256 ^ (3 - k % 4) % 256
    textAccepted (areaText w) = true ↔
      ∃ c, 1 ≤ c ∧ c ≤ 12 ∧ (∀ k, k < c → 0x20 ≤ byte k ∧ byte k ≤ 0x7E) ∧ (∀ k, c ≤ k → k < 12 → byte k = 0) := by
  intro byte
  have hbyte {k : Nat} (hk : k < 12) : ((areaText w).getD k 0).toNat = byte k := areaText_byte w hk
  have hprintable {k : Nat} (hk : k < 12) :
      printable ((areaText w).getD k 0) = true ↔ 0x20 ≤ byte k ∧ byte k ≤ 0x7E := by rw [printable_iff, hbyte hk]
  have hzero {k : Nat} (hk : k < 12) : (areaText w).getD k 0 = 0 ↔ byte k = 0 := by
    rw [← hbyte hk, ← BitVec.toNat_inj]
    rfl
  rw [textAccepted_iff]
  refine exists_congr fun c => ⟨fun h => ?_, fun ⟨hsome, hwithin, hprint, hzeros⟩ => ?_⟩
  · obtain ⟨hsome, hwithin, hprint, hzeros⟩ := h
    rw [length_areaText] at hwithin hzeros
    exact ⟨hsome, hwithin, fun k hk => (hprintable (hk.trans_le hwithin)).mp (hprint k hk),
      fun k hlow hhigh => (hzero hhigh).mp (hzeros k hlow hhigh)⟩
  · exact ⟨hsome, hwithin, fun k hk => (hprintable (hk.trans_le hwithin)).mpr (hprint k hk),
      fun k hlow hhigh => (hzero hhigh).mpr (hzeros k hlow hhigh)⟩

/-! #### The order of the checks (R153, R154) -/

/-- The check of a field by its number. -/
def fieldAccepted (w : Nat → Word) (k : Nat) : Bool := ((recipeChecks w).getD (k - 1) (0, true)).2

theorem inRange_iff {lo hi n : Nat} : inRange lo hi n = true ↔ lo ≤ n ∧ n ≤ hi := by simp [inRange]

theorem recipeChecks_number (w : Nat → Word) {i : Nat} (hi : i < (recipeChecks w).length) :
    ((recipeChecks w)[i]).1 = i + 1 := by
  have hnumbers : (recipeChecks w).map (·.1) = (List.range 31).map (· + 1) := rfl
  have h := List.getElem_of_eq hnumbers (i := i) (by simpa using hi)
  simpa using h

theorem fieldAccepted_eq (w : Nat → Word) {k : Nat} (hi : k - 1 < (recipeChecks w).length) :
    fieldAccepted w k = ((recipeChecks w)[k - 1]).2 := by
  rw [fieldAccepted, List.getD_eq_getElem _ _ hi]

/-- The first field that fails is the failure. -/
theorem recipeFailure_eq_some {w : Nat → Word} {n : Nat} (hlow : 1 ≤ n) (hhigh : n ≤ 31)
    (hbefore : ∀ k, 1 ≤ k → k < n → fieldAccepted w k = true) (hn : fieldAccepted w n = false) :
    recipeFailure w = some n := by
  have hlength : (recipeChecks w).length = 31 := rfl
  have hi : n - 1 < (recipeChecks w).length := by omega
  have hfound : (recipeChecks w).find? (fun c => !c.2) = some (recipeChecks w)[n - 1] := by
    refine List.find?_eq_some_iff_getElem.mpr ⟨?_, n - 1, hi, rfl, fun j hj => ?_⟩
    · rw [← fieldAccepted_eq w hi, hn]
      rfl
    · have h := hbefore (j + 1) (by omega) (by omega)
      rw [fieldAccepted_eq w (by omega)] at h
      simpa using h
  rw [recipeFailure, hfound, Option.map_some, recipeChecks_number w hi]
  congr 1
  omega

theorem recipeFailure_eq_none {w : Nat → Word} (h : ∀ k, 1 ≤ k → k ≤ 31 → fieldAccepted w k = true) :
    recipeFailure w = none := by
  have hlength : (recipeChecks w).length = 31 := rfl
  rw [recipeFailure, Option.map_eq_none_iff, List.find?_eq_none]
  intro c hc
  obtain ⟨i, hi, rfl⟩ := List.getElem_of_mem hc
  have hfield := h (i + 1) (by omega) (by omega)
  rw [fieldAccepted_eq w (by omega)] at hfield
  simpa using hfield

/-! #### The order -/

theorem orderChangeover_failed {slot : Slot} {s : State} {n : Nat} (hheld : s.recipes.held = none)
    (hret : s.recipes.retiring = none) (hfail : recipeFailure (stagedWord s) = some n) :
    orderChangeover slot s = finishOrder slot .badRecipe (wordOfNat n) s := by
  simp [orderChangeover, hheld, hret, hfail]

/-- A recipe that passes is in force at once in CONFIG, and waits as the next one on the line (R155, R156). -/
theorem orderChangeover_takes {slot : Slot} {s : State} (hheld : s.recipes.held = none)
    (hret : s.recipes.retiring = none) (hvalid : recipeFailure (stagedWord s) = none) :
    let t := orderChangeover slot s
    (s.part.state = .config → t.recipes.active = some (recipeCopy (stagedWord s))) ∧
    (s.part.state ≠ .config → t.recipes.next = some (recipeCopy (stagedWord s))) := by
  intro t
  have ht : t = if s.part.state = .config then changeoverInConfig (recipeCopy (stagedWord s)) slot s
      else changeoverOnLine (recipeCopy (stagedWord s)) slot s := orderChangeover_valid hheld hret hvalid
  refine ⟨fun hconfig => ?_, fun hline => ?_⟩
  · obtain ⟨hrecipes, -⟩ := changeoverDone_fields (recipeCopy (stagedWord s)) slot s
    rw [ht, if_pos hconfig, changeoverInConfig_eq]
    simp [hrecipes]
  · rw [ht, if_neg hline]
    rfl

/-- Settles O51: the text by its twelve bytes, the other fields by their numbers, and the copy of the area that passes. -/
theorem theStagedRecipeIsChecked : Obligations.TheStagedRecipeIsChecked := by
  intro slot n s hstate hkind hheld hret word byte f text ok grade t
  have ht : t = orderChangeover slot s :=
    takeOrder_changeover hkind (by simpa [or_assoc] using hstate)
  have hok (k : Nat) (hlow : 1 ≤ k) (hhigh : k ≤ 31) : ok k ↔ fieldAccepted (stagedWord s) k = true := by
    have htext : text ↔ textAccepted (areaText (stagedWord s)) = true := textAccepted_areaText_iff.symm
    interval_cases k
    · exact htext
    all_goals
      simp only [fieldAccepted, recipeChecks, List.getD_cons_succ, List.getD_cons_zero, inRange_iff, Nat.reduceSub,
        Nat.zero_le, true_and, and_assoc, Bool.and_eq_true, decide_eq_true_eq]
      exact Iff.rfl
  refine ⟨fun hlow hhigh hbefore hn => ?_, fun hall => ?_⟩
  · have hfail : recipeFailure (stagedWord s) = some n := recipeFailure_eq_some hlow hhigh
      (fun k h1 hk => (hok k h1 (by omega)).mp (hbefore k h1 hk))
      (Bool.eq_false_iff.mpr fun h => hn ((hok n hlow hhigh).mpr h))
    exact ht.trans (orderChangeover_failed hheld hret hfail)
  · have hvalid : recipeFailure (stagedWord s) = none :=
      recipeFailure_eq_none fun k h1 hk => (hok k h1 hk).mp (hall k h1 hk)
    have htext : textAccepted (areaText (stagedWord s)) = true := (hok 1 le_rfl (by omega)).mp (hall 1 le_rfl (by omega))
    obtain ⟨hconfig, hline⟩ := orderChangeover_takes (slot := slot) hheld hret hvalid
    obtain ⟨-, hlength, -⟩ := textChars_legal htext
    rw [ht]
    refine ⟨recipeCopy (stagedWord s), hconfig, hline, fun k hk => ?_, hlength, fun c hc => ne_zero_of_mem_textChars hc,
      rfl, by simp [recipeCopy], fun k hk => ?_⟩
    · calc (((recipeCopy (stagedWord s)).lotText).getD k 0).toNat = ((areaText (stagedWord s)).getD k 0).toNat :=
            congrArg BitVec.toNat (textChars_getD htext (by rwa [length_areaText]))
        _ = byte k := areaText_byte (stagedWord s) hk
    · simp [recipeCopy, word, stagedWord, stagedBase, hk]

end Sys2Proof.Machine
